-- ==== Sys2Proof/Word.lean ====
section
/-! DEFINITION. Words of the T1 and sparse maps. R8: multi-byte words are little-endian; R9: registers are 32 bits. -/

namespace Sys2Proof

/-- One byte of memory, larder or message. -/
abbrev Byte := BitVec 8

/-- A lane, register or timetable word of 32 bits (R9, R164). -/
abbrev Word := BitVec 32

/-- A sparse map from a number to data: the listed keys in rising order. An unlisted key reads as a default that the
reader names. -/
abbrev SMap (α : Type) := List (Nat × α)

/-- Sparse memory: the listed bytes in rising address order, no listed byte zero. -/
abbrev Mem := List (Nat × BitVec 8)

end Sys2Proof
end

