-- ==== Sys2Proof/Syntax.lean ====
section
/-! DEFINITION. The commands of the T1: one constructor of `Instr` for each row of spec/opcode_table.json, with the
row's operands, and the data those operands carry (timetable fields R206 to R235, stage words R171, update words R254,
messages R295, R316, R332, R335, dictionary requests R422). -/

namespace Sys2Proof

/-! ### Timetable entries -/

/-- Bits [14:8] of every timetable entry (R206): the counter to signal at completion, and whether to. -/
structure Cmn where
  ctoken : Nat := 0
  csig : Bool := false
  deriving DecidableEq, Repr

/-- A memory address of an entry (R208): region 0 ABS, 1 COMMITTED, 2 UNCOMMITTED, 3 BATCH, and an offset. -/
structure MemAddr where
  region : Nat
  offset : Nat
  deriving DecidableEq, Repr

/-- LOAD and STORE (R209). `linew` and `lines` are stored minus 1. -/
structure MoveF where
  mem : MemAddr
  larder : Nat
  linew : Nat
  lines : Nat
  pitch : Nat
  deriving DecidableEq, Repr

/-- STASH (R210). -/
structure StashF where
  stashNo : Nat
  larder : Nat
  linew : Nat
  lines : Nat
  skipZero : Bool
  deriving DecidableEq, Repr

/-- UNSTASH (R210). -/
structure UnstashF where
  stashNo : Nat
  larder : Nat
  deriving DecidableEq, Repr

/-- ARRAY_MVM (R211). -/
structure MvmF where
  posmask : Nat
  bank : Nat
  gain : Nat
  inbase : Nat
  insel : Nat
  scbase : Nat
  fmt : Nat
  tile : Nat
  start : Bool
  areg : Nat
  row : Nat
  out : Nat
  rpt : Nat
  rstep : Nat
  tag : Nat
  deriving DecidableEq, Repr

/-- ARRAY_WRITE in FULL mode (R212). -/
structure WriteFullF where
  posmask : Nat
  bank : Nat
  newImg : MemAddr
  tag : Nat
  deriving DecidableEq, Repr

/-- ARRAY_WRITE in DELTA mode (R212). -/
structure WriteDeltaF where
  posmask : Nat
  bank : Nat
  newImg : MemAddr
  oldImg : MemAddr
  tag : Nat
  deriving DecidableEq, Repr

/-- MATMUL (R213). `m` and `n` are stored minus 1. -/
structure MatmulF where
  adesc : Nat
  bdesc : Nat
  tile : Nat
  start : Bool
  areg : Nat
  m : Nat
  n : Nat
  kb : Nat
  across : Bool
  bcross : Bool
  breuse : Bool
  deriving DecidableEq, Repr

/-- FWADD (R215). -/
structure FwaddF where
  record : Nat
  rdesc : Nat
  tile : Nat
  start : Bool
  deriving DecidableEq, Repr

/-- ANCHOR in mode SET (R216): `imm` holds the 16 bits of a signed value. -/
structure AnchorSetF where
  areg : Nat
  imm : Nat
  deriving DecidableEq, Repr

/-- ANCHOR in mode SCALES (R216). Counts are stored minus 1. -/
structure AnchorScalesF where
  areg : Nat
  imm : Nat
  addr1 : Nat
  cnt1 : Nat
  addr2 : Nat
  cnt2 : Nat
  deriving DecidableEq, Repr

/-- ANCHOR in mode DESCS (R216). -/
structure AnchorDescsF where
  areg : Nat
  imm : Nat
  addr1 : Nat
  cnt1 : Nat
  deriving DecidableEq, Repr

/-- DRAIN of kind NARROW, WIDE or VECTOR (R217). -/
structure DrainF where
  tile : Nat
  target : Nat
  clist : Nat
  wdesc : Nat
  rowbase : Nat
  olist : Nat
  deriving DecidableEq, Repr

/-- DRAIN of kind FULL (R217): `fdesc` is the larder address of the record's descriptor. -/
structure DrainFullF where
  tile : Nat
  target : Nat
  fdesc : Nat
  clist : Nat
  wdesc : Nat
  rowbase : Nat
  olist : Nat
  deriving DecidableEq, Repr

/-- VSTREAM (R218). -/
structure VstreamF where
  chain : Nat
  maskgen : Nat
  qpos : Nat
  kpos : Nat
  window : Nat
  olist : Nat
  deriving DecidableEq, Repr

/-- SEND (R219). -/
structure SendF where
  dmod : Nat
  dcore : Nat
  loc : Bool
  dtoken : Nat
  dsig : Bool
  channel : Nat
  srcMem : Bool
  src : Nat
  len : Nat
  deriving DecidableEq, Repr

/-- RECV (R219). -/
structure RecvF where
  smod : Nat
  score : Nat
  loc : Bool
  channel : Nat
  dstMem : Bool
  dst : Nat
  len : Nat
  deriving DecidableEq, Repr

/-- ROUTE (R233). -/
structure RouteF where
  choices : Nat
  rows : Nat
  ntok : Nat
  k : Nat
  tokbase : Nat
  layer : Nat
  flush : Bool
  retrow : Nat
  roww : Nat
  deriving DecidableEq, Repr

/-- RETURN (R235). -/
structure ReturnF where
  src : MemAddr
  firstslot : Nat
  nslot : Nat
  layer : Nat
  flush : Bool
  roww : Nat
  deriving DecidableEq, Repr

/-- WAIT_TOKEN (R220). -/
structure WaitF where
  token : Nat
  count : Nat
  keep : Bool
  deriving DecidableEq, Repr

/-- SIGNAL (R220). -/
structure SignalF where
  dmod : Nat
  dcore : Nat
  loc : Bool
  self : Bool
  token : Nat
  count : Nat
  units : Nat
  deriving DecidableEq, Repr

/-- A timetable entry's operation and fields (R207). -/
inductive Entry where
  | load (f : MoveF)
  | store (f : MoveF)
  | stash (f : StashF)
  | unstash (f : UnstashF)
  | arrayMvm (f : MvmF)
  | arrayWriteFull (f : WriteFullF)
  | arrayWriteDelta (f : WriteDeltaF)
  | matmul (f : MatmulF)
  | fwadd (f : FwaddF)
  | drainNarrow (f : DrainF)
  | drainWide (f : DrainF)
  | drainVector (f : DrainF)
  | drainFull (f : DrainFullF)
  | vstream (f : VstreamF)
  | send (f : SendF)
  | recv (f : RecvF)
  | route (f : RouteF)
  | ret (f : ReturnF)
  | waitToken (f : WaitF)
  | signal (f : SignalF)
  | fence (units : Nat)
  | anchorSet (f : AnchorSetF)
  | anchorScales (f : AnchorScalesF)
  | anchorDescs (f : AnchorDescsF)
  | nop
  | commitPoint
  deriving DecidableEq, Repr

/-- What the hardware's checkers report when an entry completes (R159, R193, R353): faults of nature, so an operand. -/
structure Checks where
  residueProduct : Bool := false
  residueAccum : Bool := false
  residueVector : Nat := 0        -- cause of VCHECK (R195), 0 for none
  xfer : Bool := false            -- a path checker failed (R380)
  badWord : Option Nat := none    -- a memory word read with an uncorrectable error (R353)
  deriving DecidableEq, Repr

/-! ### Vector engine -/

/-- The fields of a stage word beside its OP (R171). -/
structure StageW where
  srca : Nat := 3
  srcb : Nat := 6
  srcc : Nat := 6
  maskin : Nat := 0
  zero : Bool := false
  mout : Nat := 0
  sub : Nat := 0
  imm : BitVec 32 := 0
  deriving DecidableEq, Repr

/-- Vector operations (R174, R182, R187, R190). -/
inductive VOp where
  | mov | add | sub | mul | fma | max | min | abs | neg | scale | func | cmp | sel | cvti | cvtf
  | iadd | isub | imul | and | or | xor | shl | shra | shrl | imax | imin | icmp | perm
  | rsum | rprod | rmax | rmin | rargmax | rargmin | rand | ror | rxor | risum | rimax | rimin | mwadd
  deriving DecidableEq, Repr

/-- Kinds of a stream descriptor (R170). -/
inductive SKind where
  | larder | tile | full | broadcast | mask | absent | mwrec
  deriving DecidableEq, Repr

/-- A stream descriptor (R170). -/
structure Stream where
  base : Nat := 0
  linePitch : Nat := 0
  blockPitch : Nat := 0
  scaleBase : Nat := 0
  scaleLinePitch : Nat := 0
  scaleBlockPitch : Nat := 0
  fmt : Nat := 0
  kind : SKind := .absent
  raw : Bool := false
  outlier : Bool := false
  slotBase : Nat := 0
  slotSpan : Nat := 0
  deriving DecidableEq, Repr

/-- One stage of a chain (R171). -/
structure Stage where
  op : VOp
  w : StageW
  deriving DecidableEq, Repr

/-- A chain (R169): header, five streams, stages. -/
structure Chain where
  count : Nat
  segment : Nat := 1
  vl : Nat := 64
  anchorReg : Nat := 0
  words : Nat := 4
  flagOut : Bool := false
  flagBase : Nat := 0
  scalarAddr : Nat := 0
  indexBase : Nat := 0
  indexPitch : Nat := 0
  s0 : Stream := {}
  s1 : Stream := {}
  s2 : Stream := {}
  mstr : Stream := {}
  d : Stream := {}
  stages : List Stage := []
  deriving DecidableEq, Repr

/-- A reading of one column or converter in a calibration slot (R109), in 1/1,024 converter step, and its over-range
flag. Readings are analogue, so they come as an operand. -/
structure CalRead where
  value : Int := 0
  flagged : Bool := false
  deriving DecidableEq, Repr

/-- One calibration measurement (R109, R112): what one pass found for a column or a converter, from the means of its
readings. Gains in 2^-10, offsets in 1/32 step, levels and steps in 1/1,024. -/
structure Meas where
  gain : Int
  offset : Int
  scatter : Nat := 0      -- standard deviation of the repeats, 1/1,024 step
  spread : Nat := 0       -- REF1 and REF2 readings against the median, 1/1,024 step
  ratioErr : Nat := 0     -- worst ratio of neighbouring gains, distance from 2 in 1/1,000 of 2
  flagged : Bool := false
  linErr : Nat := 0       -- REF3 midpoint against REF0, 1/1,024 step
  deriving DecidableEq, Repr

/-! ### Update engines -/

/-- The fields of an update instruction beside its OP (R254). -/
structure UpdF where
  dst : Nat := 0
  a : Nat := 0
  b : Nat := 0
  c : Nat := 0
  kidx : Nat := 0
  ksel : Nat := 0
  sub : Nat := 0
  deriving DecidableEq, Repr

/-! ### Messages of the fabric -/

/-- A bucket message (R295): header fields and body. Integers are the 32 elements of each block. -/
structure BucketMsg where
  kind : Nat
  second : Bool
  shadow : Bool
  skewSeen : Bool
  group : Nat
  ring : Nat
  bucket : Nat
  step : Nat
  attempt : Nat
  blockCount : Nat
  hops : Nat
  originPos : Nat
  ints : List (List Int)
  peaks : List Nat
  recross : List Bool
  checkOk : Bool := true
  deriving DecidableEq, Repr

/-- A vote message (R332). -/
structure VoteMsg where
  pass : Bool
  digestDiffer : Bool
  voters : Nat
  digest : Nat
  step : Nat
  attempt : Nat
  sum : Nat := 0
  deriving DecidableEq, Repr

/-- A fabric frame (R316): header fields, payload bytes, and whether its FrameCheck holds. -/
structure Frame where
  dest : Nat
  src : Nat
  cls : Nat
  first : Bool := true
  last : Bool := true
  sroute : Bool := false
  words : Nat := 1
  hopLimit : Nat := 32
  context : Nat := 0xFFFF
  attempt : Nat := 0
  stepLow : Nat := 0
  msgSeq : Nat := 0
  frameIndex : Nat := 0
  payload : List Byte := []
  checkOk : Bool := true
  aborted : Bool := false
  deriving DecidableEq, Repr

/-- One codeword as a lane receives it (R314): its 552 symbols of 10 bits, the first first, symbol errors among them. -/
structure Codeword where
  symbols : List Nat
  deriving DecidableEq, Repr

/-- The far end of a lane as its identity frames give it (R312): serial number, address, lane, whether that is one of a
bonded pair, and for a spare the port it stands in for (R313). -/
structure Neighbour where
  serial : Nat
  addr : Nat
  lane : Nat
  bondedPair : Bool := false
  standsFor : Option Nat := none
  deriving DecidableEq, Repr

/-- A traveller header with its row (R334). -/
structure Traveller where
  srcModule : Nat
  srcCore : Nat
  token : Nat
  layer : Nat
  r : Nat
  k : Nat
  round : Nat
  returnRow : Nat
  choices : List Nat
  row : List Byte
  deriving DecidableEq, Repr

/-- A return header with its row (R341). -/
structure ReturnRow where
  innModule : Nat
  srcCore : Nat
  returnRow : Nat
  layer : Nat
  choice : Nat
  copy : Nat
  slot : Nat
  row : List Byte
  deriving DecidableEq, Repr

/-- An OUTBOUND caravan (R335). `reuse` travellers carry the copy and slot at which they were accepted (R340). -/
structure CaravanOut where
  last : Bool
  reuse : Bool
  layer : Nat
  round : Nat
  rowWords : Nat
  step : Nat
  attempt : Nat
  srcModule : Nat
  entries : List Traveller
  checkOk : Bool := true
  deriving DecidableEq, Repr

/-- A RETURN caravan (R335, R341). -/
structure CaravanRet where
  last : Bool
  layer : Nat
  rowWords : Nat
  step : Nat
  attempt : Nat
  srcModule : Nat
  entries : List ReturnRow
  checkOk : Bool := true
  deriving DecidableEq, Repr

/-! ### Host and management -/

/-- Register sections (R101, R161, R195, R240, R377, R274, R306, R348, R471, R502, R388, R453, R414 to R416, R426). The
host mailbox section has a firmware side (R408). -/
inductive Sec where
  | array | engine | vector | seq | watch
  | update | exch | fabric | recovery | clock | power
  | gu | hk | host | mbHost | mbFw | dma | win
  deriving DecidableEq, Repr

/-- The three dictionary paths (R426 to R428) with their source. -/
inductive DPath where
  | window
  | fabric (src : Nat)
  | mctp (eid : Nat)
  deriving DecidableEq, Repr

/-- A dictionary request (R422): everything but its Op. -/
structure DReq where
  path : DPath
  tag : Nat := 0
  index : Nat
  sub : Nat
  offset : Nat := 0
  length : Nat := 0
  last : Bool := true
  flagsBad : Bool := false     -- a reserved flag or field was set
  data : List Byte := []
  deriving DecidableEq, Repr

/-- The fields of a DMA descriptor (R405). -/
structure DmaDesc where
  hostAddr : Nat
  moduleAddr : Nat
  length : Nat
  toHost : Bool
  irq : Bool
  fence : Bool
  reservedSet : Bool := false
  deriving DecidableEq, Repr

/-- How a DMA transfer ended on its path (R406): nature and the host decide. -/
inductive DmaEnd where
  | ok | xferCheck | hostError
  deriving DecidableEq, Repr

/-- A firmware image: what its header says, the verdicts of its two cryptographic checks, and its bytes (R476, R477). -/
structure Image where
  svn : Nat
  version : Nat
  bodyLength : Nat
  signer : Nat
  revokeMask : Nat
  headerOk : Bool
  signatureOk : Bool
  bodyDigestOk : Bool
  bytes : List Byte
  deriving DecidableEq, Repr

/-- The outcome of the power-up self-test (R367 to R369): what nature found, with the measurements of its calibration
pass. What fails is named by die, column and physical row; measurements by logical core of the mapping that the test ends
with. -/
structure SelfTest where
  dieLinkFail : Bool := false
  badCores : List (Nat × Nat × Nat × Nat) := []    -- die, column, physical row, test 2 to 4
  routerFail : List Nat := []                      -- dies
  hubFail : Bool := false
  badEngines : List Nat := []
  badCols : List (Nat × Nat × Nat × Nat × Nat) := []   -- die, column, physical row, array, its column
  badConvs : List (Nat × Nat × Nat × Nat × Nat) := []  -- die, column, physical row, position, converter
  exclusions : List (Nat × Nat) := []              -- stack, pseudo-channel
  badInputs : List (Nat × Nat) := []               -- converter, input
  lanesUp : List (Nat × Neighbour) := []
  lanesFailed : List (Nat × Option Neighbour) := []  -- with the far end where it was identified
  trims : List (Nat × Nat × Nat × Meas) := []      -- core, array, column
  convTrims : List (Nat × Nat × Nat × Meas) := []  -- core, position, converter
  margins : List (Nat × Nat) := []                 -- core and its margin, as in `Margins` (R437)
  deriving DecidableEq, Repr

/-- The readings a margin re-plan works from (R437, R438): oscillator margins in 0.01 % of the CCLK period per
logical core and per update engine, and corrected errors per hour per stack. -/
structure Margins where
  cores : List (Nat × Nat)
  engines : List (Nat × Nat) := []
  memErrors : List (Nat × Nat)
  deriving DecidableEq, Repr

/-- SPDM transports (R482). -/
inductive Transport where
  | doe | mctp
  deriving DecidableEq, Repr

/-- Management restart slots and PLLs are numbered as in CLK_STATUS (R471): 0 to 4 CCLK, 5 to 8 ATCLK, 9 to 24 PHY,
25 PCLK, 26 MCLK. -/
abbrev Pll := Nat

/-! ### Commands -/

/-- The commands: one constructor per row of spec/opcode_table.json. -/
inductive Instr where
  -- timetable entries, issued by the sequencer of logical core `core`
  | load (core : Nat) (c : Cmn) (f : MoveF)
  | store (core : Nat) (c : Cmn) (f : MoveF)
  | stash (core : Nat) (c : Cmn) (f : StashF)
  | unstash (core : Nat) (c : Cmn) (f : UnstashF)
  | arrayMvm (core : Nat) (c : Cmn) (f : MvmF)
  | arrayWriteFull (core : Nat) (c : Cmn) (f : WriteFullF)
  | arrayWriteDelta (core : Nat) (c : Cmn) (f : WriteDeltaF)
  | matmul (core : Nat) (c : Cmn) (f : MatmulF)
  | fwadd (core : Nat) (c : Cmn) (f : FwaddF)
  | drainNarrow (core : Nat) (c : Cmn) (f : DrainF)
  | drainWide (core : Nat) (c : Cmn) (f : DrainF)
  | drainVector (core : Nat) (c : Cmn) (f : DrainF)
  | drainFull (core : Nat) (c : Cmn) (f : DrainFullF)
  | vstream (core : Nat) (c : Cmn) (f : VstreamF)
  | send (core : Nat) (c : Cmn) (f : SendF)
  | recv (core : Nat) (c : Cmn) (f : RecvF)
  | route (core : Nat) (c : Cmn) (f : RouteF)
  | ret (core : Nat) (c : Cmn) (f : ReturnF)
  | waitToken (core : Nat) (c : Cmn) (f : WaitF)
  | signal (core : Nat) (c : Cmn) (f : SignalF)
  | fence (core : Nat) (c : Cmn) (units : Nat)
  | anchorSet (core : Nat) (c : Cmn) (f : AnchorSetF)
  | anchorScales (core : Nat) (c : Cmn) (f : AnchorScalesF)
  | anchorDescs (core : Nat) (c : Cmn) (f : AnchorDescsF)
  | nop (core : Nat) (c : Cmn)
  | commitPoint (core : Nat) (c : Cmn)
  | entryComplete (core unit pos : Nat) (ck : Checks)
  | tokenTimeout (core : Nat)
  -- stages of the vector engine of core `core`, on the vector in its pipeline
  | vMov (core : Nat) (w : StageW)
  | vAdd (core : Nat) (w : StageW)
  | vSub (core : Nat) (w : StageW)
  | vMul (core : Nat) (w : StageW)
  | vFma (core : Nat) (w : StageW)
  | vMax (core : Nat) (w : StageW)
  | vMin (core : Nat) (w : StageW)
  | vAbs (core : Nat) (w : StageW)
  | vNeg (core : Nat) (w : StageW)
  | vScale (core : Nat) (w : StageW)
  | vFunc (core : Nat) (w : StageW)
  | vCmp (core : Nat) (w : StageW)
  | vSel (core : Nat) (w : StageW)
  | vCvti (core : Nat) (w : StageW)
  | vCvtf (core : Nat) (w : StageW)
  | vIadd (core : Nat) (w : StageW)
  | vIsub (core : Nat) (w : StageW)
  | vImul (core : Nat) (w : StageW)
  | vAnd (core : Nat) (w : StageW)
  | vOr (core : Nat) (w : StageW)
  | vXor (core : Nat) (w : StageW)
  | vShl (core : Nat) (w : StageW)
  | vShra (core : Nat) (w : StageW)
  | vShrl (core : Nat) (w : StageW)
  | vImax (core : Nat) (w : StageW)
  | vImin (core : Nat) (w : StageW)
  | vIcmp (core : Nat) (w : StageW)
  | vPerm (core : Nat) (w : StageW)
  | rsum (core : Nat) (w : StageW)
  | rprod (core : Nat) (w : StageW)
  | rmax (core : Nat) (w : StageW)
  | rmin (core : Nat) (w : StageW)
  | rargmax (core : Nat) (w : StageW)
  | rargmin (core : Nat) (w : StageW)
  | rand (core : Nat) (w : StageW)
  | ror (core : Nat) (w : StageW)
  | rxor (core : Nat) (w : StageW)
  | risum (core : Nat) (w : StageW)
  | rimax (core : Nat) (w : StageW)
  | rimin (core : Nat) (w : StageW)
  | mwadd (core : Nat) (ch : Chain)
  -- charge arrays; arrays 0 to 7, positions 0 to 3
  | slotGrant (core pos : Nat) (still : List Nat)
  | readoutConversion (core pos : Nat) (reads : List CalRead)
  | codeTermAdd (core pos : Nat)
  | fixup (core : Nat)
  | watchRecompute (core : Nat)
  | bankLoadingStart (core array : Nat)
  | rowWrite (core array pulses : Nat) (missed : List Nat)
  | arrayWriteEnd (core array : Nat)
  | creepScanPass (core array : Nat)
  | creepRowRead (core array : Nat) (devs : List (Nat × Int))
  | refreshPulse (core array : Nat) (still : List Nat)
  | calibrationPassStart (core pos : Nat)
  | retentionAgeTick (core array : Nat)
  | calStarved (core pos : Nat)
  | calEnClear (core : Nat)
  -- step, exchange, update, commit
  | doorbellStart
  | exchangeStart (xfer : Bool)
  | bucketPeakReduce (m : BucketMsg)
  | bucketPeakFinal (m : BucketMsg)
  | bucketReduce (m : BucketMsg)
  | bucketFinal (m : BucketMsg)
  | exchangeTimeout
  | updateProgramRun (eng : Nat) (residue xfer : Bool)
  | noneGroupCopy (eng : Nat) (xfer : Bool)
  | holdAreaWrite (eng : Nat) (xfer : Bool)
  | ldg (eng : Nat) (f : UpdF)
  | ldw (eng : Nat) (f : UpdF)
  | ldm (eng : Nat) (f : UpdF)
  | updAdd (eng : Nat) (f : UpdF)
  | updSub (eng : Nat) (f : UpdF)
  | updMul (eng : Nat) (f : UpdF)
  | updFma (eng : Nat) (f : UpdF)
  | updFunc (eng : Nat) (f : UpdF)
  | updMax (eng : Nat) (f : UpdF)
  | updMin (eng : Nat) (f : UpdF)
  | stw (eng : Nat) (f : UpdF)
  | stm (eng : Nat) (f : UpdF)
  | sti (eng : Nat) (f : UpdF)
  | normTotalTimeout
  | commitCheck
  | commitUp (child : Nat) (v : VoteMsg)
  | commitDown (v : VoteMsg)
  | normUp (child : Nat) (v : VoteMsg)
  | normDown (v : VoteMsg)
  | phase7End
  | voteLost
  | retirementWritesEnd
  | holdRequest (path : DPath) (v : Nat)
  | voteResolveCommit (path : DPath)
  | voteResolveRefuse (path : DPath)
  | stepDoorbell (v : Word)
  | ledgerLoadAsIs (path : DPath)
  | ledgerLoadRebuildCells (path : DPath)
  | ledgerLoadFresh (path : DPath)
  | ledgerLoadComplete
  | timetableLoad (path : DPath)
  | timetableLoadComplete
  | reductionLoad (path : DPath)
  | ringLoad (path : DPath)
  | itineraryLoad (path : DPath)
  | routingTableWrite (path : DPath) (data : List Byte)
  | scaleHistoryReset (path : DPath)
  | exchangeHistoryReset (path : DPath)
  -- fabric
  | codewordReceive (lane : Nat) (cw : Codeword)
  | codewordLockLoss (lane : Nat)
  | laneTrainingStart (lane : Nat)
  | laneTrainingEnd (lane : Nat) (far : Option Neighbour)
  | bondRetrain (pair failed : Nat)
  | frameTransmit (port : Nat)
  | frameForward (lane : Nat) (f : Frame)
  | frameReceive (lane : Nat) (f : Frame)
  | messageDeliver (ctx cls : Nat)
  | frameLoss (ctx cls : Nat)
  | connOpen (peer theirCtx : Nat)
  | connOpenAck (peer theirCtx : Nat) (credits : List Nat)
  | connRefused (peer : Nat)
  | connClose (peer : Nat)
  | connCloseAck (peer : Nat)
  | connCredit (peer cls n : Nat)
  | openRetryTimeout (ctx : Nat)
  | contextIdleClose (ctx : Nat)
  | closingTimeout (ctx : Nat)
  | creditReturnTimer (ctx cls : Nat)
  | identify (lane : Nat) (reply : List Nat)
  | identifyReply (lane : Nat) (body : List Byte)
  | fabricAddressWrite (path : DPath) (v : Nat)
  | fabricPortEnable (path : DPath) (v : Nat)
  | spareRequestAssign (path : DPath) (port spare : Nat)
  | spareRequestRelease (path : DPath) (spare : Nat)
  | spareSubstitution
  | caravanOutbound (c : CaravanOut)
  | caravanReturn (c : CaravanRet)
  | fmbTxData (m : Nat) (w : Word)
  | fmbTxBell (m : Nat) (bells : Word)
  | fmbRxData (m : Nat)
  | fmbTxAbort (m : Nat)
  | mailboxMessage (src srcBox box num : Nat) (bells : Word) (words : List Word)
  | mailboxTaken (m num : Nat)
  -- host
  | bar2Read (offset len : Nat)
  | bar2Write (offset : Nat) (data : List Byte)
  | bar0Unsupported (offset size : Nat) (write : Option Nat)
  | dmaTail (ch : Nat) (v : Word)
  | dmaDescriptorStart (ch : Nat) (bytes : List Byte)
  | dmaDescriptorComplete (ch : Nat) (e : DmaEnd) (hostData : List Byte)
  | dmaReset (ch : Nat)
  | mbTxData (fw : Bool) (m : Nat) (w : Word)
  | mbTxBell (fw : Bool) (m : Nat) (bells : Word)
  | mbRxHead (fw : Bool) (m : Nat)
  | mbRxAck (fw : Bool) (m : Nat)
  | mbTxAbort (fw : Bool) (m : Nat)
  -- dictionary and management
  | winGo
  | dictRead (q : DReq)
  | dictWrite (q : DReq)
  | dictInfo (q : DReq)
  | stagingSlotTimeout (slot : Nat)
  | storeConfig (path : DPath)
  | storeComplete (verified : Bool)
  | restoreDefaults (path : DPath)
  | mgmtRestart (path : DPath)
  | watchdogExpiry
  | mgmtEccDouble
  | firmwareFaultTrap
  | mgmtResume
  | marginReplanRequest (path : DPath)
  | marginReplanPeriod
  | marginReplanApply (m : Margins)
  | hkResultRead (hk input : Nat)
  | guStart (u : Nat) (ctrl : Word)
  | guStop (u : Nat)
  | guItemBegin (u : Nat)
  | guItemEnd (u : Nat)
  | guResultLo (u : Nat)
  | readClearRegister (sec : Sec) (inst offset : Nat)
  | registerWrite (sec : Sec) (inst offset : Nat) (v : Word)
  -- host link, resets, power, clocks
  | functionLevelReset
  | d3hotEntry
  | linkUp (width gen : Nat) (flit : Bool)
  | ideIntegrityFailure (stream : Nat)
  | ideKm (session stream : Nat)
  | moduleReset (path : DPath)
  | bootComplete (ms : Nat)
  | configComplete (ms : Nat)
  | selftestComplete (ms : Nat) (r : SelfTest)
  | discoveryComplete (ms : Nat)
  | recoveryAreaPoll
  | firmwareUpdate (path : DPath) (slot : Nat)
  | firmwareUpdateComplete (flashOk : Bool)
  | firmwareActivate (path : DPath) (slot : Nat)
  | rollbackCommit (path : DPath)
  | getVersion (t : Transport)
  | getCapabilities (t : Transport)
  | negotiateAlgorithms (t : Transport) (aead : Nat)
  | getDigests (t : Transport) (slot : Nat)
  | getCertificate (t : Transport) (slot offset length : Nat)
  | challenge (t : Transport) (slot : Nat) (nonce : List Byte)
  | getMeasurements (t : Transport) (index : Nat) (nonce : List Byte)
  | keyExchange (t : Transport) (reqSession : Nat)
  | finish (t : Transport) (session : Nat)
  | heartbeat (t : Transport) (session : Nat)
  | keyUpdate (t : Transport) (session : Nat)
  | endSession (t : Transport) (session : Nat)
  | earlyStopVote
  | d0Entry
  -- pins, rails, PLLs, converters and timers on the clock that never stops
  | trimBoundary
  | fabricRefLoss
  | mctpDictionaryMessage (eid type vendor mark : Nat) (msg : List Byte)
  | logbookI3cRead (slot : Nat)
  | mgmtRstPin
  | surveyEntryEnd (hk : Nat) (code : Int)
  | regAlarm (die : Nat)
  | thermal (die : Nat)
  | burstSw (hk : Nat)
  | burstEntryEnd (hk : Nat) (code : Int)
  | selfcalReq (hk : Nat)
  | selfcalPeriod
  | selfcalStart (hk : Nat)
  | selfcalEnd (hk : Nat) (offset : Int) (gainPpm : Int)
  | perstAssert
  | hotReset
  | linkDown
  | modRstPin
  | powerInputInRange
  | undervoltage
  | overvoltage
  | criticalTemperature (die : Nat)
  | railOutOfRegulation (rail : Nat)
  | powerLimitEvaluation (watts : Nat)
  | thermalLevelTick (die : Nat)
  | pllLockLoss (p : Pll)
  | pllRelock (p : Pll)
  | clockFail (p : Pll)
  | startupTimeout
  | powerLoss
  | fabricRefReturn
  | perstRelease
  | thermalClear (die : Nat)
  | regAlarmClear (die : Nat)
  | dynamicAddressAssignment (addr : Nat)
  | endpointIdAssignment (eid : Nat)
  deriving DecidableEq, Repr

end Sys2Proof
end

