-- ==== Sys2Proof/Machine/Bits.lean ====
section
/-! DEFINITION. Bit fields, signed fields, little-endian bytes (R8), sparse maps and sparse memory. -/

namespace Sys2Proof.Machine

/-- Bits [lo + w - 1 : lo] of `x` (R8). -/
def bits (x lo w : Nat) : Nat := (x >>> lo) % 2 ^ w

/-- `x` with bits [lo + w - 1 : lo] replaced by the low `w` bits of `v`. -/
def setBits (x lo w v : Nat) : Nat :=
  x % 2 ^ lo + (v % 2 ^ w) * 2 ^ lo + (x >>> (lo + w)) * 2 ^ (lo + w)

/-- One bit as a truth value. -/
def bit (x i : Nat) : Bool := bits x i 1 = 1

/-- The two's-complement reading of the low `w` bits of `x` (R30). -/
def signed (w x : Nat) : Int :=
  let y := x % 2 ^ w
  if y < 2 ^ (w - 1) then (y : Int) else (y : Int) - 2 ^ w

/-- The low `w` bits of an integer in two's complement. -/
def wrap (w : Nat) (v : Int) : Nat := (v % 2 ^ w).toNat

/-- The `n` little-endian bytes of `v` (R8). -/
def bytesOf : Nat → Nat → List Byte
  | 0, _ => []
  | n + 1, v => BitVec.ofNat 8 v :: bytesOf n (v / 256)

/-- The number that little-endian bytes spell (R8). -/
def natOf : List Byte → Nat
  | [] => 0
  | b :: r => b.toNat + 256 * natOf r

/-- A word of 32 bits from a number. -/
def word (v : Nat) : Word := BitVec.ofNat 32 v

/-- Saturating addition: counters of the T1 stop at their largest value. -/
def satAdd (cap a b : Nat) : Nat := min cap (a + b)

/-- `xs` cut or filled with `d` to `n` elements. -/
def padTo {α : Type} (n : Nat) (d : α) (xs : List α) : List α :=
  (xs ++ List.replicate (n - xs.length) d).take n

/-- The list with element `i` replaced (no change beyond the end). -/
def setAt {α : Type} (xs : List α) (i : Nat) (v : α) : List α := xs.set i v

/-- Ceiling division. -/
def ceilDiv (a b : Nat) : Nat := (a + b - 1) / b

/-- ceil(log2 n), with 0 for n at most 1. -/
def ceilLog2 (n : Nat) : Nat := if n ≤ 1 then 0 else Nat.log2 (n - 1) + 1

/-- A truth value as a bit. -/
def b2n (b : Bool) : Nat := if b then 1 else 0

end Sys2Proof.Machine

namespace Sys2Proof

/-- The value listed under a key, if any. -/
def SMap.find? {α : Type} : SMap α → Nat → Option α
  | [], _ => none
  | (k, v) :: r, a => if k = a then some v else SMap.find? r a

/-- The value under a key, or the default that an unlisted key reads as. -/
def SMap.get {α : Type} (m : SMap α) (a : Nat) (d : α) : α := (m.find? a).getD d

/-- The map with `v` listed under `a`, keys rising. -/
def SMap.put {α : Type} : SMap α → Nat → α → SMap α
  | [], a, v => [(a, v)]
  | (k, w) :: r, a, v =>
    if a < k then (a, v) :: (k, w) :: r
    else if k = a then (a, v) :: r
    else (k, w) :: SMap.put r a v

/-- The map without the key. -/
def SMap.del {α : Type} (m : SMap α) (a : Nat) : SMap α := m.filter fun x => x.1 ≠ a

/-- The keys in rising order. -/
def SMap.keys {α : Type} (m : SMap α) : List Nat := m.map (·.1)

/-- The map with the value under `a` changed by `f`; an unlisted key starts from `d`. -/
def SMap.modify {α : Type} (m : SMap α) (a : Nat) (d : α) (f : α → α) : SMap α := m.put a (f (m.get a d))

namespace Mem

/-- The byte at an address; an unlisted address reads as zero (DESIGN CHOICE, assumption 1). -/
def read : Mem → Nat → Byte
  | [], _ => 0
  | (k, v) :: r, a => if k = a then v else read r a

/-- Store one byte, keeping the canonical form: zero leaves no entry. -/
def write : Mem → Nat → Byte → Mem
  | [], a, b => if b = 0 then [] else [(a, b)]
  | (k, v) :: r, a, b =>
    if a < k then (if b = 0 then (k, v) :: r.filter (fun x => x.1 ≠ a) else (a, b) :: (k, v) :: r)
    else if k = a then (if b = 0 then r.filter (fun x => x.1 ≠ a) else (a, b) :: r)
    else (k, v) :: write r a b

/-- `n` bytes from address `a` on. -/
def readBytes (m : Mem) (a : Nat) : Nat → List Byte
  | 0 => []
  | n + 1 => m.read a :: readBytes m (a + 1) n

/-- Store bytes at rising addresses. -/
def writeBytes (m : Mem) (a : Nat) : List Byte → Mem
  | [] => m
  | b :: r => (m.write a b).writeBytes (a + 1) r

/-- A little-endian number of `n` bytes (R8). -/
def readNat (m : Mem) (a n : Nat) : Nat := Machine.natOf (m.readBytes a n)

/-- Store a little-endian number of `n` bytes (R8). -/
def writeNat (m : Mem) (a n v : Nat) : Mem := m.writeBytes a (Machine.bytesOf n v)

/-- The entries' addresses rise strictly from `lo` on and no entry holds zero. -/
def wfFrom : Nat → Mem → Bool
  | _, [] => true
  | lo, (k, v) :: r => decide (lo ≤ k) && decide (v ≠ 0) && wfFrom (k + 1) r

/-- The canonical form of memory. -/
def wf (m : Mem) : Bool := wfFrom 0 m

end Mem

end Sys2Proof
end

