-- ==== Sys2Proof/WellFormed.lean ====
section
/-! DEFINITION. Well-formed commands: every operand in the range that its field or its name in the manual gives. -/

namespace Sys2Proof

/-- A value fits in `w` bits. -/
def fits (w x : Nat) : Bool := decide (x < 2 ^ w)

/-- CTOKEN is a counter number (R206). -/
def Cmn.wf (c : Cmn) : Bool := fits 6 c.ctoken

/-- A memory address of R208. -/
def MemAddr.wf (m : MemAddr) : Bool := fits 2 m.region && fits 40 m.offset

def MoveF.wf (f : MoveF) : Bool := f.mem.wf && fits 19 f.larder && fits 12 f.linew && fits 12 f.lines && fits 24 f.pitch
def StashF.wf (f : StashF) : Bool := fits 14 f.stashNo && fits 19 f.larder && fits 12 f.linew && fits 14 f.lines
def UnstashF.wf (f : UnstashF) : Bool := fits 14 f.stashNo && fits 19 f.larder
/-- R211: a POSMASK of 0 is refused. -/
def MvmF.wf (f : MvmF) : Bool :=
  fits 4 f.posmask && decide (f.posmask ≠ 0) && fits 1 f.bank && fits 8 f.gain && fits 19 f.inbase && fits 8 f.insel &&
  fits 19 f.scbase && fits 4 f.fmt && fits 1 f.tile && fits 5 f.areg && fits 6 f.row && fits 8 f.out && fits 6 f.rpt &&
  fits 2 f.rstep && fits 16 f.tag
def WriteFullF.wf (f : WriteFullF) : Bool :=
  fits 4 f.posmask && decide (f.posmask ≠ 0) && fits 1 f.bank && f.newImg.wf && fits 16 f.tag
def WriteDeltaF.wf (f : WriteDeltaF) : Bool :=
  fits 4 f.posmask && decide (f.posmask ≠ 0) && fits 1 f.bank && f.newImg.wf && f.oldImg.wf && fits 16 f.tag
/-- R213: KB is 1 to 2^24 - 1; BREUSE only with KB 1 or 2. -/
def MatmulF.wf (f : MatmulF) : Bool :=
  fits 19 f.adesc && fits 19 f.bdesc && fits 1 f.tile && fits 5 f.areg && fits 6 f.m && fits 6 f.n && fits 24 f.kb &&
  decide (1 ≤ f.kb) && (!f.breuse || decide (f.kb ≤ 2))
def FwaddF.wf (f : FwaddF) : Bool := fits 19 f.record && fits 19 f.rdesc && fits 1 f.tile
def AnchorSetF.wf (f : AnchorSetF) : Bool := fits 5 f.areg && fits 16 f.imm
def AnchorScalesF.wf (f : AnchorScalesF) : Bool :=
  fits 5 f.areg && fits 16 f.imm && fits 19 f.addr1 && fits 16 f.cnt1 && fits 19 f.addr2 && fits 16 f.cnt2
def AnchorDescsF.wf (f : AnchorDescsF) : Bool := fits 5 f.areg && fits 16 f.imm && fits 19 f.addr1 && fits 16 f.cnt1
def DrainF.wf (f : DrainF) : Bool :=
  fits 1 f.tile && fits 19 f.target && fits 9 f.clist && fits 19 f.wdesc && fits 24 f.rowbase && fits 9 f.olist
def DrainFullF.wf (f : DrainFullF) : Bool :=
  fits 1 f.tile && fits 19 f.target && fits 19 f.fdesc && fits 9 f.clist && fits 19 f.wdesc && fits 24 f.rowbase &&
  fits 9 f.olist
/-- R218: MASKGEN 3 is reserved; under MASKGEN 2 the window is at least 1. -/
def VstreamF.wf (f : VstreamF) : Bool :=
  fits 19 f.chain && decide (f.maskgen ≤ 2) && fits 21 f.qpos && fits 21 f.kpos && fits 21 f.window && fits 9 f.olist &&
  (decide (f.maskgen ≠ 2) || decide (1 ≤ f.window))
def SendF.wf (f : SendF) : Bool :=
  fits 16 f.dmod && fits 12 f.dcore && fits 6 f.dtoken && fits 8 f.channel && fits 42 f.src && fits 24 f.len
def RecvF.wf (f : RecvF) : Bool :=
  fits 16 f.smod && fits 12 f.score && fits 8 f.channel && fits 42 f.dst && fits 24 f.len
def RouteF.wf (f : RouteF) : Bool :=
  fits 19 f.choices && fits 19 f.rows && fits 12 f.ntok && fits 2 f.k && fits 20 f.tokbase && fits 8 f.layer &&
  fits 16 f.retrow && fits 12 f.roww
def ReturnF.wf (f : ReturnF) : Bool :=
  f.src.wf && fits 16 f.firstslot && fits 12 f.nslot && fits 8 f.layer && fits 12 f.roww
/-- R220: COUNT is 1 to 65,535. -/
def WaitF.wf (f : WaitF) : Bool := fits 6 f.token && fits 16 f.count && decide (1 ≤ f.count)
def SignalF.wf (f : SignalF) : Bool :=
  fits 16 f.dmod && fits 12 f.dcore && fits 6 f.token && fits 16 f.count && decide (1 ≤ f.count) && fits 6 f.units

/-- A timetable entry that R207 accepts, as far as its own bits decide. -/
def Entry.wf : Entry → Bool
  | .load f | .store f => f.wf
  | .stash f => f.wf
  | .unstash f => f.wf
  | .arrayMvm f => f.wf
  | .arrayWriteFull f => f.wf
  | .arrayWriteDelta f => f.wf
  | .matmul f => f.wf
  | .fwadd f => f.wf
  | .drainNarrow f | .drainWide f | .drainVector f => f.wf
  | .drainFull f => f.wf
  | .vstream f => f.wf
  | .send f => f.wf
  | .recv f => f.wf
  | .route f => f.wf
  | .ret f => f.wf
  | .waitToken f => f.wf
  | .signal f => f.wf
  | .fence u => fits 6 u
  | .anchorSet f => f.wf
  | .anchorScales f => f.wf
  | .anchorDescs f => f.wf
  | .nop => true
  | .commitPoint => true

/-- A COMMIT_POINT has CSIG clear (R207). -/
def Entry.okWith (e : Entry) (c : Cmn) : Bool := e.wf && c.wf && (decide (e ≠ .commitPoint) || !c.csig)

/-- A logical core number (R14). -/
def coreOk (c : Nat) : Bool := decide (c < 4096)

/-- The fields of a stage word fit their bits (R171). -/
def StageW.wf (w : StageW) : Bool :=
  fits 3 w.srca && fits 3 w.srcb && fits 3 w.srcc && fits 2 w.maskin && fits 1 w.mout && fits 8 w.sub

/-- The fields of an update instruction fit their bits (R254). -/
def UpdF.wf (f : UpdF) : Bool :=
  fits 3 f.dst && fits 3 f.a && fits 3 f.b && fits 3 f.c && fits 4 f.kidx && fits 2 f.ksel && fits 3 f.sub

end Sys2Proof
end

