-- ==== Sys2Proof/Decode.lean ====
section
/-! DEFINITION. The two functions the host asks for, over an opcode table whose rows give no bits; and the 128-bit
encoding of timetable entries (R206 to R220, R233, R235) with its encoder, and chain descriptors (R169 to R171). -/

namespace Sys2Proof

open Sys2Proof.Machine

/-- The command that a word spells by the opcode table: its rows give no bits, so no word spells one. -/
def decodeTableWord (_nbits _w : Nat) : Option Instr := none

/-! ### Bit fields in order -/

/-- Fields of the given widths packed from bit 0 up. -/
def packBits : List (Nat × Nat) → Nat
  | [] => 0
  | (w, v) :: r => v % 2 ^ w + 2 ^ w * packBits r

/-- Fields of the given widths read from bit 0 up. -/
def unpackBits : List Nat → Nat → List Nat
  | [], _ => []
  | w :: r, x => x % 2 ^ w :: unpackBits r (x / 2 ^ w)

/-- A packed truth value. -/
def flag (b : Bool) : Nat := if b then 1 else 0

/-! ### Timetable entries -/

/-- Operation code of an entry (R207). -/
def Entry.op : Entry → Nat
  | .load _ => 0x01 | .store _ => 0x02 | .stash _ => 0x03 | .unstash _ => 0x04
  | .arrayMvm _ => 0x10 | .arrayWriteFull _ => 0x11 | .arrayWriteDelta _ => 0x11
  | .matmul _ => 0x18 | .fwadd _ => 0x19
  | .drainNarrow _ => 0x20 | .drainWide _ => 0x20 | .drainVector _ => 0x20 | .drainFull _ => 0x20
  | .vstream _ => 0x21 | .send _ => 0x30 | .recv _ => 0x31 | .route _ => 0x32 | .ret _ => 0x33
  | .waitToken _ => 0x38 | .signal _ => 0x39 | .fence _ => 0x3A
  | .anchorSet _ => 0x3B | .anchorScales _ => 0x3B | .anchorDescs _ => 0x3B
  | .nop => 0x3E | .commitPoint => 0x3F

/-- Widths of the fields above bit 15, from bit 16 up, the reserved bits last. -/
def moveW : List Nat := [40, 2, 19, 12, 12, 24, 3]
def stashW : List Nat := [14, 19, 12, 14, 1, 52]
def unstashW : List Nat := [14, 19, 79]
def mvmW : List Nat := [4, 1, 8, 19, 8, 19, 4, 1, 1, 5, 6, 8, 6, 2, 16, 4]
def writeW : List Nat := [4, 1, 1, 40, 2, 40, 2, 16, 6]
def matmulW : List Nat := [19, 19, 1, 1, 5, 6, 6, 24, 1, 1, 1, 28]
def fwaddW : List Nat := [19, 19, 1, 1, 72]
def anchorW : List Nat := [5, 2, 16, 19, 16, 19, 16, 19]
def drainW : List Nat := [1, 2, 19, 19, 9, 19, 24, 9, 10]
def vstreamW : List Nat := [19, 2, 21, 21, 21, 9, 19]
def sendW : List Nat := [16, 12, 1, 6, 1, 8, 1, 42, 24, 1]
def recvW : List Nat := [16, 12, 1, 8, 1, 42, 24, 8]
def routeW : List Nat := [19, 19, 12, 2, 20, 8, 1, 16, 12, 3]
def returnW : List Nat := [40, 2, 16, 12, 8, 1, 12, 21]
def waitW : List Nat := [6, 16, 1, 89]
def signalW : List Nat := [16, 12, 1, 1, 6, 16, 6, 54]
def fenceW : List Nat := [6, 106]

/-- The fields of an entry above bit 15, in order, with their widths. -/
def Entry.widths : Entry → List Nat
  | .load _ | .store _ => moveW
  | .stash _ => stashW
  | .unstash _ => unstashW
  | .arrayMvm _ => mvmW
  | .arrayWriteFull _ | .arrayWriteDelta _ => writeW
  | .matmul _ => matmulW
  | .fwadd _ => fwaddW
  | .drainNarrow _ | .drainWide _ | .drainVector _ | .drainFull _ => drainW
  | .vstream _ => vstreamW
  | .send _ => sendW
  | .recv _ => recvW
  | .route _ => routeW
  | .ret _ => returnW
  | .waitToken _ => waitW
  | .signal _ => signalW
  | .fence _ => fenceW
  | .anchorSet _ | .anchorScales _ | .anchorDescs _ => anchorW
  | .nop | .commitPoint => [112]

/-- The values of the fields above bit 15, in order. -/
def Entry.values : Entry → List Nat
  | .load f | .store f => [f.mem.offset, f.mem.region, f.larder, f.linew, f.lines, f.pitch, 0]
  | .stash f => [f.stashNo, f.larder, f.linew, f.lines, flag f.skipZero, 0]
  | .unstash f => [f.stashNo, f.larder, 0]
  | .arrayMvm f => [f.posmask, f.bank, f.gain, f.inbase, f.insel, f.scbase, f.fmt, f.tile, flag f.start, f.areg, f.row,
      f.out, f.rpt, f.rstep, f.tag, 0]
  | .arrayWriteFull f => [f.posmask, f.bank, 0, f.newImg.offset, f.newImg.region, 0, 0, f.tag, 0]
  | .arrayWriteDelta f =>
    [f.posmask, f.bank, 1, f.newImg.offset, f.newImg.region, f.oldImg.offset, f.oldImg.region, f.tag, 0]
  | .matmul f => [f.adesc, f.bdesc, f.tile, flag f.start, f.areg, f.m, f.n, f.kb, flag f.across, flag f.bcross,
      flag f.breuse, 0]
  | .fwadd f => [f.record, f.rdesc, f.tile, flag f.start, 0]
  | .drainNarrow f => [f.tile, 0, f.target, 0, f.clist, f.wdesc, f.rowbase, f.olist, 0]
  | .drainWide f => [f.tile, 1, f.target, 0, f.clist, f.wdesc, f.rowbase, f.olist, 0]
  | .drainVector f => [f.tile, 2, f.target, 0, f.clist, f.wdesc, f.rowbase, f.olist, 0]
  | .drainFull f => [f.tile, 3, f.target, f.fdesc, f.clist, f.wdesc, f.rowbase, f.olist, 0]
  | .vstream f => [f.chain, f.maskgen, f.qpos, f.kpos, f.window, f.olist, 0]
  | .send f => [f.dmod, f.dcore, flag f.loc, f.dtoken, flag f.dsig, f.channel, flag f.srcMem, f.src, f.len, 0]
  | .recv f => [f.smod, f.score, flag f.loc, f.channel, flag f.dstMem, f.dst, f.len, 0]
  | .route f =>
    [f.choices, f.rows, f.ntok, f.k, f.tokbase, f.layer, flag f.flush, f.retrow, f.roww, 0]
  | .ret f => [f.src.offset, f.src.region, f.firstslot, f.nslot, f.layer, flag f.flush, f.roww, 0]
  | .waitToken f => [f.token, f.count, flag f.keep, 0]
  | .signal f => [f.dmod, f.dcore, flag f.loc, flag f.self, f.token, f.count, f.units, 0]
  | .fence u => [u, 0]
  | .anchorSet f => [f.areg, 0, f.imm, 0, 0, 0, 0, 0]
  | .anchorScales f => [f.areg, 1, f.imm, f.addr1, f.cnt1, f.addr2, f.cnt2, 0]
  | .anchorDescs f => [f.areg, 2, f.imm, f.addr1, f.cnt1, 0, 0, 0]
  | .nop | .commitPoint => [0]

/-- The 128 bits of an entry (R206). -/
def encodeEntry (c : Cmn) (e : Entry) : Nat :=
  packBits ([(8, e.op), (6, c.ctoken), (1, flag c.csig), (1, 0)] ++ e.widths.zip e.values)

/-- Keep an entry that its own bits make well formed. -/
def keepWf (e : Entry) : Option Entry := if e.wf then some e else none

/-- The entry that an operation code and the bits above bit 15 spell; none is BAD_ENTRY (R207): a reserved code, a
reserved bit set, or a field outside its range. -/
def decodeBody (op x : Nat) : Option Entry :=
  match op with
  | 0x01 => match unpackBits moveW x with
    | [mo, mr, la, lw, ln, mp, 0] => keepWf (.load ⟨⟨mr, mo⟩, la, lw, ln, mp⟩)
    | _ => none
  | 0x02 => match unpackBits moveW x with
    | [mo, mr, la, lw, ln, mp, 0] => keepWf (.store ⟨⟨mr, mo⟩, la, lw, ln, mp⟩)
    | _ => none
  | 0x03 => match unpackBits stashW x with
    | [n, la, lw, ln, sz, 0] => keepWf (.stash ⟨n, la, lw, ln, sz = 1⟩)
    | _ => none
  | 0x04 => match unpackBits unstashW x with
    | [n, la, 0] => keepWf (.unstash ⟨n, la⟩)
    | _ => none
  | 0x10 => match unpackBits mvmW x with
    | [pm, b, g, ib, is, sb, f, t, st, ar, ro, ou, rp, rs, tg, 0] =>
      keepWf (.arrayMvm ⟨pm, b, g, ib, is, sb, f, t, st = 1, ar, ro, ou, rp, rs, tg⟩)
    | _ => none
  | 0x11 => match unpackBits writeW x with
    | [pm, b, 0, no, nr, 0, 0, tg, 0] => keepWf (.arrayWriteFull ⟨pm, b, ⟨nr, no⟩, tg⟩)
    | [pm, b, 1, no, nr, oo, or, tg, 0] => keepWf (.arrayWriteDelta ⟨pm, b, ⟨nr, no⟩, ⟨or, oo⟩, tg⟩)
    | _ => none
  | 0x18 => match unpackBits matmulW x with
    | [ad, bd, t, st, ar, m, n, kb, ac, bc, br, 0] =>
      keepWf (.matmul ⟨ad, bd, t, st = 1, ar, m, n, kb, ac = 1, bc = 1, br = 1⟩)
    | _ => none
  | 0x19 => match unpackBits fwaddW x with
    | [r, d, t, st, 0] => keepWf (.fwadd ⟨r, d, t, st = 1⟩)
    | _ => none
  | 0x20 => match unpackBits drainW x with
    | [t, 0, tg, 0, cl, wd, rb, ol, 0] => keepWf (.drainNarrow ⟨t, tg, cl, wd, rb, ol⟩)
    | [t, 1, tg, 0, cl, wd, rb, ol, 0] => keepWf (.drainWide ⟨t, tg, cl, wd, rb, ol⟩)
    | [t, 2, tg, 0, cl, wd, rb, ol, 0] => keepWf (.drainVector ⟨t, tg, cl, wd, rb, ol⟩)
    | [t, 3, tg, fd, cl, wd, rb, ol, 0] => keepWf (.drainFull ⟨t, tg, fd, cl, wd, rb, ol⟩)
    | _ => none
  | 0x21 => match unpackBits vstreamW x with
    | [ch, mg, q, k, wn, ol, 0] => keepWf (.vstream ⟨ch, mg, q, k, wn, ol⟩)
    | _ => none
  | 0x30 => match unpackBits sendW x with
    | [dm, dc, lo, dt, ds, ch, sm, sr, ln, 0] => keepWf (.send ⟨dm, dc, lo = 1, dt, ds = 1, ch, sm = 1, sr, ln⟩)
    | _ => none
  | 0x31 => match unpackBits recvW x with
    | [sm, sc, lo, ch, dm, ds, ln, 0] => keepWf (.recv ⟨sm, sc, lo = 1, ch, dm = 1, ds, ln⟩)
    | _ => none
  | 0x32 => match unpackBits routeW x with
    | [ch, ro, nt, k, tb, la, fl, rr, rw, 0] => keepWf (.route ⟨ch, ro, nt, k, tb, la, fl = 1, rr, rw⟩)
    | _ => none
  | 0x33 => match unpackBits returnW x with
    | [so, sr, fs, ns, la, fl, rw, 0] => keepWf (.ret ⟨⟨sr, so⟩, fs, ns, la, fl = 1, rw⟩)
    | _ => none
  | 0x38 => match unpackBits waitW x with
    | [t, n, k, 0] => keepWf (.waitToken ⟨t, n, k = 1⟩)
    | _ => none
  | 0x39 => match unpackBits signalW x with
    | [dm, dc, lo, se, t, n, u, 0] => keepWf (.signal ⟨dm, dc, lo = 1, se = 1, t, n, u⟩)
    | _ => none
  | 0x3A => match unpackBits fenceW x with
    | [u, 0] => keepWf (.fence u)
    | _ => none
  | 0x3B => match unpackBits anchorW x with
    | [a, 0, i, _, _, 0, 0, 0] => keepWf (.anchorSet ⟨a, i⟩)
    | [a, 1, i, a1, c1, a2, c2, 0] => keepWf (.anchorScales ⟨a, i, a1, c1, a2, c2⟩)
    | [a, 2, i, a1, c1, 0, 0, 0] => keepWf (.anchorDescs ⟨a, i, a1, c1⟩)
    | _ => none
  | 0x3E => if unpackBits [112] x = [0] then some .nop else none
  | 0x3F => if unpackBits [112] x = [0] then some .commitPoint else none
  | _ => none

/-- The entry that 128 bits spell (R206, R207); none is BAD_ENTRY. -/
def decodeEntry (x : Nat) : Option (Cmn × Entry) :=
  match unpackBits [8, 6, 1, 1] x with
  | [op, ct, cs, 0] =>
    match decodeBody op (x / 2 ^ 16) with
    | some e => let c : Cmn := ⟨ct, cs = 1⟩; if e.okWith c then some (c, e) else none
    | none => none
  | _ => none

/-- The command by which the sequencer of core `k` issues an entry. -/
def issueInstr (k : Nat) (c : Cmn) : Entry → Instr
  | .load f => .load k c f | .store f => .store k c f | .stash f => .stash k c f | .unstash f => .unstash k c f
  | .arrayMvm f => .arrayMvm k c f | .arrayWriteFull f => .arrayWriteFull k c f
  | .arrayWriteDelta f => .arrayWriteDelta k c f | .matmul f => .matmul k c f | .fwadd f => .fwadd k c f
  | .drainNarrow f => .drainNarrow k c f | .drainWide f => .drainWide k c f | .drainVector f => .drainVector k c f
  | .drainFull f => .drainFull k c f | .vstream f => .vstream k c f | .send f => .send k c f | .recv f => .recv k c f
  | .route f => .route k c f | .ret f => .ret k c f | .waitToken f => .waitToken k c f | .signal f => .signal k c f
  | .fence u => .fence k c u | .anchorSet f => .anchorSet k c f | .anchorScales f => .anchorScales k c f
  | .anchorDescs f => .anchorDescs k c f | .nop => .nop k c | .commitPoint => .commitPoint k c

/-! ### Chains (R169 to R171) -/

/-- Operations by code (R174, R182); none is a reserved code. -/
def VOp.ofCode : Nat → Option VOp
  | 0x00 => some .mov | 0x01 => some .add | 0x02 => some .sub | 0x03 => some .mul | 0x04 => some .fma
  | 0x05 => some .max | 0x06 => some .min | 0x07 => some .abs | 0x08 => some .neg | 0x09 => some .scale
  | 0x0A => some .func | 0x0B => some .cmp | 0x0C => some .sel | 0x0D => some .cvti | 0x0E => some .cvtf
  | 0x10 => some .iadd | 0x11 => some .isub | 0x12 => some .imul | 0x13 => some .and | 0x14 => some .or
  | 0x15 => some .xor | 0x16 => some .shl | 0x17 => some .shra | 0x18 => some .shrl | 0x19 => some .imax
  | 0x1A => some .imin | 0x1B => some .icmp | 0x20 => some .perm
  | 0x30 => some .rsum | 0x31 => some .rprod | 0x32 => some .rmax | 0x33 => some .rmin | 0x34 => some .rargmax
  | 0x35 => some .rargmin | 0x36 => some .rand | 0x37 => some .ror | 0x38 => some .rxor | 0x39 => some .risum
  | 0x3A => some .rimax | 0x3B => some .rimin | 0x40 => some .mwadd
  | _ => none

/-- Stream kinds by code (R170). -/
def SKind.ofCode : Nat → Option SKind
  | 0 => some .larder | 1 => some .tile | 2 => some .full | 3 => some .broadcast | 4 => some .mask | 5 => some .absent
  | 6 => some .mwrec | _ => none

/-- A stage word of 64 bits (R171); none where its OP is reserved or a reserved bit is set. -/
def decodeStage (x : Nat) : Option Stage :=
  match unpackBits [8, 3, 3, 3, 2, 1, 1, 3, 8, 32] x with
  | [op, a, b, c, mi, mo, mout, 0, sub, imm] =>
    match VOp.ofCode op with
    | some o => some ⟨o, ⟨a, b, c, mi, mo = 1, mout, sub, BitVec.ofNat 32 imm⟩⟩
    | none => none
  | _ => none

/-- A stream descriptor of 32 bytes as a number (R170); none where its kind or a flag is reserved. -/
def decodeStream (x : Nat) : Option Stream :=
  match unpackBits [32, 32, 32, 32, 32, 16, 4, 4, 1, 1, 6, 32, 32] x with
  | [b, lp, bp, sb, slp, sbp, f, k, raw, ol, 0, slot, span] =>
    match SKind.ofCode k with
    | some k => some ⟨b, lp, bp, sb, slp, sbp, f, k, raw = 1, ol = 1, slot, span⟩
    | none => none
  | _ => none

end Sys2Proof
end

