-- ==== Sys2Proof/Machine/Flags.lean ====
section
/-! DEFINITION. The lane flags of the vector and update engines (R179) and the exact values they are computed from. -/

namespace Sys2Proof.Machine

/-- The six lane flags of R179. -/
structure VFlags where
  nv : Bool := false
  ov : Bool := false
  uf : Bool := false
  nx : Bool := false
  dz : Bool := false
  rg : Bool := false
  deriving DecidableEq, Repr

/-- Flags gather: a lane's flags cover every stage of its element (R179). -/
def VFlags.or (a b : VFlags) : VFlags :=
  { nv := a.nv || b.nv, ov := a.ov || b.ov, uf := a.uf || b.uf, nx := a.nx || b.nx, dz := a.dz || b.dz,
    rg := a.rg || b.rg }

/-- The byte of R181 without its EMPTY bit. -/
def VFlags.toNat (f : VFlags) : Nat :=
  b2n f.nv + 2 * b2n f.ov + 4 * b2n f.uf + 8 * b2n f.nx + 16 * b2n f.dz + 32 * b2n f.rg

/-- No flag. -/
def VFlags.none : VFlags := {}

/-- An exact value, or a NaN or infinity: `fin neg m e` is (−1)^neg × m × 2^e, with a signed zero at m = 0. -/
inductive XVal where
  | nan (signalling : Bool)
  | inf (neg : Bool)
  | fin (neg : Bool) (m : Nat) (e : Int)
  deriving DecidableEq, Repr

/-- An exact dyadic number m × 2^e. -/
structure Dy where
  m : Int := 0
  e : Int := 0
  deriving DecidableEq, Repr

/-- Exact zero. -/
def Dy.zero : Dy := {}

/-- Both numbers over the lower of the two exponents. -/
def Dy.align (a b : Dy) : Int × Int × Int :=
  let e := min a.e b.e
  (a.m * 2 ^ (a.e - e).toNat, b.m * 2 ^ (b.e - e).toNat, e)

/-- Exact sum. -/
def Dy.add (a b : Dy) : Dy :=
  if a.m = 0 then b else if b.m = 0 then a else
  let (x, y, e) := a.align b
  ⟨x + y, e⟩

/-- Exact product. -/
def Dy.mul (a b : Dy) : Dy := ⟨a.m * b.m, a.e + b.e⟩

/-- Exact negation. -/
def Dy.neg (a : Dy) : Dy := ⟨-a.m, a.e⟩

/-- Exact order. -/
def Dy.lt (a b : Dy) : Bool := let (x, y, _) := a.align b; x < y

/-- The magnitude. -/
def Dy.abs (a : Dy) : Dy := ⟨(a.m.natAbs : Int), a.e⟩

/-- The exact number of a finite value; zero for a NaN or an infinity. -/
def XVal.toDy : XVal → Dy
  | .fin n m e => ⟨if n then -(m : Int) else m, e⟩
  | _ => Dy.zero

/-- A dyadic number as a value, a zero positive. -/
def XVal.ofDy (d : Dy) : XVal := .fin (d.m < 0) d.m.natAbs d.e

/-- The value is zero. -/
def XVal.isZero : XVal → Bool
  | .fin _ m _ => m = 0
  | _ => false

/-- The value is a NaN. -/
def XVal.isNan : XVal → Bool
  | .nan _ => true
  | _ => false

/-- The value is an infinity. -/
def XVal.isInf : XVal → Bool
  | .inf _ => true
  | _ => false

/-- The value is a signalling NaN. -/
def XVal.isSnan : XVal → Bool
  | .nan s => s
  | _ => false

/-- The sign bit of a value. -/
def XVal.sign : XVal → Bool
  | .nan _ => false
  | .inf n => n
  | .fin n _ _ => n

/-- floor(log2) of a finite non-zero magnitude. -/
def XVal.floorLog2 : XVal → Option Int
  | .fin _ m e => if m = 0 then none else some ((Nat.log2 m : Int) + e)
  | _ => none

/-- m ÷ 2^d rounded to nearest, ties to even (R41). -/
def rneShift (m d : Nat) : Nat :=
  if d = 0 then m else
  let q := m >>> d
  let r := m % 2 ^ d
  let h := 2 ^ (d - 1)
  if r < h then q else if h < r then q + 1 else if q % 2 = 0 then q else q + 1

/-- m × 2^e rounded to the grid 2^q by R41, as a multiple of 2^q, and whether that is inexact. -/
def rneGrid (m : Nat) (e q : Int) : Nat × Bool :=
  if q ≤ e then (m * 2 ^ (e - q).toNat, false)
  else
    let d := (q - e).toNat
    if Nat.log2 m + 1 < d then (0, m ≠ 0) else
    let r := rneShift m d
    (r, r * 2 ^ d ≠ m)

/-- A binary floating-point format: fraction bits, exponent of the least normal, exponent of the top binade. -/
structure FpFmt where
  fbits : Nat
  emin : Int
  emax : Int
  deriving DecidableEq, Repr

/-- FP32, FP16 and BF16 (R37). -/
def fp32 : FpFmt := ⟨23, -126, 127⟩
def fp16 : FpFmt := ⟨10, -14, 15⟩
def bf16 : FpFmt := ⟨7, -126, 127⟩

/-- Round a finite magnitude to a wide format by R41 with the IEEE 754 flags; UF is a result that is tiny after
rounding and inexact (R179). -/
def roundFp (f : FpFmt) (neg : Bool) (m : Nat) (e : Int) : XVal × VFlags :=
  if m = 0 then (.fin neg 0 0, {}) else
  let l : Int := (Nat.log2 m : Int) + e
  if f.emax < l then (.inf neg, { ov := true, nx := true })
  else if l < f.emin - f.fbits - 1 then (.fin neg 0 0, { uf := true, nx := true })
  else
    let q : Int := max l f.emin - f.fbits
    let (r, ix) := rneGrid m e q
    let (u, _) := rneGrid m e (l - f.fbits)
    let tiny : Bool := (Nat.log2 u : Int) + (l - f.fbits) < f.emin
    if r ≠ 0 ∧ f.emax < (Nat.log2 r : Int) + q then (.inf neg, { ov := true, nx := true })
    else (.fin neg r q, { nx := ix, uf := ix && tiny })

/-- Round any value to a wide format: a NaN gives the quiet NaN, and NV for a signalling one (R44). -/
def XVal.round (f : FpFmt) : XVal → XVal × VFlags
  | .nan s => (.nan false, { nv := s })
  | .inf n => (.inf n, {})
  | .fin n m e => roundFp f n m e

/-- The code of a value that lies on the format's grid. -/
def XVal.encode (f : FpFmt) : XVal → Nat
  | .nan _ => (f.emax - f.emin + 2).toNat * 2 ^ f.fbits + 2 ^ (f.fbits - 1)
  | .inf n => (b2n n) * 2 ^ (f.fbits + Nat.log2 ((f.emax - f.emin + 3).toNat))
      + ((f.emax - f.emin + 2).toNat) * 2 ^ f.fbits
  | .fin n m e =>
    let s := (b2n n) * 2 ^ (f.fbits + Nat.log2 ((f.emax - f.emin + 3).toNat))
    if m = 0 then s else
    let l : Int := (Nat.log2 m : Int) + e
    if l < f.emin then s + (rneGrid m e (f.emin - f.fbits)).1
    else s + (l - f.emin + 1).toNat * 2 ^ f.fbits + ((rneGrid m e (l - f.fbits)).1 - 2 ^ f.fbits)

/-- Exact addition of values, with the invalid case and IEEE 754's sign of zero (R37). -/
def XVal.add : XVal → XVal → XVal × VFlags
  | .nan a, .nan b => (.nan false, { nv := a || b })
  | .nan a, _ => (.nan false, { nv := a })
  | _, .nan b => (.nan false, { nv := b })
  | .inf a, .inf b => if a = b then (.inf a, {}) else (.nan false, { nv := true })
  | .inf a, _ => (.inf a, {})
  | _, .inf b => (.inf b, {})
  | .fin a m e, .fin b m' e' =>
    if m = 0 ∧ m' = 0 then (.fin (a && b) 0 0, {}) else
    let d := (XVal.fin a m e).toDy.add (XVal.fin b m' e').toDy
    (XVal.ofDy d, {})

/-- The value with its sign inverted. -/
def XVal.neg : XVal → XVal
  | .nan s => .nan s
  | .inf n => .inf (!n)
  | .fin n m e => .fin (!n) m e

/-- Exact multiplication of values. -/
def XVal.mul : XVal → XVal → XVal × VFlags
  | .nan a, .nan b => (.nan false, { nv := a || b })
  | .nan a, _ => (.nan false, { nv := a })
  | _, .nan b => (.nan false, { nv := b })
  | .inf a, .inf b => (.inf (a != b), {})
  | .inf a, .fin b m _ => if m = 0 then (.nan false, { nv := true }) else (.inf (a != b), {})
  | .fin a m _, .inf b => if m = 0 then (.nan false, { nv := true }) else (.inf (a != b), {})
  | .fin a m e, .fin b m' e' => (.fin (a != b) (m * m') (e + e'), {})

/-- Exact comparison of two numbers that are no NaN: −0 equals +0. -/
def XVal.cmpLt : XVal → XVal → Bool
  | .inf a, .inf b => a && !b
  | .inf a, .fin _ _ _ => a
  | .fin _ _ _, .inf b => !b
  | .fin a m e, .fin b m' e' => (XVal.fin a m e).toDy.lt (XVal.fin b m' e').toDy
  | _, _ => false

/-- Integer square root by Newton-free bit search: the largest r with r * r ≤ n, `k` bits wide. -/
def isqrtBits : Nat → Nat → Nat → Nat
  | 0, _, r => r
  | k + 1, n, r =>
    let c := r + 2 ^ k
    isqrtBits k n (if c * c ≤ n then c else r)

/-- floor(sqrt n). -/
def isqrt (n : Nat) : Nat := isqrtBits (Nat.log2 n / 2 + 1) n 0

/-- A value within a quarter unit of the last place of sqrt(m × 2^e), exact where the root is, and otherwise with a
sticky lowest bit, so that one rounding of it is one rounding of the root. -/
def sqrtSticky (m : Nat) (e : Int) : Nat × Int :=
  let k0 : Int := 64 - (Nat.log2 m : Int)
  let k : Nat := (max k0 0).toNat
  let k := if (e - k) % 2 = 0 then k else k + 1
  let n := m * 2 ^ k
  let s := isqrt n
  (2 * s + b2n (s * s ≠ n), (e - k) / 2 - 1)

/-- (a ÷ b) with a sticky lowest bit: 40 or more significant bits, so that one rounding of it is one rounding of the
quotient. b is not zero. -/
def divSticky (a : Nat) (ea : Int) (b : Nat) (eb : Int) : Nat × Int :=
  let k := Nat.log2 b + 64
  let n := a * 2 ^ k
  (2 * (n / b) + b2n (n % b ≠ 0), ea - eb - k - 1)

end Sys2Proof.Machine
end

