-- ==== Sys2Proof/Machine/Operands.lean ====
section
/-! DEFINITION. The twelve number formats (R29 to R37), decoding and narrow conversion (R39 to R44), integer forms and
pair classes of the narrow product engine (R128 to R131), lane values of the vector and update engines. -/

namespace Sys2Proof.Machine

/-- The twelve formats of R29. -/
inductive Fmt where
  | int4 | e2m1 | e3m0 | int8 | uint8 | e4m3 | e5m2 | bf16 | fp16 | fp32 | ue8 | int32
  deriving DecidableEq, Repr

/-- The format of a code (R29); 0xC to 0xF are reserved. -/
def Fmt.ofCode : Nat → Option Fmt
  | 0 => some .int4 | 1 => some .e2m1 | 2 => some .e3m0 | 3 => some .int8 | 4 => some .uint8 | 5 => some .e4m3
  | 6 => some .e5m2 | 7 => some .bf16 | 8 => some .fp16 | 9 => some .fp32 | 10 => some .ue8 | 11 => some .int32
  | _ => none

/-- The code of a format (R29). -/
def Fmt.code : Fmt → Nat
  | .int4 => 0 | .e2m1 => 1 | .e3m0 => 2 | .int8 => 3 | .uint8 => 4 | .e4m3 => 5 | .e5m2 => 6 | .bf16 => 7
  | .fp16 => 8 | .fp32 => 9 | .ue8 => 10 | .int32 => 11

/-- Seven formats are narrow: block-scaled (R29). -/
def Fmt.narrow : Fmt → Bool
  | .int4 | .e2m1 | .e3m0 | .int8 | .uint8 | .e4m3 | .e5m2 => true
  | _ => false

/-- Bits of an element (R29). -/
def Fmt.bits : Fmt → Nat
  | .int4 | .e2m1 | .e3m0 => 4
  | .int8 | .uint8 | .e4m3 | .e5m2 | .ue8 => 8
  | .bf16 | .fp16 => 16
  | .fp32 | .int32 => 32

/-- Wide floating-point formats. -/
def Fmt.wide? : Fmt → Option FpFmt
  | .bf16 => some Machine.bf16
  | .fp16 => some Machine.fp16
  | .fp32 => some Machine.fp32
  | _ => none

/-- Top binade exponent of a narrow format (R29). -/
def Fmt.top : Fmt → Int
  | .int4 | .e2m1 => 2 | .e3m0 => 3 | .int8 => 6 | .uint8 => 7 | .e4m3 => 8 | .e5m2 => 15
  | _ => 0

/-- Decode a small binary float of `ebits` and `fbits` with the given bias, no special codes. -/
def fpDecode (ebits fbits : Nat) (bias : Int) (c : Nat) : XVal :=
  let neg := bit c (ebits + fbits)
  let x := bits c fbits ebits
  let f := c % 2 ^ fbits
  if x = 0 then .fin neg f (1 - bias - fbits) else .fin neg (2 ^ fbits + f) ((x : Int) - bias - fbits)

/-- Decode an IEEE 754 code of a wide format (R37). -/
def wideDecode (f : FpFmt) (c : Nat) : XVal :=
  let ebits := Nat.log2 ((f.emax - f.emin + 3).toNat)
  let x := bits c f.fbits ebits
  let fr := c % 2 ^ f.fbits
  if x = 2 ^ ebits - 1 then
    if fr = 0 then .inf (bit c (ebits + f.fbits)) else .nan (! bit c (f.fbits - 1))
  else fpDecode ebits f.fbits f.emax c

/-- The value of a narrow element code relative to its block scale (R30, R32 to R35): a zero code with a sign reads as
zero. -/
def narrowDecode : Fmt → Nat → XVal
  | .int4, c => let v := signed 4 c; .fin (v < 0) v.natAbs 0
  | .e2m1, c => if c % 8 = 0 then .fin false 0 0 else fpDecode 2 1 1 c
  | .e3m0, c => let k := c % 8
    if k = 0 then .fin false 0 0 else .fin (bit c 3) 1 ((k : Int) - 4)
  | .int8, c => let v := signed 8 c; .fin (v < 0) v.natAbs 0
  | .uint8, c => .fin false (c % 256) 0
  | .e4m3, c => if c % 128 = 127 then .nan false else fpDecode 4 3 7 c
  | .e5m2, c => if c % 128 = 124 then .inf (bit c 7) else if c % 128 > 124 then .nan false else fpDecode 5 2 15 c
  | _, _ => .fin false 0 0

/-- A value times a power of two. -/
def XVal.shift (k : Int) : XVal → XVal
  | .fin n m e => .fin n m (e + k)
  | v => v

/-- Round a magnitude to a float with no largest value: fraction bits and least normal exponent (R41, R42 step 2). -/
def roundUnb (fbits : Nat) (emin : Int) (m : Nat) (e : Int) : Nat × Int :=
  let l : Int := (Nat.log2 m : Int) + e
  let q : Int := max l emin - fbits
  ((rneGrid m e q).1, q)

/-- Code of a magnitude r × 2^q that lies on the grid of `roundUnb`. -/
def floatCode (fbits : Nat) (emin : Int) (r : Nat) (q : Int) : Nat :=
  if r = 0 then 0 else
  let l : Int := (Nat.log2 r : Int) + q
  if l < emin then r
  else (l - emin + 1).toNat * 2 ^ fbits + ((rneGrid r q (l - fbits)).1 - 2 ^ fbits)

/-- What a narrow conversion gives: the code without saturation handled, whether it saturates, whether a non-zero
element became zero. -/
structure NarrowRes where
  code : Nat := 0
  sat : Bool := false
  zeroed : Bool := false
  nv : Bool := false
  ov : Bool := false
  deriving DecidableEq, Repr

/-- The largest-magnitude code of a narrow format with a sign (R42 step 3, R29). -/
def narrowMax : Fmt → Bool → Nat
  | .int4, n => if n then 8 else 7
  | .e2m1, n => if n then 15 else 7
  | .e3m0, n => if n then 15 else 7
  | .int8, n => if n then 128 else 127
  | .uint8, n => if n then 0 else 255
  | .e4m3, n => if n then 0xFE else 0x7E
  | .e5m2, n => if n then 0xFB else 0x7B
  | _, _ => 0

/-- Round a non-zero finite relative value to an integer format of R30. A value of UINT8 from -0.5 to below 0 rounds to zero
and counts as zeroed, not as saturated (DESIGN CHOICE, assumption 102). -/
def toIntFmt (f : Fmt) (lo hi : Int) (w : Nat) (neg : Bool) (m : Nat) (e : Int) : NarrowRes :=
  if 40 < (Nat.log2 m : Int) + e then { code := narrowMax f neg, sat := true } else
  let r := (rneGrid m e 0).1
  let v : Int := if neg then -(r : Int) else r
  if hi < v ∨ v < lo then { code := narrowMax f neg, sat := true }
  else { code := wrap w v, zeroed := v = 0 }

/-- Round a non-zero finite relative value to a narrow binary float. -/
def toFloatFmt (f : Fmt) (fbits : Nat) (emin : Int) (maxCode signBit : Nat) (neg : Bool) (m : Nat) (e : Int) : NarrowRes :=
  if 40 < (Nat.log2 m : Int) + e then { code := narrowMax f neg, sat := true } else
  let (r, q) := roundUnb fbits emin m e
  let c := floatCode fbits emin r q
  if maxCode < c then { code := narrowMax f neg, sat := true }
  else if r = 0 then { code := 0, zeroed := true }
  else { code := c + b2n neg * 2 ^ signBit }

/-- Round a non-zero finite relative value to FP4-E3M0: the nearer magnitude, a tie to the even exponent code, zero
counting as even (R41, R42). -/
def toE3M0 (neg : Bool) (m : Nat) (e : Int) : NarrowRes :=
  let lg := Nat.log2 m
  let l : Int := (lg : Int) + e
  if 40 < l then { code := narrowMax .e3m0 neg, sat := true } else
  if l < -4 then { code := 0, zeroed := true } else
  let k : Nat := (l + 4).toNat                    -- code of the power of two at or below, 0 for the binade of 2^-4
  let rest := m - 2 ^ lg
  let up : Bool :=
    if k = 0 then rest ≠ 0
    else if 2 * rest < 2 ^ lg then false
    else if 2 ^ lg < 2 * rest then true
    else k % 2 = 1
  let c := if up then k + 1 else k
  if 7 < c then { code := narrowMax .e3m0 neg, sat := true }
  else if c = 0 then { code := 0, zeroed := true }
  else { code := c + b2n neg * 8 }

/-- Convert a value into a narrow format under a block scale (R42, R43). -/
def toNarrow (f : Fmt) (scale : Nat) (x : XVal) : NarrowRes :=
  match x with
  | .nan _ =>
    { code := if f = .e4m3 then 0x7F else if f = .e5m2 then 0x7E else 0, nv := true }
  | .inf n => { code := narrowMax f n, sat := true, ov := true }
  | .fin n m e =>
    if m = 0 then {} else
    let e' := e + 127 - scale
    match f with
    | .int4 => toIntFmt f (-8) 7 4 n m e'
    | .int8 => toIntFmt f (-128) 127 8 n m e'
    | .uint8 => toIntFmt f 0 255 8 n m e'
    | .e2m1 => toFloatFmt f 1 0 7 3 n m e'
    | .e3m0 => toE3M0 n m e'
    | .e4m3 => toFloatFmt f 3 (-6) 0x7E 7 n m e'
    | .e5m2 => toFloatFmt f 2 (-14) 0x7B 7 n m e'
    | _ => {}

/-- The scale a cold block takes (R54): clamp(127 + p − top + 1, 0, 254), 127 for an all-zero block. -/
def coldScale (f : Fmt) (p : Option Int) : Nat :=
  match p with
  | none => 127
  | some p => (max 0 (min 254 (127 + p - f.top + 1))).toNat

/-- floor(log2) of the largest finite non-zero magnitude of a block. -/
def peakOf (xs : List XVal) : Option Int :=
  xs.foldl (fun acc x => match acc, x.floorLog2 with
    | none, p => p
    | some a, none => some a
    | some a, some b => some (max a b)) none

/-- FP32 value of the 32 bits of a lane. -/
def lane (w : Word) : XVal := wideDecode fp32 w.toNat

/-- The 32 bits of an FP32 value that lies on the FP32 grid; every NaN the engine makes is 0x7FC0_0000 (R37). -/
def toLane (v : XVal) : Word := word (v.encode fp32)

/-- Round a value to an FP32 lane with its flags (R41). -/
def roundLane (v : XVal) : Word × VFlags := let (r, f) := v.round fp32; (toLane r, f)

/-- A narrow element with its scale as an FP32 lane (R44): exact, beyond the range infinity and OF. A block whose scale
is 0xFF reads as zero (R31). -/
def narrowLane (f : Fmt) (scale code : Nat) : Word × VFlags :=
  if scale = 255 then (0, {}) else
  match (narrowDecode f code).shift ((scale : Int) - 127) with
  | .nan _ => (word 0x7FC00000, {})
  | .inf n => (toLane (.inf n), {})
  | .fin n m e => let (r, fl) := roundFp fp32 n m e; (toLane r, { ov := fl.ov })

/-- A 16-bit float code as an FP32 lane, exact (R44): a NaN keeps its sign and its fraction bits (DEDUCED, assumption 11). -/
def halfLane (f : FpFmt) (c : Nat) : Word :=
  match wideDecode f c with
  | .nan _ => word (b2n (bit c 15) * 2 ^ 31 + 0x7F800000 + (c % 2 ^ f.fbits) * 2 ^ (23 - f.fbits))
  | v => toLane v

/-- The integer reading of a lane. -/
def laneInt (w : Word) : Int := w.toInt

/-- An integer as a lane, modulo 2^32. -/
def intLane (v : Int) : Word := word (wrap 32 v)

/-- Saturate to INT32, with OF when outside. -/
def satInt32 (v : Int) : Int × Bool :=
  if 2147483647 < v then (2147483647, true) else if v < -2147483648 then (-2147483648, true) else (v, false)

/-- Round a finite value to an integer by R41. -/
def rneInt (m : Nat) (e : Int) (neg : Bool) : Int × Bool :=
  let (r, ix) := rneGrid m e 0
  (if neg then -(r : Int) else r, ix)

/-! ### Integer forms and pair classes -/

/-- u of a format: the integer form times 2^u is the value (R128). -/
def Fmt.u : Fmt → Int
  | .e2m1 => -1 | .e3m0 => -3 | .e4m3 => -9 | .e5m2 => -16
  | _ => 0

/-- The integer form of a narrow element (R128); none for a NaN or an infinity (R505). -/
def intForm (f : Fmt) (c : Nat) : Option Int :=
  match narrowDecode f c with
  | .fin n m e => let v := m * 2 ^ (e - f.u).toNat; some (if n then -(v : Int) else v)
  | _ => none

/-- The pair class, a row of R129 from the top, 0 to 4; none where R130 raises BAD_FORMAT. -/
def pairClass (a b : Fmt) : Option Nat :=
  let half (f : Fmt) : Bool := f = .bf16 ∨ f = .fp16
  if (half a ∨ a.narrow) ∧ (half b ∨ b.narrow) then
    if half a ∨ half b then some 4
    else if a = .e5m2 ∨ b = .e5m2 then some 3
    else if a = .e4m3 ∨ b = .e4m3 then some 2
    else if a.bits = 8 ∨ b.bits = 8 then some 1
    else if a = .e3m0 ∧ b = .e3m0 then none
    else some 0
  else none

/-- W of a pair class (R129); the 16-bit class has none. -/
def pairW : Nat → Nat
  | 0 => 16 | 1 => 24 | 2 => 48 | 3 => 72 | _ => 16

/-- Band width w of a crossed group (R136). -/
def bandW : Fmt → Nat
  | .int4 => 4 | .e2m1 => 3 | _ => 0

/-- r of R138 by pair class. -/
def pairRate : Nat → Nat
  | 0 => 1 | 4 => 16 | _ => 4

/-- An FP16 code by R41, held at ±65,504 beyond (R56), and whether it was held: a value beyond 65,504 that still rounds to it
is not (DESIGN CHOICE, assumption 103). -/
def fp16Held (x : XVal) : Nat × Bool :=
  match x with
  | .fin n m e =>
    match (roundFp fp16 n m e).1 with
    | .inf n => ((b2n n) * 0x8000 + 0x7BFF, true)
    | v => (v.encode fp16, false)
  | .inf n => ((b2n n) * 0x8000 + 0x7BFF, true)
  | .nan _ => (0x7E00, false)

end Sys2Proof.Machine
end

