-- ==== Sys2Proof/Config.lean ====
section
/-! DEFINITION. What an implementation fixes and the free values: opaque constants with no body, so that no proof can
see a value of them. Each is named by a row of notes/assumptions. -/

namespace Sys2Proof.Config

/-- The variant sold (R1): false NT1-768, true NT1-384 (DESIGN CHOICE, assumption 4). -/
opaque small : Bool

/-- Analogue reading of one conversion before its trims (R105), in 1/1,024 converter step, by the model's counter of free
values (DESIGN CHOICE, assumption 9). -/
opaque analogRaw : Nat → Int

/-- Over-range flag in the band where R78 allows either, and whether a code may lie outside the band of R97 (DESIGN CHOICE,
assumption 9). -/
opaque analogFlag : Nat → Bool

/-- Functions of R175 whose bits the manual does not fix, by sub-code and operand bits (DESIGN CHOICE, assumption 12). -/
opaque func : Nat → BitVec 32 → BitVec 32

/-- The layer a slot, an engine entry or a tensor (by its TensorId) belongs to: the manual gives no map (DESIGN CHOICE, assumption 13). -/
opaque layerOfSlot : Nat → Nat
opaque layerOfEntry : Nat → Nat → Nat
opaque layerOfTensor : Nat → Nat

/-- Layers of a loaded plan, by its PlanId (DESIGN CHOICE, assumption 13). -/
opaque layers : Nat → Nat

/-- A value the manual leaves open, by the model's counter of free values (DESIGN CHOICE, assumption 9). -/
opaque freeNat : Nat → Nat

/-- Constants of an implementation that the manual names with a dash, by dictionary index and subindex
(DESIGN CHOICE, assumption 14). -/
opaque identity : Nat → Nat → Nat

/-- The same for entries of type STRING and DOMAIN (DESIGN CHOICE, assumption 14). -/
opaque identityBytes : Nat → Nat → List (BitVec 8)

/-- Signatures and key exchange values of the security block, by use and message, and whether a signature verifies under a
firmware signing key, by key, message and signature (DESIGN CHOICE, assumption 15). -/
opaque cryptoBytes : Nat → List (BitVec 8) → List (BitVec 8)
opaque signatureOk : Nat → List (BitVec 8) → List (BitVec 8) → Bool

/-- LocalCount of a logbook record (R374), by its Sequence: the model keeps no time (DESIGN CHOICE, assumption 16). -/
opaque localCount : Nat → Nat

/-- Payload of a CONNECT frame by kind, context number and credits, and what such a payload says (R325): the manual gives
no layout (DESIGN CHOICE, assumption 30). -/
opaque connectBytes : Nat → Nat → List (Nat × Nat) → List (BitVec 8)
opaque connectFields : List (BitVec 8) → Nat × Nat × List (Nat × Nat)

/-- The same for the head of a MESSAGE message (R219, R317): its fields and its data (DESIGN CHOICE, assumption 30). -/
opaque messageBytes : List Nat → List (BitVec 8) → List (BitVec 8)
opaque messageFields : List (BitVec 8) → List Nat × List (BitVec 8)

/-- The same for a MAILBOX message (R345): kind, mailboxes, bells and words (DESIGN CHOICE, assumption 30). -/
opaque mailBytes : List Nat → List (BitVec 8)
opaque mailFields : List (BitVec 8) → List Nat

/-- The value that stands in the wide reference of R63 for a master weight, or a sum, that is a NaN or an infinity, by its
FP32 bits; and the FP32 bits of a ratio of R66 whose divisor is zero, by its dividend: the manual states neither
(DESIGN CHOICE, assumption 22). -/
opaque nonFinite : Nat → Int
opaque overZero : Nat → Nat

/-- A reading in its unit as binary32, from converter, input and code: the sensors' factory scales (R455; DESIGN CHOICE, assumption 33). -/
opaque sensor : Nat → Nat → Int → BitVec 32

end Sys2Proof.Config
end

