-- ==== Sys2Proof/Machine/Crc.lean ====
section
/-! DEFINITION. Check values (R381 to R385): the computation of a unit, its fold, and the two named sets. -/

namespace Sys2Proof.Machine

/-- The low `w` bits of `x` in reverse order. -/
def reflect : Nat → Nat → Nat
  | 0, _ => 0
  | w + 1, x => (x % 2) * 2 ^ w + reflect w (x / 2)

/-- The settings of a check-value unit (R381). -/
structure CrcSet where
  w : Nat
  poly : Nat
  init : Nat
  refin : Bool
  refout : Bool
  xorout : Nat
  deriving DecidableEq, Repr

/-- C32 and C64 (R383). -/
def c32 : CrcSet := ⟨32, 0x1EDC6F41, 0xFFFFFFFF, true, true, 0xFFFFFFFF⟩
def c64 : CrcSet := ⟨64, 0x42F0E1EBA9EA3693, 0xFFFFFFFFFFFFFFFF, true, true, 0xFFFFFFFFFFFFFFFF⟩

/-- One bit of the string enters the register. -/
def crcBit (c : CrcSet) (crc b : Nat) : Nat :=
  let top := (crc >>> (c.w - 1) + b) % 2
  let sh := (crc * 2) % 2 ^ c.w
  if top = 1 then sh ^^^ (c.poly % 2 ^ c.w) else sh

/-- Bits `i - 1` to 0 of a byte enter, the highest first. -/
def crcBits (c : CrcSet) (b : Nat) : Nat → Nat → Nat
  | 0, crc => crc
  | i + 1, crc => crcBits c b i (crcBit c crc (b >>> i % 2))

/-- One byte of the string enters. -/
def crcByte (c : CrcSet) (crc : Nat) (b : Byte) : Nat :=
  crcBits c (if c.refin then reflect 8 b.toNat else b.toNat) 8 crc

/-- The check value of a byte string, with a value XORed into the start (INIT_XOR) and bytes fed ahead (PREFIX). -/
def crcFold (c : CrcSet) (initXor : Nat) (pre data : List Byte) : Nat :=
  let r := (pre ++ data).foldl (crcByte c) ((c.init ^^^ initXor) % 2 ^ c.w)
  let r := if c.refout then reflect c.w r else r
  r ^^^ (c.xorout % 2 ^ c.w)

/-- The check value of a byte string without a fold (R381). -/
def crc (c : CrcSet) (data : List Byte) : Nat := crcFold c 0 [] data

/-- The 10 bytes of step and attempt fed ahead of a bucket or a caravan (R384). -/
def stepPrefix (step attempt : Nat) : List Byte := bytesOf 8 step ++ bytesOf 2 attempt

end Sys2Proof.Machine
end

