-- ==== Sys2Proof/Machine/Fields.lean ====
section
/-! DEFINITION. The field maps of the T1's registers (R9, R10): R101, R125, R161, R195, R240, R274, R275, R306, R348,
R377, R388, R414 to R416, R426, R453, R471 and R502. A field whose reset is a dash has the value of DESIGN CHOICE, assumption 10.
XING_OVERRUN is set by State.merge (R462). -/

namespace Sys2Proof.Machine

/-- Access codes of R11. -/
inductive Acc where
  | ro | rw | wo | w1c | rc
  deriving DecidableEq, Repr

/-- A register field: section, offset of instance (i, j) at off + stride i + stride2 j, bits, access, reset value. -/
structure Fld where
  sec : Sec
  off : Nat
  stride : Nat
  count : Nat
  stride2 : Nat
  count2 : Nat
  lo : Nat
  w : Nat
  acc : Acc
  reset : Nat
  deriving DecidableEq, Repr

namespace Fld

def ARRAY_STATUS_STATE : Fld := ⟨.array, 0x0, 0x4, 8, 0, 1, 0, 3, .ro, 0x0⟩
def ARRAY_STATUS_STALE : Fld := ⟨.array, 0x0, 0x4, 8, 0, 1, 3, 1, .ro, 0x0⟩
def ARRAY_STATUS_REFRESH_DUE : Fld := ⟨.array, 0x0, 0x4, 8, 0, 1, 4, 1, .ro, 0x0⟩
def ARRAY_STATUS_TEMP_OOB : Fld := ⟨.array, 0x0, 0x4, 8, 0, 1, 5, 1, .ro, 0x0⟩
def ARRAY_STATUS_OVER_RANGE_SEEN : Fld := ⟨.array, 0x0, 0x4, 8, 0, 1, 6, 1, .w1c, 0x0⟩
def ARRAY_STATUS_WRITE_FAIL : Fld := ⟨.array, 0x0, 0x4, 8, 0, 1, 7, 1, .w1c, 0x0⟩
def ARRAY_STATUS_MISS_COUNT : Fld := ⟨.array, 0x0, 0x4, 8, 0, 1, 8, 7, .ro, 0x0⟩
def ARRAY_STATUS_LAYER_TAG : Fld := ⟨.array, 0x0, 0x4, 8, 0, 1, 16, 16, .ro, 0x0⟩
def ARRAY_CTRL_CAL_EN : Fld := ⟨.array, 0x20, 0x0, 1, 0, 1, 0, 1, .rw, 0x1⟩
def ARRAY_CTRL_REFRESH_EN : Fld := ⟨.array, 0x20, 0x0, 1, 0, 1, 1, 1, .rw, 0x1⟩
def ARRAY_CTRL_URGENT_BORROW : Fld := ⟨.array, 0x20, 0x0, 1, 0, 1, 2, 1, .rw, 0x1⟩
def ARRAY_CTRL_REF_MODE : Fld := ⟨.array, 0x20, 0x0, 1, 0, 1, 3, 1, .ro, 0x0⟩
def ARRAY_CTRL_VERIFY_WINDOW : Fld := ⟨.array, 0x20, 0x0, 1, 0, 1, 4, 6, .rw, 0x1d⟩
def ARRAY_COUNT_OVER_RANGE_CNT : Fld := ⟨.array, 0x40, 0x4, 8, 0, 1, 0, 16, .rc, 0x0⟩
def ARRAY_COUNT_ZERO_SKIP_CNT : Fld := ⟨.array, 0x40, 0x4, 8, 0, 1, 16, 16, .rc, 0x0⟩
def ARRAY_ARB_BORROWED : Fld := ⟨.array, 0x60, 0x4, 4, 0, 1, 0, 8, .rc, 0x0⟩
def ARRAY_ARB_CAL_SLOTS : Fld := ⟨.array, 0x60, 0x4, 4, 0, 1, 8, 8, .rc, 0x0⟩
def ARRAY_ARB_STALL_SLOTS : Fld := ⟨.array, 0x60, 0x4, 4, 0, 1, 16, 16, .rc, 0x0⟩
def CAL_STATUS_PASS_COUNT : Fld := ⟨.array, 0x80, 0x4, 4, 0, 1, 0, 16, .ro, 0x0⟩
def CAL_STATUS_REJECTS : Fld := ⟨.array, 0x80, 0x4, 4, 0, 1, 16, 8, .rc, 0x0⟩
def CAL_STATUS_STARVED : Fld := ⟨.array, 0x80, 0x4, 4, 0, 1, 24, 1, .ro, 0x0⟩
def CAL_STATUS_RUNNING : Fld := ⟨.array, 0x80, 0x4, 4, 0, 1, 25, 1, .ro, 0x0⟩
def CONV_SPARE_REPLACED : Fld := ⟨.array, 0xa0, 0x4, 4, 0, 1, 0, 6, .ro, 0x0⟩
def CONV_SPARE_IN_USE : Fld := ⟨.array, 0xa0, 0x4, 4, 0, 1, 6, 1, .ro, 0x0⟩
def CONV_SPARE_PENDING : Fld := ⟨.array, 0xa0, 0x4, 4, 0, 1, 7, 1, .ro, 0x0⟩
def REF_BIAS_BIAS : Fld := ⟨.array, 0xb0, 0x4, 4, 0, 1, 0, 10, .ro, 0x0⟩
def CREEP_COUNT_ROUTINE_ROWS : Fld := ⟨.array, 0xc0, 0x4, 8, 0, 1, 0, 16, .rc, 0x0⟩
def CREEP_COUNT_URGENT_ROWS : Fld := ⟨.array, 0xc0, 0x4, 8, 0, 1, 16, 8, .rc, 0x0⟩
def CREEP_COUNT_GROSS_CELLS : Fld := ⟨.array, 0xc0, 0x4, 8, 0, 1, 24, 8, .rc, 0x0⟩
def RETENTION_DRIFT : Fld := ⟨.array, 0xe0, 0x4, 8, 0, 1, 0, 12, .ro, 0x0⟩
def RETENTION_AGE : Fld := ⟨.array, 0xe0, 0x4, 8, 0, 1, 12, 20, .ro, 0x0⟩
def SPARE_COL_COLUMN : Fld := ⟨.array, 0x100, 0x10, 8, 4, 4, 0, 8, .ro, 0x0⟩
def SPARE_COL_IN_USE : Fld := ⟨.array, 0x100, 0x10, 8, 4, 4, 8, 1, .ro, 0x0⟩
def SPARE_COL_PENDING : Fld := ⟨.array, 0x100, 0x10, 8, 4, 4, 9, 1, .ro, 0x0⟩
def COL_TRIM_GAIN_NOW : Fld := ⟨.array, 0x1000, 0x800, 8, 4, 260, 0, 8, .ro, 0x0⟩
def COL_TRIM_OFFSET_NOW : Fld := ⟨.array, 0x1000, 0x800, 8, 4, 260, 8, 8, .ro, 0x0⟩
def COL_TRIM_GAIN_TARGET : Fld := ⟨.array, 0x1000, 0x800, 8, 4, 260, 16, 8, .ro, 0x0⟩
def COL_TRIM_OFFSET_TARGET : Fld := ⟨.array, 0x1000, 0x800, 8, 4, 260, 24, 8, .ro, 0x0⟩
def CONV_TRIM_GAIN_NOW : Fld := ⟨.array, 0x5000, 0x200, 4, 4, 65, 0, 8, .ro, 0x0⟩
def CONV_TRIM_OFFSET_NOW : Fld := ⟨.array, 0x5000, 0x200, 4, 4, 65, 8, 8, .ro, 0x0⟩
def CONV_TRIM_GAIN_TARGET : Fld := ⟨.array, 0x5000, 0x200, 4, 4, 65, 16, 8, .ro, 0x0⟩
def CONV_TRIM_OFFSET_TARGET : Fld := ⟨.array, 0x5000, 0x200, 4, 4, 65, 24, 8, .ro, 0x0⟩
def ENGINE_STATUS_BUSY : Fld := ⟨.engine, 0x0, 0x0, 1, 0, 1, 0, 1, .ro, 0x0⟩
def ENGINE_STATUS_HALTED : Fld := ⟨.engine, 0x0, 0x0, 1, 0, 1, 1, 1, .ro, 0x0⟩
def ENGINE_STATUS_RESIDUE_PRODUCT : Fld := ⟨.engine, 0x0, 0x0, 1, 0, 1, 2, 1, .w1c, 0x0⟩
def ENGINE_STATUS_RESIDUE_ACCUM : Fld := ⟨.engine, 0x0, 0x0, 1, 0, 1, 3, 1, .w1c, 0x0⟩
def ENGINE_STATUS_TILE_CONFLICT : Fld := ⟨.engine, 0x0, 0x0, 1, 0, 1, 4, 1, .w1c, 0x0⟩
def ENGINE_STATUS_ANCHOR_LOW : Fld := ⟨.engine, 0x0, 0x0, 1, 0, 1, 5, 1, .w1c, 0x0⟩
def ENGINE_STATUS_BAD_FORMAT : Fld := ⟨.engine, 0x0, 0x0, 1, 0, 1, 6, 1, .w1c, 0x0⟩
def ENGINE_STATUS_OPERAND_ALIGN : Fld := ⟨.engine, 0x0, 0x0, 1, 0, 1, 7, 1, .w1c, 0x0⟩
def ENGINE_STATUS_FIXUP_LEVEL : Fld := ⟨.engine, 0x0, 0x0, 1, 0, 1, 16, 11, .ro, 0x0⟩
def ENGINE_COUNT_BAND_PASSES : Fld := ⟨.engine, 0x4, 0x0, 1, 0, 1, 0, 16, .rc, 0x0⟩
def ENGINE_COUNT_PLANE_WAIT : Fld := ⟨.engine, 0x4, 0x0, 1, 0, 1, 16, 16, .rc, 0x0⟩
def GLACIER_STATUS_STATE : Fld := ⟨.engine, 0x10, 0x4, 2, 0, 1, 0, 2, .ro, 0x0⟩
def GLACIER_STATUS_HEADROOM_OVF : Fld := ⟨.engine, 0x10, 0x4, 2, 0, 1, 2, 1, .w1c, 0x0⟩
def GLACIER_STATUS_WINDOW_LOSS : Fld := ⟨.engine, 0x10, 0x4, 2, 0, 1, 3, 1, .w1c, 0x0⟩
def GLACIER_STATUS_CONFLICT_REASON : Fld := ⟨.engine, 0x10, 0x4, 2, 0, 1, 4, 3, .ro, 0x0⟩
def GLACIER_STATUS_PAIR_CLASS : Fld := ⟨.engine, 0x10, 0x4, 2, 0, 1, 8, 3, .ro, 0x0⟩
def GLACIER_STATUS_ANCHOR : Fld := ⟨.engine, 0x10, 0x4, 2, 0, 1, 16, 16, .ro, 0x0⟩
def GLACIER_COUNT_LOSS_TERMS : Fld := ⟨.engine, 0x20, 0x4, 2, 0, 1, 0, 16, .rc, 0x0⟩
def GLACIER_COUNT_OVF_ELEMS : Fld := ⟨.engine, 0x20, 0x4, 2, 0, 1, 16, 13, .rc, 0x0⟩
def ANCHOR_VALUE : Fld := ⟨.engine, 0x100, 0x4, 32, 0, 1, 0, 16, .ro, 0x0⟩
def VSTAT_NV : Fld := ⟨.vector, 0x0, 0x0, 1, 0, 1, 0, 1, .w1c, 0x0⟩
def VSTAT_OF : Fld := ⟨.vector, 0x0, 0x0, 1, 0, 1, 1, 1, .w1c, 0x0⟩
def VSTAT_UF : Fld := ⟨.vector, 0x0, 0x0, 1, 0, 1, 2, 1, .w1c, 0x0⟩
def VSTAT_NX : Fld := ⟨.vector, 0x0, 0x0, 1, 0, 1, 3, 1, .w1c, 0x0⟩
def VSTAT_DZ : Fld := ⟨.vector, 0x0, 0x0, 1, 0, 1, 4, 1, .w1c, 0x0⟩
def VSTAT_RG : Fld := ⟨.vector, 0x0, 0x0, 1, 0, 1, 5, 1, .w1c, 0x0⟩
def VSTAT_EMPTY : Fld := ⟨.vector, 0x0, 0x0, 1, 0, 1, 6, 1, .w1c, 0x0⟩
def VSTAT_RESIDUE_VECTOR : Fld := ⟨.vector, 0x0, 0x0, 1, 0, 1, 7, 1, .w1c, 0x0⟩
def VSTAT_BAD_CHAIN : Fld := ⟨.vector, 0x0, 0x0, 1, 0, 1, 8, 1, .w1c, 0x0⟩
def VSTAT_FIRST_NV_ENTRY : Fld := ⟨.vector, 0x0, 0x0, 1, 0, 1, 16, 16, .ro, 0xffff⟩
def VCOUNT_CHAINS : Fld := ⟨.vector, 0x4, 0x0, 1, 0, 1, 0, 16, .rc, 0x0⟩
def VCOUNT_VWAIT : Fld := ⟨.vector, 0x4, 0x0, 1, 0, 1, 16, 16, .rc, 0x0⟩
def VCHECK_CAUSE : Fld := ⟨.vector, 0x8, 0x0, 1, 0, 1, 0, 3, .ro, 0x0⟩
def VMW_MW_LOSS : Fld := ⟨.vector, 0xc, 0x0, 1, 0, 1, 0, 16, .rc, 0x0⟩
def VMW_MW_OVF : Fld := ⟨.vector, 0xc, 0x0, 1, 0, 1, 16, 16, .rc, 0x0⟩
def SEQ_STATUS_STATE : Fld := ⟨.seq, 0x0, 0x0, 1, 0, 1, 0, 3, .ro, 0x0⟩
def SEQ_STATUS_TOKEN_TIMEOUT : Fld := ⟨.seq, 0x0, 0x0, 1, 0, 1, 3, 1, .w1c, 0x0⟩
def SEQ_STATUS_TOKEN_OVF : Fld := ⟨.seq, 0x0, 0x0, 1, 0, 1, 4, 1, .w1c, 0x0⟩
def SEQ_STATUS_TOKEN_RESIDUE : Fld := ⟨.seq, 0x0, 0x0, 1, 0, 1, 5, 1, .w1c, 0x0⟩
def SEQ_STATUS_BAD_ENTRY : Fld := ⟨.seq, 0x0, 0x0, 1, 0, 1, 6, 1, .w1c, 0x0⟩
def SEQ_STATUS_CELLAR_FULL : Fld := ⟨.seq, 0x0, 0x0, 1, 0, 1, 7, 1, .w1c, 0x0⟩
def SEQ_STATUS_BAD_STASH : Fld := ⟨.seq, 0x0, 0x0, 1, 0, 1, 8, 1, .w1c, 0x0⟩
def SEQ_STATUS_BAD_POSITION : Fld := ⟨.seq, 0x0, 0x0, 1, 0, 1, 9, 1, .w1c, 0x0⟩
def SEQ_STATUS_MSG_LENGTH : Fld := ⟨.seq, 0x0, 0x0, 1, 0, 1, 10, 1, .w1c, 0x0⟩
def SEQ_STATUS_WAIT_ON : Fld := ⟨.seq, 0x0, 0x0, 1, 0, 1, 16, 6, .ro, 0x0⟩
def SEQ_STATUS_WAITING : Fld := ⟨.seq, 0x0, 0x0, 1, 0, 1, 22, 1, .ro, 0x0⟩
def SEQ_ENTRY_NEXT : Fld := ⟨.seq, 0x4, 0x0, 1, 0, 1, 0, 32, .ro, 0x0⟩
def SEQ_FAULT_ENTRY_ENTRY : Fld := ⟨.seq, 0x8, 0x0, 1, 0, 1, 0, 32, .ro, 0xffffffff⟩
def SEQ_COUNT_ISSUE_STALL : Fld := ⟨.seq, 0xc, 0x0, 1, 0, 1, 0, 16, .rc, 0x0⟩
def SEQ_COUNT_TOKEN_WAIT : Fld := ⟨.seq, 0xc, 0x0, 1, 0, 1, 16, 16, .rc, 0x0⟩
def CELLAR_USE_PRIMARY_MIB : Fld := ⟨.seq, 0x10, 0x0, 1, 0, 1, 0, 20, .ro, 0x0⟩
def CELLAR_USE_CHUNKS : Fld := ⟨.seq, 0x10, 0x0, 1, 0, 1, 20, 10, .ro, 0x0⟩
def TOKEN_COUNT : Fld := ⟨.seq, 0x100, 0x4, 64, 0, 1, 0, 16, .ro, 0x0⟩
def UPD_STATUS_STATE : Fld := ⟨.update, 0x0, 0x4, 33, 0, 1, 0, 2, .ro, 0x0⟩
def UPD_STATUS_UPDATE_INVALID : Fld := ⟨.update, 0x0, 0x4, 33, 0, 1, 2, 1, .w1c, 0x0⟩
def UPD_STATUS_RESIDUE_UPDATE : Fld := ⟨.update, 0x0, 0x4, 33, 0, 1, 3, 1, .w1c, 0x0⟩
def UPD_STATUS_STEP_SKEW : Fld := ⟨.update, 0x0, 0x4, 33, 0, 1, 4, 1, .w1c, 0x0⟩
def UPD_STATUS_SCALE_NAS : Fld := ⟨.update, 0x0, 0x4, 33, 0, 1, 5, 1, .w1c, 0x0⟩
def UPD_COUNT_BLOCKS : Fld := ⟨.update, 0x100, 0x4, 33, 0, 1, 0, 16, .rc, 0x0⟩
def UPD_COUNT_UPD_WAIT : Fld := ⟨.update, 0x100, 0x4, 33, 0, 1, 16, 16, .rc, 0x0⟩
def COMMIT_STATUS_PHASE : Fld := ⟨.update, 0x200, 0x0, 1, 0, 1, 0, 3, .ro, 0x0⟩
def COMMIT_STATUS_LAST_REFUSED : Fld := ⟨.update, 0x200, 0x0, 1, 0, 1, 3, 1, .ro, 0x0⟩
def COMMIT_STATUS_CONTROL_SKEW : Fld := ⟨.update, 0x200, 0x0, 1, 0, 1, 4, 1, .w1c, 0x0⟩
def COMMIT_STATUS_LEDGER_INCOMPLETE : Fld := ⟨.update, 0x200, 0x0, 1, 0, 1, 5, 1, .w1c, 0x0⟩
def COMMIT_STATUS_LEDGER_DUPLICATE : Fld := ⟨.update, 0x200, 0x0, 1, 0, 1, 6, 1, .w1c, 0x0⟩
def COMMIT_STATUS_VOTE_LOST : Fld := ⟨.update, 0x200, 0x0, 1, 0, 1, 7, 1, .ro, 0x0⟩
def COMMIT_STATUS_CLIP_INF : Fld := ⟨.update, 0x200, 0x0, 1, 0, 1, 8, 1, .w1c, 0x0⟩
def COMMIT_STATUS_HOLD_SMALL : Fld := ⟨.update, 0x200, 0x0, 1, 0, 1, 9, 1, .w1c, 0x0⟩
def COMMIT_STATUS_LEDGER_PROTECT : Fld := ⟨.update, 0x200, 0x0, 1, 0, 1, 10, 1, .w1c, 0x0⟩
def COMMIT_STATUS_ATTEMPT : Fld := ⟨.update, 0x200, 0x0, 1, 0, 1, 16, 16, .ro, 0x0⟩
def EXCH_STATUS_PHASE : Fld := ⟨.exch, 0x0, 0x0, 1, 0, 1, 0, 3, .ro, 0x0⟩
def EXCH_STATUS_COLD : Fld := ⟨.exch, 0x0, 0x0, 1, 0, 1, 3, 1, .ro, 0x0⟩
def EXCH_STATUS_REDUCE_MISMATCH : Fld := ⟨.exch, 0x0, 0x0, 1, 0, 1, 4, 1, .w1c, 0x0⟩
def EXCH_STATUS_EXCHANGE_RANGE : Fld := ⟨.exch, 0x0, 0x0, 1, 0, 1, 5, 1, .w1c, 0x0⟩
def EXCH_STATUS_REDUCE_COVERAGE : Fld := ⟨.exch, 0x0, 0x0, 1, 0, 1, 6, 1, .w1c, 0x0⟩
def EXCH_STATUS_BUCKET_SHAPE : Fld := ⟨.exch, 0x0, 0x0, 1, 0, 1, 7, 1, .w1c, 0x0⟩
def EXCH_STATUS_EXCHANGE_TIMEOUT : Fld := ⟨.exch, 0x0, 0x0, 1, 0, 1, 8, 1, .w1c, 0x0⟩
def EXCH_STATUS_REDUCE_LAYOUT : Fld := ⟨.exch, 0x0, 0x0, 1, 0, 1, 9, 1, .w1c, 0x0⟩
def EXCH_STATUS_READY_CORES : Fld := ⟨.exch, 0x0, 0x0, 1, 0, 1, 16, 16, .ro, 0x0⟩
def EXCH_COUNT_RECROSS_BLOCKS : Fld := ⟨.exch, 0x4, 0x0, 1, 0, 1, 0, 16, .rc, 0x0⟩
def EXCH_COUNT_SHADOW_BLOCKS : Fld := ⟨.exch, 0x4, 0x0, 1, 0, 1, 16, 16, .rc, 0x0⟩
def EXCH_LOSS_ZEROED_ELEMS : Fld := ⟨.exch, 0x8, 0x0, 1, 0, 1, 0, 16, .rc, 0x0⟩
def EXCH_LOSS_TAGGED_ELEMS : Fld := ⟨.exch, 0x8, 0x0, 1, 0, 1, 16, 16, .rc, 0x0⟩
def EXCH_PROGRESS_BUCKETS_FINAL : Fld := ⟨.exch, 0xc, 0x0, 1, 0, 1, 0, 24, .ro, 0x0⟩
def FABRIC_STATUS_ADDRESS_VALID : Fld := ⟨.fabric, 0x0, 0x0, 1, 0, 1, 0, 1, .ro, 0x0⟩
def FABRIC_STATUS_FRAME_LOSS : Fld := ⟨.fabric, 0x0, 0x0, 1, 0, 1, 1, 1, .w1c, 0x0⟩
def FABRIC_STATUS_NO_ROUTE : Fld := ⟨.fabric, 0x0, 0x0, 1, 0, 1, 2, 1, .w1c, 0x0⟩
def FABRIC_STATUS_RING_LAYOUT : Fld := ⟨.fabric, 0x0, 0x0, 1, 0, 1, 3, 1, .w1c, 0x0⟩
def FABRIC_STATUS_TRAVEL_POOL_FULL : Fld := ⟨.fabric, 0x0, 0x0, 1, 0, 1, 4, 1, .w1c, 0x0⟩
def FABRIC_STATUS_TRAVEL_LAYOUT : Fld := ⟨.fabric, 0x0, 0x0, 1, 0, 1, 5, 1, .w1c, 0x0⟩
def FABRIC_STATUS_VOTE_TREE : Fld := ⟨.fabric, 0x0, 0x0, 1, 0, 1, 6, 1, .w1c, 0x0⟩
def FABRIC_STATUS_CONTEXT_FULL : Fld := ⟨.fabric, 0x0, 0x0, 1, 0, 1, 7, 1, .w1c, 0x0⟩
def FABRIC_STATUS_RX_POOL_SMALL : Fld := ⟨.fabric, 0x0, 0x0, 1, 0, 1, 8, 1, .w1c, 0x0⟩
def FABRIC_STATUS_ADDRESS : Fld := ⟨.fabric, 0x0, 0x0, 1, 0, 1, 16, 16, .ro, 0xffff⟩
def FABRIC_COUNT0_HOP_EXPIRED : Fld := ⟨.fabric, 0x4, 0x0, 1, 0, 1, 0, 16, .rc, 0x0⟩
def FABRIC_COUNT0_NO_ROUTE_FRAMES : Fld := ⟨.fabric, 0x4, 0x0, 1, 0, 1, 16, 16, .rc, 0x0⟩
def FABRIC_COUNT1_STALE_MSGS : Fld := ⟨.fabric, 0x8, 0x0, 1, 0, 1, 0, 16, .rc, 0x0⟩
def FABRIC_COUNT1_BAD_FRAMES : Fld := ⟨.fabric, 0x8, 0x0, 1, 0, 1, 16, 16, .rc, 0x0⟩
def TRAVEL_COUNT_DROPPED : Fld := ⟨.fabric, 0xc, 0x0, 1, 0, 1, 0, 16, .rc, 0x0⟩
def TRAVEL_COUNT_REJECTS : Fld := ⟨.fabric, 0xc, 0x0, 1, 0, 1, 16, 8, .rc, 0x0⟩
def PORT_STATUS_STATE : Fld := ⟨.fabric, 0x10, 0x4, 12, 0, 1, 0, 3, .ro, 0x0⟩
def PORT_STATUS_BONDED : Fld := ⟨.fabric, 0x10, 0x4, 12, 0, 1, 3, 1, .ro, 0x0⟩
def PORT_STATUS_BOND_MISMATCH : Fld := ⟨.fabric, 0x10, 0x4, 12, 0, 1, 4, 1, .ro, 0x0⟩
def PORT_STATUS_NEIGHBOUR_VALID : Fld := ⟨.fabric, 0x10, 0x4, 12, 0, 1, 5, 1, .ro, 0x0⟩
def PORT_STATUS_STANDS_FOR : Fld := ⟨.fabric, 0x10, 0x4, 12, 0, 1, 8, 4, .ro, 0xf⟩
def PORT_STATUS_NEIGHBOUR_PORT : Fld := ⟨.fabric, 0x10, 0x4, 12, 0, 1, 12, 4, .ro, 0x0⟩
def PORT_STATUS_NEIGHBOUR_ADDR : Fld := ⟨.fabric, 0x10, 0x4, 12, 0, 1, 16, 16, .ro, 0xffff⟩
def PORT_ERR_CORRECTED : Fld := ⟨.fabric, 0x40, 0x4, 12, 0, 1, 0, 16, .rc, 0x0⟩
def PORT_ERR_UNCORRECTED : Fld := ⟨.fabric, 0x40, 0x4, 12, 0, 1, 16, 8, .rc, 0x0⟩
def PORT_ERR_RETRAINS : Fld := ⟨.fabric, 0x40, 0x4, 12, 0, 1, 24, 4, .ro, 0x0⟩
def FMB_CFG_REMOTE_ADDR : Fld := ⟨.fabric, 0x100, 0x20, 16, 0, 1, 0, 16, .rw, 0xffff⟩
def FMB_CFG_REMOTE_BOX : Fld := ⟨.fabric, 0x100, 0x20, 16, 0, 1, 16, 4, .rw, 0x0⟩
def FMB_CFG_ENABLE : Fld := ⟨.fabric, 0x100, 0x20, 16, 0, 1, 20, 1, .rw, 0x0⟩
def FMB_TX_DATA_WORD : Fld := ⟨.fabric, 0x104, 0x20, 16, 0, 1, 0, 32, .wo, 0x0⟩
def FMB_TX_BELL_BELLS : Fld := ⟨.fabric, 0x108, 0x20, 16, 0, 1, 0, 32, .wo, 0x0⟩
def FMB_TX_STATUS_TX_LEVEL : Fld := ⟨.fabric, 0x10c, 0x20, 16, 0, 1, 0, 5, .ro, 0x0⟩
def FMB_TX_STATUS_BUSY : Fld := ⟨.fabric, 0x10c, 0x20, 16, 0, 1, 5, 1, .ro, 0x0⟩
def FMB_TX_STATUS_TAKEN : Fld := ⟨.fabric, 0x10c, 0x20, 16, 0, 1, 6, 1, .w1c, 0x0⟩
def FMB_TX_STATUS_TX_OVERRUN : Fld := ⟨.fabric, 0x10c, 0x20, 16, 0, 1, 7, 1, .w1c, 0x0⟩
def FMB_TX_STATUS_TX_ABORT : Fld := ⟨.fabric, 0x10c, 0x20, 16, 0, 1, 8, 1, .wo, 0x0⟩
def FMB_RX_DATA_WORD : Fld := ⟨.fabric, 0x110, 0x20, 16, 0, 1, 0, 32, .rc, 0x0⟩
def FMB_RX_STATUS_RX_LEVEL : Fld := ⟨.fabric, 0x114, 0x20, 16, 0, 1, 0, 5, .ro, 0x0⟩
def FMB_RX_STATUS_RX_UNDERRUN : Fld := ⟨.fabric, 0x114, 0x20, 16, 0, 1, 5, 1, .w1c, 0x0⟩
def FMB_RX_BELL_BELLS : Fld := ⟨.fabric, 0x118, 0x20, 16, 0, 1, 0, 32, .w1c, 0x0⟩
def FMB_RX_MASK_MASK : Fld := ⟨.fabric, 0x11c, 0x20, 16, 0, 1, 0, 32, .rw, 0x0⟩
def WATCH_STATUS_WATCH_MISMATCH : Fld := ⟨.watch, 0x0, 0x0, 1, 0, 1, 0, 1, .w1c, 0x0⟩
def WATCH_STATUS_BUSY : Fld := ⟨.watch, 0x0, 0x0, 1, 0, 1, 1, 1, .ro, 0x0⟩
def WATCH_STATUS_LEVEL : Fld := ⟨.watch, 0x0, 0x0, 1, 0, 1, 2, 3, .ro, 0x0⟩
def WATCH_STATUS_ARRAY : Fld := ⟨.watch, 0x0, 0x0, 1, 0, 1, 8, 3, .ro, 0x0⟩
def WATCH_STATUS_WORST : Fld := ⟨.watch, 0x0, 0x0, 1, 0, 1, 16, 8, .ro, 0x0⟩
def WATCH_COUNT_SAMPLES : Fld := ⟨.watch, 0x4, 0x0, 1, 0, 1, 0, 16, .rc, 0x0⟩
def WATCH_COUNT_STALL : Fld := ⟨.watch, 0x4, 0x0, 1, 0, 1, 16, 16, .rc, 0x0⟩
def RECOVERY_STATUS_STATE : Fld := ⟨.recovery, 0x0, 0x0, 1, 0, 1, 0, 2, .ro, 0x0⟩
def RECOVERY_STATUS_EARLY_STOP : Fld := ⟨.recovery, 0x0, 0x0, 1, 0, 1, 2, 1, .ro, 0x0⟩
def RECOVERY_STATUS_RETIRE_PENDING : Fld := ⟨.recovery, 0x0, 0x0, 1, 0, 1, 3, 1, .ro, 0x0⟩
def RECOVERY_STATUS_REFUSALS : Fld := ⟨.recovery, 0x0, 0x0, 1, 0, 1, 16, 16, .ro, 0x0⟩
def RECOVERY_COUNT_REPLAYS : Fld := ⟨.recovery, 0x4, 0x0, 1, 0, 1, 0, 16, .rc, 0x0⟩
def RECOVERY_COUNT_HOLDS : Fld := ⟨.recovery, 0x4, 0x0, 1, 0, 1, 16, 16, .rc, 0x0⟩
def FIRST_FAULT_CODE : Fld := ⟨.recovery, 0x8, 0x0, 1, 0, 1, 0, 16, .ro, 0x0⟩
def FIRST_FAULT_CORE : Fld := ⟨.recovery, 0x8, 0x0, 1, 0, 1, 16, 12, .ro, 0xfff⟩
def GU_CTRL_START : Fld := ⟨.gu, 0x0, 0x0, 1, 0, 1, 0, 1, .wo, 0x0⟩
def GU_CTRL_STOP : Fld := ⟨.gu, 0x0, 0x0, 1, 0, 1, 1, 1, .wo, 0x0⟩
def GU_CTRL_WIDTH_M1 : Fld := ⟨.gu, 0x0, 0x0, 1, 0, 1, 2, 6, .rw, 0x1f⟩
def GU_CTRL_REFIN : Fld := ⟨.gu, 0x0, 0x0, 1, 0, 1, 8, 1, .rw, 0x1⟩
def GU_CTRL_REFOUT : Fld := ⟨.gu, 0x0, 0x0, 1, 0, 1, 9, 1, .rw, 0x1⟩
def GU_CTRL_FOLD_MODE : Fld := ⟨.gu, 0x0, 0x0, 1, 0, 1, 10, 2, .rw, 0x0⟩
def GU_CTRL_FOLD_SRC : Fld := ⟨.gu, 0x0, 0x0, 1, 0, 1, 12, 2, .rw, 0x0⟩
def GU_CTRL_FOLD_BYTES : Fld := ⟨.gu, 0x0, 0x0, 1, 0, 1, 14, 4, .rw, 0x0⟩
def GU_CTRL_COMPARE : Fld := ⟨.gu, 0x0, 0x0, 1, 0, 1, 18, 1, .rw, 0x0⟩
def GU_CTRL_OWNED : Fld := ⟨.gu, 0x0, 0x0, 1, 0, 1, 19, 1, .ro, 0x0⟩
def GU_SNOOP_SOURCE : Fld := ⟨.gu, 0x4, 0x0, 1, 0, 1, 0, 4, .rw, 0x0⟩
def GU_SNOOP_CORE : Fld := ⟨.gu, 0x4, 0x0, 1, 0, 1, 4, 12, .rw, 0x0⟩
def GU_SNOOP_CHANNEL : Fld := ⟨.gu, 0x4, 0x0, 1, 0, 1, 16, 8, .rw, 0x0⟩
def GU_PEER_PEER : Fld := ⟨.gu, 0x8, 0x0, 1, 0, 1, 0, 16, .rw, 0xffff⟩
def GU_STATUS_BUSY : Fld := ⟨.gu, 0xc, 0x0, 1, 0, 1, 0, 1, .ro, 0x0⟩
def GU_STATUS_DONE : Fld := ⟨.gu, 0xc, 0x0, 1, 0, 1, 1, 1, .w1c, 0x0⟩
def GU_STATUS_OVERRUN : Fld := ⟨.gu, 0xc, 0x0, 1, 0, 1, 2, 1, .w1c, 0x0⟩
def GU_STATUS_MISMATCH : Fld := ⟨.gu, 0xc, 0x0, 1, 0, 1, 3, 1, .w1c, 0x0⟩
def GU_STATUS_ABORTED : Fld := ⟨.gu, 0xc, 0x0, 1, 0, 1, 4, 1, .w1c, 0x0⟩
def GU_STATUS_CONFIG_BAD : Fld := ⟨.gu, 0xc, 0x0, 1, 0, 1, 5, 1, .w1c, 0x0⟩
def GU_STATUS_WRITE_IGNORED : Fld := ⟨.gu, 0xc, 0x0, 1, 0, 1, 6, 1, .w1c, 0x0⟩
def GU_STATUS_SKIPPED : Fld := ⟨.gu, 0xc, 0x0, 1, 0, 1, 7, 1, .w1c, 0x0⟩
def GU_COUNT_RESULTS : Fld := ⟨.gu, 0x10, 0x0, 1, 0, 1, 0, 16, .ro, 0x0⟩
def GU_COUNT_MISMATCHES : Fld := ⟨.gu, 0x10, 0x0, 1, 0, 1, 16, 16, .rc, 0x0⟩
def HOST_STATUS_READY : Fld := ⟨.host, 0x0, 0x0, 1, 0, 1, 0, 1, .ro, 0x0⟩
def HOST_STATUS_STEP_STATE : Fld := ⟨.host, 0x0, 0x0, 1, 0, 1, 1, 2, .ro, 0x0⟩
def HOST_STATUS_LATCHED : Fld := ⟨.host, 0x0, 0x0, 1, 0, 1, 3, 1, .ro, 0x0⟩
def HOST_STATUS_IN_PROGRESS : Fld := ⟨.host, 0x0, 0x0, 1, 0, 1, 4, 1, .ro, 0x0⟩
def HOST_STATUS_LINK_WIDTH : Fld := ⟨.host, 0x0, 0x0, 1, 0, 1, 5, 5, .ro, 0x0⟩
def HOST_STATUS_LINK_GEN : Fld := ⟨.host, 0x0, 0x0, 1, 0, 1, 10, 3, .ro, 0x0⟩
def HOST_STATUS_FLIT : Fld := ⟨.host, 0x0, 0x0, 1, 0, 1, 13, 1, .ro, 0x0⟩
def HOST_STATUS_IDE_ACTIVE : Fld := ⟨.host, 0x0, 0x0, 1, 0, 1, 14, 1, .ro, 0x0⟩
def STEP_DOORBELL_TARGET : Fld := ⟨.host, 0x4, 0x0, 1, 0, 1, 0, 24, .wo, 0x0⟩
def STEP_DOORBELL_SLOT : Fld := ⟨.host, 0x4, 0x0, 1, 0, 1, 24, 1, .wo, 0x0⟩
def DOORBELL_STATUS_LAST_TARGET : Fld := ⟨.host, 0x8, 0x0, 1, 0, 1, 0, 24, .ro, 0x0⟩
def DOORBELL_STATUS_REFUSE_REASON : Fld := ⟨.host, 0x8, 0x0, 1, 0, 1, 24, 3, .ro, 0x0⟩
def RESULT_LATEST_PAGE : Fld := ⟨.host, 0xc, 0x0, 1, 0, 1, 0, 2, .ro, 0x0⟩
def RESULT_LATEST_STEP_LOW : Fld := ⟨.host, 0xc, 0x0, 1, 0, 1, 2, 30, .ro, 0x0⟩
def APERTURE_BASE_BASE_GIB : Fld := ⟨.host, 0x18, 0x0, 1, 0, 1, 0, 10, .rw, 0x0⟩
def HOST_COUNT_DB_DUPLICATES : Fld := ⟨.host, 0x1c, 0x0, 1, 0, 1, 0, 16, .rc, 0x0⟩
def HOST_COUNT_UNMAPPED_ACCESS : Fld := ⟨.host, 0x1c, 0x0, 1, 0, 1, 16, 16, .rc, 0x0⟩
def MB_CFG_ENABLE : Fld := ⟨.mbHost, 0x0, 0x0, 1, 0, 1, 0, 1, .rw, 0x1⟩
def MB_CFG_MODE : Fld := ⟨.mbHost, 0x0, 0x0, 1, 0, 1, 1, 1, .rw, 0x0⟩
def MB_CFG_TAKEN_IE : Fld := ⟨.mbHost, 0x0, 0x0, 1, 0, 1, 2, 1, .rw, 0x0⟩
def MB_TX_STATUS_TX_LEVEL : Fld := ⟨.mbHost, 0xc, 0x0, 1, 0, 1, 0, 5, .ro, 0x0⟩
def MB_TX_STATUS_BUSY : Fld := ⟨.mbHost, 0xc, 0x0, 1, 0, 1, 5, 1, .ro, 0x0⟩
def MB_TX_STATUS_TAKEN : Fld := ⟨.mbHost, 0xc, 0x0, 1, 0, 1, 6, 1, .w1c, 0x0⟩
def MB_TX_STATUS_TX_OVERRUN : Fld := ⟨.mbHost, 0xc, 0x0, 1, 0, 1, 7, 1, .w1c, 0x0⟩
def MB_TX_STATUS_TX_ABORT : Fld := ⟨.mbHost, 0xc, 0x0, 1, 0, 1, 8, 1, .wo, 0x0⟩
def MB_TX_STATUS_TX_FORMAT : Fld := ⟨.mbHost, 0xc, 0x0, 1, 0, 1, 9, 1, .w1c, 0x0⟩
def MB_TX_STATUS_PEER_RESET : Fld := ⟨.mbHost, 0xc, 0x0, 1, 0, 1, 10, 1, .w1c, 0x0⟩
def MB_RX_STATUS_RX_LEVEL : Fld := ⟨.mbHost, 0x18, 0x0, 1, 0, 1, 0, 5, .ro, 0x0⟩
def MB_RX_STATUS_RX_UNDERRUN : Fld := ⟨.mbHost, 0x18, 0x0, 1, 0, 1, 5, 1, .w1c, 0x0⟩
def WIN_CTRL_GO : Fld := ⟨.win, 0x0, 0x0, 1, 0, 1, 0, 1, .wo, 0x0⟩
def WIN_STATUS_BUSY : Fld := ⟨.win, 0x4, 0x0, 1, 0, 1, 0, 1, .ro, 0x0⟩
def WIN_STATUS_DONE : Fld := ⟨.win, 0x4, 0x0, 1, 0, 1, 1, 1, .w1c, 0x0⟩
def WIN_STATUS_AVAILABLE : Fld := ⟨.win, 0x4, 0x0, 1, 0, 1, 2, 1, .ro, 0x0⟩
def WIN_STATUS_OVERRUN : Fld := ⟨.win, 0x4, 0x0, 1, 0, 1, 3, 1, .w1c, 0x0⟩
def WIN_STATUS_HELD : Fld := ⟨.win, 0x4, 0x0, 1, 0, 1, 4, 1, .ro, 0x0⟩
def WIN_COUNT_REQUESTS : Fld := ⟨.win, 0x8, 0x0, 1, 0, 1, 0, 16, .rc, 0x0⟩
def WIN_COUNT_RESTARTS : Fld := ⟨.win, 0x8, 0x0, 1, 0, 1, 16, 16, .ro, 0x0⟩
def HK_CTRL_ENABLE : Fld := ⟨.hk, 0x0, 0x0, 1, 0, 1, 0, 1, .rw, 0x1⟩
def HK_CTRL_PACK : Fld := ⟨.hk, 0x0, 0x0, 1, 0, 1, 1, 1, .rw, 0x0⟩
def HK_CTRL_SURVEY_REPEAT : Fld := ⟨.hk, 0x0, 0x0, 1, 0, 1, 2, 1, .rw, 0x1⟩
def HK_CTRL_MAINS60 : Fld := ⟨.hk, 0x0, 0x0, 1, 0, 1, 3, 1, .ro, 0x0⟩
def HK_CTRL_TRIG_EN : Fld := ⟨.hk, 0x0, 0x0, 1, 0, 1, 4, 3, .rw, 0x7⟩
def HK_CTRL_BURST_SW : Fld := ⟨.hk, 0x0, 0x0, 1, 0, 1, 7, 1, .wo, 0x0⟩
def HK_CTRL_SELFCAL_REQ : Fld := ⟨.hk, 0x0, 0x0, 1, 0, 1, 8, 1, .wo, 0x0⟩
def HK_STATUS_STATE : Fld := ⟨.hk, 0x4, 0x0, 1, 0, 1, 0, 2, .ro, 0x0⟩
def HK_STATUS_STALE_ANY : Fld := ⟨.hk, 0x4, 0x0, 1, 0, 1, 2, 1, .ro, 0x0⟩
def HK_STATUS_HK_CAL_REJECT : Fld := ⟨.hk, 0x4, 0x0, 1, 0, 1, 3, 1, .w1c, 0x0⟩
def HK_STATUS_SURVEY_DONE : Fld := ⟨.hk, 0x4, 0x0, 1, 0, 1, 4, 1, .w1c, 0x0⟩
def HK_STATUS_BURST_DONE : Fld := ⟨.hk, 0x4, 0x0, 1, 0, 1, 5, 1, .w1c, 0x0⟩
def HK_STATUS_TRIG_CAUSE : Fld := ⟨.hk, 0x4, 0x0, 1, 0, 1, 8, 3, .ro, 0x0⟩
def HK_COUNT_BURST_DROPPED : Fld := ⟨.hk, 0x8, 0x0, 1, 0, 1, 0, 16, .rc, 0x0⟩
def HK_COUNT_CYCLES : Fld := ⟨.hk, 0x8, 0x0, 1, 0, 1, 16, 16, .rc, 0x0⟩
def HK_LIST_CFG_SURVEY_LEN : Fld := ⟨.hk, 0xc, 0x0, 1, 0, 1, 0, 6, .rw, 0x0⟩
def HK_LIST_CFG_BURST_LEN : Fld := ⟨.hk, 0xc, 0x0, 1, 0, 1, 8, 3, .rw, 0x3⟩
def HK_SURVEY_INPUT : Fld := ⟨.hk, 0x40, 0x4, 32, 0, 1, 0, 6, .rw, 0x0⟩
def HK_SURVEY_PERIOD : Fld := ⟨.hk, 0x40, 0x4, 32, 0, 1, 6, 2, .rw, 0x0⟩
def HK_BURST_INPUT : Fld := ⟨.hk, 0xc0, 0x4, 4, 0, 1, 0, 6, .rw, 0x0⟩
def HK_BURST_PERIOD : Fld := ⟨.hk, 0xc0, 0x4, 4, 0, 1, 6, 2, .rw, 0x0⟩
def HK_SPARE_STANDS_FOR : Fld := ⟨.hk, 0xe0, 0x4, 8, 0, 1, 0, 6, .ro, 0x0⟩
def HK_SPARE_IN_USE : Fld := ⟨.hk, 0xe0, 0x4, 8, 0, 1, 6, 1, .ro, 0x0⟩
def HK_RESULT_CODE : Fld := ⟨.hk, 0x100, 0x8, 64, 0, 1, 0, 32, .ro, 0x0⟩
def HK_RINFO_OVER_RANGE : Fld := ⟨.hk, 0x104, 0x8, 64, 0, 1, 0, 1, .ro, 0x0⟩
def HK_RINFO_STALE : Fld := ⟨.hk, 0x104, 0x8, 64, 0, 1, 1, 1, .ro, 0x0⟩
def HK_RINFO_FAILED : Fld := ⟨.hk, 0x104, 0x8, 64, 0, 1, 2, 1, .ro, 0x0⟩
def HK_RINFO_NEW : Fld := ⟨.hk, 0x104, 0x8, 64, 0, 1, 3, 1, .ro, 0x0⟩
def HK_RINFO_BURST : Fld := ⟨.hk, 0x104, 0x8, 64, 0, 1, 4, 1, .ro, 0x0⟩
def HK_RINFO_DIFF : Fld := ⟨.hk, 0x104, 0x8, 64, 0, 1, 5, 1, .ro, 0x0⟩
def HK_RINFO_COUNT : Fld := ⟨.hk, 0x104, 0x8, 64, 0, 1, 16, 16, .ro, 0x0⟩
def CLK_STATUS_CCLK_LOCK : Fld := ⟨.clock, 0x0, 0x0, 1, 0, 1, 0, 5, .ro, 0x0⟩
def CLK_STATUS_ATCLK_LOCK : Fld := ⟨.clock, 0x0, 0x0, 1, 0, 1, 5, 4, .ro, 0x0⟩
def CLK_STATUS_PHY_LOCK : Fld := ⟨.clock, 0x0, 0x0, 1, 0, 1, 9, 16, .ro, 0x0⟩
def CLK_STATUS_PCLK_LOCK : Fld := ⟨.clock, 0x0, 0x0, 1, 0, 1, 25, 1, .ro, 0x0⟩
def CLK_STATUS_MCLK_LOCK : Fld := ⟨.clock, 0x0, 0x0, 1, 0, 1, 26, 1, .ro, 0x0⟩
def CLK_STATUS_HOST_REF : Fld := ⟨.clock, 0x0, 0x0, 1, 0, 1, 27, 1, .ro, 0x0⟩
def CLK_STATUS_FABRIC_REF : Fld := ⟨.clock, 0x0, 0x0, 1, 0, 1, 28, 1, .ro, 0x0⟩
def CLK_STATUS_CLOCK_FAIL : Fld := ⟨.clock, 0x0, 0x0, 1, 0, 1, 29, 1, .ro, 0x0⟩
def CLK_COUNT_RELOCKS : Fld := ⟨.clock, 0x4, 0x0, 1, 0, 1, 0, 16, .rc, 0x0⟩
def XING_OVERRUN_X10 : Fld := ⟨.clock, 0x8, 0x0, 1, 0, 1, 0, 1, .w1c, 0x0⟩
def XING_OVERRUN_X11 : Fld := ⟨.clock, 0x8, 0x0, 1, 0, 1, 1, 1, .w1c, 0x0⟩
def XING_OVERRUN_X12 : Fld := ⟨.clock, 0x8, 0x0, 1, 0, 1, 2, 1, .w1c, 0x0⟩
def XING_OVERRUN_X13 : Fld := ⟨.clock, 0x8, 0x0, 1, 0, 1, 3, 1, .w1c, 0x0⟩
def XING_OVERRUN_OVERRUN_COUNT : Fld := ⟨.clock, 0x8, 0x0, 1, 0, 1, 16, 16, .rc, 0x0⟩
def RESET_CAUSE_LAST : Fld := ⟨.clock, 0xc, 0x0, 1, 0, 1, 0, 3, .ro, 0x0⟩
def RESET_CAUSE_MODULE_RESETS : Fld := ⟨.clock, 0xc, 0x0, 1, 0, 1, 8, 16, .ro, 0x0⟩
def PWR_STATUS_STATE : Fld := ⟨.power, 0x0, 0x0, 1, 0, 1, 0, 3, .ro, 0x1⟩
def PWR_STATUS_ALERT : Fld := ⟨.power, 0x0, 0x0, 1, 0, 1, 3, 1, .ro, 0x0⟩
def PWR_STATUS_LEVEL_CD0 : Fld := ⟨.power, 0x0, 0x0, 1, 0, 1, 4, 4, .ro, 0x0⟩
def PWR_STATUS_LEVEL_CD1 : Fld := ⟨.power, 0x0, 0x0, 1, 0, 1, 8, 4, .ro, 0x0⟩
def PWR_STATUS_LEVEL_CD2 : Fld := ⟨.power, 0x0, 0x0, 1, 0, 1, 12, 4, .ro, 0x0⟩
def PWR_STATUS_LEVEL_CD3 : Fld := ⟨.power, 0x0, 0x0, 1, 0, 1, 16, 4, .ro, 0x0⟩
def PWR_STATUS_CAUSE : Fld := ⟨.power, 0x0, 0x0, 1, 0, 1, 20, 3, .ro, 0x0⟩
def PWR_COUNT_POWER_STEPS : Fld := ⟨.power, 0x4, 0x0, 1, 0, 1, 0, 16, .rc, 0x0⟩
def PWR_COUNT_THERMAL_STEPS : Fld := ⟨.power, 0x4, 0x0, 1, 0, 1, 16, 16, .rc, 0x0⟩
def HOST_EVENT_RESULT : Fld := ⟨.host, 0x10, 0x0, 1, 0, 1, 0, 1, .w1c, 0x0⟩
def HOST_EVENT_HOLD : Fld := ⟨.host, 0x10, 0x0, 1, 0, 1, 1, 1, .w1c, 0x0⟩
def HOST_EVENT_VOTE_LOST : Fld := ⟨.host, 0x10, 0x0, 1, 0, 1, 2, 1, .w1c, 0x0⟩
def HOST_EVENT_DB_REFUSED : Fld := ⟨.host, 0x10, 0x0, 1, 0, 1, 3, 1, .w1c, 0x0⟩
def HOST_EVENT_READY : Fld := ⟨.host, 0x10, 0x0, 1, 0, 1, 4, 1, .w1c, 0x0⟩
def HOST_EVENT_SELFTEST_FAIL : Fld := ⟨.host, 0x10, 0x0, 1, 0, 1, 5, 1, .w1c, 0x0⟩
def HOST_EVENT_LINK_DEGRADED : Fld := ⟨.host, 0x10, 0x0, 1, 0, 1, 6, 1, .w1c, 0x0⟩
def HOST_EVENT_MASK_MASK : Fld := ⟨.host, 0x14, 0x0, 1, 0, 1, 0, 7, .rw, 0x0⟩
def MB_TX_DATA_WORD : Fld := ⟨.mbHost, 0x4, 0x0, 1, 0, 1, 0, 32, .wo, 0x0⟩
def MB_TX_BELL_BELLS : Fld := ⟨.mbHost, 0x8, 0x0, 1, 0, 1, 0, 32, .wo, 0x0⟩
def MB_RX_HEAD_WORD : Fld := ⟨.mbHost, 0x10, 0x0, 1, 0, 1, 0, 32, .ro, 0x0⟩
def MB_RX_PEEK_WORD : Fld := ⟨.mbHost, 0x14, 0x0, 1, 0, 1, 0, 32, .ro, 0x0⟩
def MB_RX_BELL_BELLS : Fld := ⟨.mbHost, 0x1c, 0x0, 1, 0, 1, 0, 32, .w1c, 0x0⟩
def MB_RX_MASK_MASK : Fld := ⟨.mbHost, 0x20, 0x0, 1, 0, 1, 0, 32, .rw, 0x0⟩
def MB_RX_ACK_ACK : Fld := ⟨.mbHost, 0x24, 0x0, 1, 0, 1, 0, 32, .wo, 0x0⟩
def DMA_RING_LO_ADDR_LO : Fld := ⟨.dma, 0x0, 0x0, 1, 0, 1, 5, 27, .rw, 0x0⟩
def DMA_RING_HI_ADDR_HI : Fld := ⟨.dma, 0x4, 0x0, 1, 0, 1, 0, 32, .rw, 0x0⟩
def DMA_RING_SIZE_LOG2 : Fld := ⟨.dma, 0x8, 0x0, 1, 0, 1, 0, 5, .rw, 0x4⟩
def DMA_TAIL_TAIL : Fld := ⟨.dma, 0xc, 0x0, 1, 0, 1, 0, 16, .rw, 0x0⟩
def DMA_HEAD_HEAD : Fld := ⟨.dma, 0x10, 0x0, 1, 0, 1, 0, 16, .ro, 0x0⟩
def DMA_CTRL_ENABLE : Fld := ⟨.dma, 0x14, 0x0, 1, 0, 1, 0, 1, .rw, 0x0⟩
def DMA_CTRL_RESET : Fld := ⟨.dma, 0x14, 0x0, 1, 0, 1, 1, 1, .wo, 0x0⟩
def DMA_CTRL_IRQ_ON_HALT : Fld := ⟨.dma, 0x14, 0x0, 1, 0, 1, 2, 1, .rw, 0x1⟩
def DMA_STATUS_RUNNING : Fld := ⟨.dma, 0x18, 0x0, 1, 0, 1, 0, 1, .ro, 0x0⟩
def DMA_STATUS_HALTED : Fld := ⟨.dma, 0x18, 0x0, 1, 0, 1, 1, 1, .ro, 0x0⟩
def DMA_STATUS_LAST_STATUS : Fld := ⟨.dma, 0x18, 0x0, 1, 0, 1, 8, 8, .ro, 0x0⟩
def DMA_STATUS_COMPLETED : Fld := ⟨.dma, 0x18, 0x0, 1, 0, 1, 16, 16, .rc, 0x0⟩
def GU_RANGE_ADDR_LO_VALUE : Fld := ⟨.gu, 0x18, 0x0, 1, 0, 1, 0, 32, .rw, 0x0⟩
def GU_RANGE_ADDR_HI_VALUE : Fld := ⟨.gu, 0x1c, 0x0, 1, 0, 1, 0, 32, .rw, 0x0⟩
def GU_RANGE_LEN_LO_VALUE : Fld := ⟨.gu, 0x20, 0x0, 1, 0, 1, 0, 32, .rw, 0x0⟩
def GU_RANGE_LEN_HI_VALUE : Fld := ⟨.gu, 0x24, 0x0, 1, 0, 1, 0, 32, .rw, 0x0⟩
def GU_POLY_LO_VALUE : Fld := ⟨.gu, 0x28, 0x0, 1, 0, 1, 0, 32, .rw, 0x1edc6f41⟩
def GU_POLY_HI_VALUE : Fld := ⟨.gu, 0x2c, 0x0, 1, 0, 1, 0, 32, .rw, 0x0⟩
def GU_INIT_LO_VALUE : Fld := ⟨.gu, 0x30, 0x0, 1, 0, 1, 0, 32, .rw, 0xffffffff⟩
def GU_INIT_HI_VALUE : Fld := ⟨.gu, 0x34, 0x0, 1, 0, 1, 0, 32, .rw, 0x0⟩
def GU_XOROUT_LO_VALUE : Fld := ⟨.gu, 0x38, 0x0, 1, 0, 1, 0, 32, .rw, 0xffffffff⟩
def GU_XOROUT_HI_VALUE : Fld := ⟨.gu, 0x3c, 0x0, 1, 0, 1, 0, 32, .rw, 0x0⟩
def GU_EXPECT_LO_VALUE : Fld := ⟨.gu, 0x40, 0x0, 1, 0, 1, 0, 32, .rw, 0x0⟩
def GU_EXPECT_HI_VALUE : Fld := ⟨.gu, 0x44, 0x0, 1, 0, 1, 0, 32, .rw, 0x0⟩
def GU_RESULT_LO_VALUE : Fld := ⟨.gu, 0x58, 0x0, 1, 0, 1, 0, 32, .ro, 0x0⟩
def GU_RESULT_HI_VALUE : Fld := ⟨.gu, 0x5c, 0x0, 1, 0, 1, 0, 32, .ro, 0x0⟩
def GU_FOLD_VALUE : Fld := ⟨.gu, 0x48, 0x4, 4, 0, 1, 0, 32, .rw, 0x0⟩

end Fld

/-- Fields of section array. -/
def fldsArray : List Fld :=
  [Fld.ARRAY_STATUS_STATE, Fld.ARRAY_STATUS_STALE, Fld.ARRAY_STATUS_REFRESH_DUE, Fld.ARRAY_STATUS_TEMP_OOB, Fld.ARRAY_STATUS_OVER_RANGE_SEEN, Fld.ARRAY_STATUS_WRITE_FAIL, Fld.ARRAY_STATUS_MISS_COUNT, Fld.ARRAY_STATUS_LAYER_TAG, Fld.ARRAY_CTRL_CAL_EN, Fld.ARRAY_CTRL_REFRESH_EN, Fld.ARRAY_CTRL_URGENT_BORROW, Fld.ARRAY_CTRL_REF_MODE, Fld.ARRAY_CTRL_VERIFY_WINDOW, Fld.ARRAY_COUNT_OVER_RANGE_CNT, Fld.ARRAY_COUNT_ZERO_SKIP_CNT, Fld.ARRAY_ARB_BORROWED, Fld.ARRAY_ARB_CAL_SLOTS, Fld.ARRAY_ARB_STALL_SLOTS, Fld.CAL_STATUS_PASS_COUNT, Fld.CAL_STATUS_REJECTS] ++
  [Fld.CAL_STATUS_STARVED, Fld.CAL_STATUS_RUNNING, Fld.CONV_SPARE_REPLACED, Fld.CONV_SPARE_IN_USE, Fld.CONV_SPARE_PENDING, Fld.REF_BIAS_BIAS, Fld.CREEP_COUNT_ROUTINE_ROWS, Fld.CREEP_COUNT_URGENT_ROWS, Fld.CREEP_COUNT_GROSS_CELLS, Fld.RETENTION_DRIFT, Fld.RETENTION_AGE, Fld.SPARE_COL_COLUMN, Fld.SPARE_COL_IN_USE, Fld.SPARE_COL_PENDING, Fld.COL_TRIM_GAIN_NOW, Fld.COL_TRIM_OFFSET_NOW, Fld.COL_TRIM_GAIN_TARGET, Fld.COL_TRIM_OFFSET_TARGET, Fld.CONV_TRIM_GAIN_NOW, Fld.CONV_TRIM_OFFSET_NOW] ++
  [Fld.CONV_TRIM_GAIN_TARGET, Fld.CONV_TRIM_OFFSET_TARGET]

/-- Fields of section engine. -/
def fldsEngine : List Fld :=
  [Fld.ENGINE_STATUS_BUSY, Fld.ENGINE_STATUS_HALTED, Fld.ENGINE_STATUS_RESIDUE_PRODUCT, Fld.ENGINE_STATUS_RESIDUE_ACCUM, Fld.ENGINE_STATUS_TILE_CONFLICT, Fld.ENGINE_STATUS_ANCHOR_LOW, Fld.ENGINE_STATUS_BAD_FORMAT, Fld.ENGINE_STATUS_OPERAND_ALIGN, Fld.ENGINE_STATUS_FIXUP_LEVEL, Fld.ENGINE_COUNT_BAND_PASSES, Fld.ENGINE_COUNT_PLANE_WAIT, Fld.GLACIER_STATUS_STATE, Fld.GLACIER_STATUS_HEADROOM_OVF, Fld.GLACIER_STATUS_WINDOW_LOSS, Fld.GLACIER_STATUS_CONFLICT_REASON, Fld.GLACIER_STATUS_PAIR_CLASS, Fld.GLACIER_STATUS_ANCHOR, Fld.GLACIER_COUNT_LOSS_TERMS, Fld.GLACIER_COUNT_OVF_ELEMS, Fld.ANCHOR_VALUE]

/-- Fields of section vector. -/
def fldsVector : List Fld :=
  [Fld.VSTAT_NV, Fld.VSTAT_OF, Fld.VSTAT_UF, Fld.VSTAT_NX, Fld.VSTAT_DZ, Fld.VSTAT_RG, Fld.VSTAT_EMPTY, Fld.VSTAT_RESIDUE_VECTOR, Fld.VSTAT_BAD_CHAIN, Fld.VSTAT_FIRST_NV_ENTRY, Fld.VCOUNT_CHAINS, Fld.VCOUNT_VWAIT, Fld.VCHECK_CAUSE, Fld.VMW_MW_LOSS, Fld.VMW_MW_OVF]

/-- Fields of section seq. -/
def fldsSeq : List Fld :=
  [Fld.SEQ_STATUS_STATE, Fld.SEQ_STATUS_TOKEN_TIMEOUT, Fld.SEQ_STATUS_TOKEN_OVF, Fld.SEQ_STATUS_TOKEN_RESIDUE, Fld.SEQ_STATUS_BAD_ENTRY, Fld.SEQ_STATUS_CELLAR_FULL, Fld.SEQ_STATUS_BAD_STASH, Fld.SEQ_STATUS_BAD_POSITION, Fld.SEQ_STATUS_MSG_LENGTH, Fld.SEQ_STATUS_WAIT_ON, Fld.SEQ_STATUS_WAITING, Fld.SEQ_ENTRY_NEXT, Fld.SEQ_FAULT_ENTRY_ENTRY, Fld.SEQ_COUNT_ISSUE_STALL, Fld.SEQ_COUNT_TOKEN_WAIT, Fld.CELLAR_USE_PRIMARY_MIB, Fld.CELLAR_USE_CHUNKS, Fld.TOKEN_COUNT]

/-- Fields of section update. -/
def fldsUpdate : List Fld :=
  [Fld.UPD_STATUS_STATE, Fld.UPD_STATUS_UPDATE_INVALID, Fld.UPD_STATUS_RESIDUE_UPDATE, Fld.UPD_STATUS_STEP_SKEW, Fld.UPD_STATUS_SCALE_NAS, Fld.UPD_COUNT_BLOCKS, Fld.UPD_COUNT_UPD_WAIT, Fld.COMMIT_STATUS_PHASE, Fld.COMMIT_STATUS_LAST_REFUSED, Fld.COMMIT_STATUS_CONTROL_SKEW, Fld.COMMIT_STATUS_LEDGER_INCOMPLETE, Fld.COMMIT_STATUS_LEDGER_DUPLICATE, Fld.COMMIT_STATUS_VOTE_LOST, Fld.COMMIT_STATUS_CLIP_INF, Fld.COMMIT_STATUS_HOLD_SMALL, Fld.COMMIT_STATUS_LEDGER_PROTECT, Fld.COMMIT_STATUS_ATTEMPT]

/-- Fields of section exch. -/
def fldsExch : List Fld :=
  [Fld.EXCH_STATUS_PHASE, Fld.EXCH_STATUS_COLD, Fld.EXCH_STATUS_REDUCE_MISMATCH, Fld.EXCH_STATUS_EXCHANGE_RANGE, Fld.EXCH_STATUS_REDUCE_COVERAGE, Fld.EXCH_STATUS_BUCKET_SHAPE, Fld.EXCH_STATUS_EXCHANGE_TIMEOUT, Fld.EXCH_STATUS_REDUCE_LAYOUT, Fld.EXCH_STATUS_READY_CORES, Fld.EXCH_COUNT_RECROSS_BLOCKS, Fld.EXCH_COUNT_SHADOW_BLOCKS, Fld.EXCH_LOSS_ZEROED_ELEMS, Fld.EXCH_LOSS_TAGGED_ELEMS, Fld.EXCH_PROGRESS_BUCKETS_FINAL]

/-- Fields of section fabric. -/
def fldsFabric : List Fld :=
  [Fld.FABRIC_STATUS_ADDRESS_VALID, Fld.FABRIC_STATUS_FRAME_LOSS, Fld.FABRIC_STATUS_NO_ROUTE, Fld.FABRIC_STATUS_RING_LAYOUT, Fld.FABRIC_STATUS_TRAVEL_POOL_FULL, Fld.FABRIC_STATUS_TRAVEL_LAYOUT, Fld.FABRIC_STATUS_VOTE_TREE, Fld.FABRIC_STATUS_CONTEXT_FULL, Fld.FABRIC_STATUS_RX_POOL_SMALL, Fld.FABRIC_STATUS_ADDRESS, Fld.FABRIC_COUNT0_HOP_EXPIRED, Fld.FABRIC_COUNT0_NO_ROUTE_FRAMES, Fld.FABRIC_COUNT1_STALE_MSGS, Fld.FABRIC_COUNT1_BAD_FRAMES, Fld.TRAVEL_COUNT_DROPPED, Fld.TRAVEL_COUNT_REJECTS, Fld.PORT_STATUS_STATE, Fld.PORT_STATUS_BONDED, Fld.PORT_STATUS_BOND_MISMATCH, Fld.PORT_STATUS_NEIGHBOUR_VALID] ++
  [Fld.PORT_STATUS_STANDS_FOR, Fld.PORT_STATUS_NEIGHBOUR_PORT, Fld.PORT_STATUS_NEIGHBOUR_ADDR, Fld.PORT_ERR_CORRECTED, Fld.PORT_ERR_UNCORRECTED, Fld.PORT_ERR_RETRAINS, Fld.FMB_CFG_REMOTE_ADDR, Fld.FMB_CFG_REMOTE_BOX, Fld.FMB_CFG_ENABLE, Fld.FMB_TX_DATA_WORD, Fld.FMB_TX_BELL_BELLS, Fld.FMB_TX_STATUS_TX_LEVEL, Fld.FMB_TX_STATUS_BUSY, Fld.FMB_TX_STATUS_TAKEN, Fld.FMB_TX_STATUS_TX_OVERRUN, Fld.FMB_TX_STATUS_TX_ABORT, Fld.FMB_RX_DATA_WORD, Fld.FMB_RX_STATUS_RX_LEVEL, Fld.FMB_RX_STATUS_RX_UNDERRUN, Fld.FMB_RX_BELL_BELLS] ++
  [Fld.FMB_RX_MASK_MASK]

/-- Fields of section watch. -/
def fldsWatch : List Fld :=
  [Fld.WATCH_STATUS_WATCH_MISMATCH, Fld.WATCH_STATUS_BUSY, Fld.WATCH_STATUS_LEVEL, Fld.WATCH_STATUS_ARRAY, Fld.WATCH_STATUS_WORST, Fld.WATCH_COUNT_SAMPLES, Fld.WATCH_COUNT_STALL]

/-- Fields of section recovery. -/
def fldsRecovery : List Fld :=
  [Fld.RECOVERY_STATUS_STATE, Fld.RECOVERY_STATUS_EARLY_STOP, Fld.RECOVERY_STATUS_RETIRE_PENDING, Fld.RECOVERY_STATUS_REFUSALS, Fld.RECOVERY_COUNT_REPLAYS, Fld.RECOVERY_COUNT_HOLDS, Fld.FIRST_FAULT_CODE, Fld.FIRST_FAULT_CORE]

/-- Fields of section gu. -/
def fldsGu : List Fld :=
  [Fld.GU_CTRL_START, Fld.GU_CTRL_STOP, Fld.GU_CTRL_WIDTH_M1, Fld.GU_CTRL_REFIN, Fld.GU_CTRL_REFOUT, Fld.GU_CTRL_FOLD_MODE, Fld.GU_CTRL_FOLD_SRC, Fld.GU_CTRL_FOLD_BYTES, Fld.GU_CTRL_COMPARE, Fld.GU_CTRL_OWNED, Fld.GU_SNOOP_SOURCE, Fld.GU_SNOOP_CORE, Fld.GU_SNOOP_CHANNEL, Fld.GU_PEER_PEER, Fld.GU_STATUS_BUSY, Fld.GU_STATUS_DONE, Fld.GU_STATUS_OVERRUN, Fld.GU_STATUS_MISMATCH, Fld.GU_STATUS_ABORTED, Fld.GU_STATUS_CONFIG_BAD] ++
  [Fld.GU_STATUS_WRITE_IGNORED, Fld.GU_STATUS_SKIPPED, Fld.GU_COUNT_RESULTS, Fld.GU_COUNT_MISMATCHES, Fld.GU_RANGE_ADDR_LO_VALUE, Fld.GU_RANGE_ADDR_HI_VALUE, Fld.GU_RANGE_LEN_LO_VALUE, Fld.GU_RANGE_LEN_HI_VALUE, Fld.GU_POLY_LO_VALUE, Fld.GU_POLY_HI_VALUE, Fld.GU_INIT_LO_VALUE, Fld.GU_INIT_HI_VALUE, Fld.GU_XOROUT_LO_VALUE, Fld.GU_XOROUT_HI_VALUE, Fld.GU_EXPECT_LO_VALUE, Fld.GU_EXPECT_HI_VALUE, Fld.GU_RESULT_LO_VALUE, Fld.GU_RESULT_HI_VALUE, Fld.GU_FOLD_VALUE]

/-- Fields of section host. -/
def fldsHost : List Fld :=
  [Fld.HOST_STATUS_READY, Fld.HOST_STATUS_STEP_STATE, Fld.HOST_STATUS_LATCHED, Fld.HOST_STATUS_IN_PROGRESS, Fld.HOST_STATUS_LINK_WIDTH, Fld.HOST_STATUS_LINK_GEN, Fld.HOST_STATUS_FLIT, Fld.HOST_STATUS_IDE_ACTIVE, Fld.STEP_DOORBELL_TARGET, Fld.STEP_DOORBELL_SLOT, Fld.DOORBELL_STATUS_LAST_TARGET, Fld.DOORBELL_STATUS_REFUSE_REASON, Fld.RESULT_LATEST_PAGE, Fld.RESULT_LATEST_STEP_LOW, Fld.APERTURE_BASE_BASE_GIB, Fld.HOST_COUNT_DB_DUPLICATES, Fld.HOST_COUNT_UNMAPPED_ACCESS, Fld.HOST_EVENT_RESULT, Fld.HOST_EVENT_HOLD, Fld.HOST_EVENT_VOTE_LOST] ++
  [Fld.HOST_EVENT_DB_REFUSED, Fld.HOST_EVENT_READY, Fld.HOST_EVENT_SELFTEST_FAIL, Fld.HOST_EVENT_LINK_DEGRADED, Fld.HOST_EVENT_MASK_MASK]

/-- Fields of section mbHost. -/
def fldsMbHost : List Fld :=
  [Fld.MB_CFG_ENABLE, Fld.MB_CFG_MODE, Fld.MB_CFG_TAKEN_IE, Fld.MB_TX_STATUS_TX_LEVEL, Fld.MB_TX_STATUS_BUSY, Fld.MB_TX_STATUS_TAKEN, Fld.MB_TX_STATUS_TX_OVERRUN, Fld.MB_TX_STATUS_TX_ABORT, Fld.MB_TX_STATUS_TX_FORMAT, Fld.MB_TX_STATUS_PEER_RESET, Fld.MB_RX_STATUS_RX_LEVEL, Fld.MB_RX_STATUS_RX_UNDERRUN, Fld.MB_TX_DATA_WORD, Fld.MB_TX_BELL_BELLS, Fld.MB_RX_HEAD_WORD, Fld.MB_RX_PEEK_WORD, Fld.MB_RX_BELL_BELLS, Fld.MB_RX_MASK_MASK, Fld.MB_RX_ACK_ACK]

/-- Fields of section win. -/
def fldsWin : List Fld :=
  [Fld.WIN_CTRL_GO, Fld.WIN_STATUS_BUSY, Fld.WIN_STATUS_DONE, Fld.WIN_STATUS_AVAILABLE, Fld.WIN_STATUS_OVERRUN, Fld.WIN_STATUS_HELD, Fld.WIN_COUNT_REQUESTS, Fld.WIN_COUNT_RESTARTS]

/-- Fields of section hk. -/
def fldsHk : List Fld :=
  [Fld.HK_CTRL_ENABLE, Fld.HK_CTRL_PACK, Fld.HK_CTRL_SURVEY_REPEAT, Fld.HK_CTRL_MAINS60, Fld.HK_CTRL_TRIG_EN, Fld.HK_CTRL_BURST_SW, Fld.HK_CTRL_SELFCAL_REQ, Fld.HK_STATUS_STATE, Fld.HK_STATUS_STALE_ANY, Fld.HK_STATUS_HK_CAL_REJECT, Fld.HK_STATUS_SURVEY_DONE, Fld.HK_STATUS_BURST_DONE, Fld.HK_STATUS_TRIG_CAUSE, Fld.HK_COUNT_BURST_DROPPED, Fld.HK_COUNT_CYCLES, Fld.HK_LIST_CFG_SURVEY_LEN, Fld.HK_LIST_CFG_BURST_LEN, Fld.HK_SURVEY_INPUT, Fld.HK_SURVEY_PERIOD, Fld.HK_BURST_INPUT] ++
  [Fld.HK_BURST_PERIOD, Fld.HK_SPARE_STANDS_FOR, Fld.HK_SPARE_IN_USE, Fld.HK_RESULT_CODE, Fld.HK_RINFO_OVER_RANGE, Fld.HK_RINFO_STALE, Fld.HK_RINFO_FAILED, Fld.HK_RINFO_NEW, Fld.HK_RINFO_BURST, Fld.HK_RINFO_DIFF, Fld.HK_RINFO_COUNT]

/-- Fields of section clock. -/
def fldsClock : List Fld :=
  [Fld.CLK_STATUS_CCLK_LOCK, Fld.CLK_STATUS_ATCLK_LOCK, Fld.CLK_STATUS_PHY_LOCK, Fld.CLK_STATUS_PCLK_LOCK, Fld.CLK_STATUS_MCLK_LOCK, Fld.CLK_STATUS_HOST_REF, Fld.CLK_STATUS_FABRIC_REF, Fld.CLK_STATUS_CLOCK_FAIL, Fld.CLK_COUNT_RELOCKS, Fld.XING_OVERRUN_X10, Fld.XING_OVERRUN_X11, Fld.XING_OVERRUN_X12, Fld.XING_OVERRUN_X13, Fld.XING_OVERRUN_OVERRUN_COUNT, Fld.RESET_CAUSE_LAST, Fld.RESET_CAUSE_MODULE_RESETS]

/-- Fields of section power. -/
def fldsPower : List Fld :=
  [Fld.PWR_STATUS_STATE, Fld.PWR_STATUS_ALERT, Fld.PWR_STATUS_LEVEL_CD0, Fld.PWR_STATUS_LEVEL_CD1, Fld.PWR_STATUS_LEVEL_CD2, Fld.PWR_STATUS_LEVEL_CD3, Fld.PWR_STATUS_CAUSE, Fld.PWR_COUNT_POWER_STEPS, Fld.PWR_COUNT_THERMAL_STEPS]

/-- Fields of section dma. -/
def fldsDma : List Fld :=
  [Fld.DMA_RING_LO_ADDR_LO, Fld.DMA_RING_HI_ADDR_HI, Fld.DMA_RING_SIZE_LOG2, Fld.DMA_TAIL_TAIL, Fld.DMA_HEAD_HEAD, Fld.DMA_CTRL_ENABLE, Fld.DMA_CTRL_RESET, Fld.DMA_CTRL_IRQ_ON_HALT, Fld.DMA_STATUS_RUNNING, Fld.DMA_STATUS_HALTED, Fld.DMA_STATUS_LAST_STATUS, Fld.DMA_STATUS_COMPLETED]

/-- The fields of a section. The firmware side of a host mailbox has the registers of R415 (R408). -/
def secFlds : Sec → List Fld
  | .array => fldsArray
  | .engine => fldsEngine
  | .vector => fldsVector
  | .seq => fldsSeq
  | .watch => fldsWatch
  | .update => fldsUpdate
  | .exch => fldsExch
  | .fabric => fldsFabric
  | .recovery => fldsRecovery
  | .clock => fldsClock
  | .power => fldsPower
  | .gu => fldsGu
  | .hk => fldsHk
  | .host => fldsHost
  | .mbHost => fldsMbHost
  | .dma => fldsDma
  | .win => fldsWin
  | .mbFw => fldsMbHost

/-- The instance (i, j) that an offset names, if the field's register stands there. -/
def Fld.at? (f : Fld) (off : Nat) : Bool :=
  f.off ≤ off &&
  (let d := off - f.off
   let i := if f.stride = 0 then 0 else d / f.stride
   let r := if f.stride = 0 then d else d % f.stride
   let j := if f.stride2 = 0 then 0 else r / f.stride2
   let q := if f.stride2 = 0 then r else r % f.stride2
   q = 0 && i < f.count && j < f.count2)

/-- The fields of the register at an offset of a section. -/
def fldsAt (sec : Sec) (off : Nat) : List Fld := (secFlds sec).filter (·.at? off)

/-- The value of a register after a power-up reset by its field map (R10). -/
def resetWord (sec : Sec) (off : Nat) : Nat := (fldsAt sec off).foldl (fun w f => setBits w f.lo f.w f.reset) 0

/-- Number of a section, for the key of the register bank. -/
def secNo : Sec → Nat
  | .array => 0 | .engine => 1 | .vector => 2 | .seq => 3 | .watch => 4 | .update => 5 | .exch => 6 | .fabric => 7
  | .recovery => 8 | .clock => 9 | .power => 10 | .gu => 11 | .hk => 12 | .host => 13 | .mbHost => 14 | .mbFw => 15
  | .dma => 16 | .win => 17

/-- Key of a register in the bank: section, instance (core, unit, converter, mailbox or channel), offset. -/
def regKey (sec : Sec) (inst off : Nat) : Nat := (secNo sec * 4096 + inst % 4096) * 65536 + off % 65536

end Sys2Proof.Machine
end

