-- ==== Sys2Proof/Machine/State.lean ====
section
/-! DEFINITION. The state of one T1 module as plain data, and the state after reset. Field defaults are the values after
a power-up reset (R10); a sparse map lists only what differs from the default that its reader names. -/

namespace Sys2Proof.Machine

/-- Why a command could stop the model. No meaning of this model raises one: every fault of the T1 is an effect on its
state (R351). `protocol` is kept for a host that drives the model outside the manual; safe. -/
inductive Fault where
  /-- Raised by no meaning; safe. -/
  | protocol
  deriving DecidableEq, Repr

/-- Why a command could have no meaning. -/
inductive Refusal where
  /-- The dispatcher's answer for a command whose meaning is not written yet; safe. -/
  | notModelled (mnemonic : String)
  deriving DecidableEq, Repr

/-- The fault and status codes of R352, with SCALE_NAS to LINK_DEGRADED in the order of the table. -/
inductive Code where
  | residueProduct | residueAccum | residueVector | residueUpdate | watchMismatch | reduceMismatch | xferCheck
  | memUncorrectable | scaleNas | ledgerDuplicate | ledgerIncomplete
  | frameLoss | noRoute | tokenTimeout | exchangeTimeout | tokenResidue
  | invalidSticky | updateInvalid | exchangeRange
  | tileConflict | anchorLow | badFormat | operandAlign | arraySrcAlign | bankTagMismatch | memUnmapped | badChain
  | badEntry | tokenOvf | badStash | badPosition | msgLength | cellarFull | ledgerProtect | reduceCoverage
  | stepSkew | controlSkew | bucketShape | travelPoolFull | travelLayout | voteTree | memLost
  | voteLost | selftestFail
  | arrayWriteFail | spareExhausted | headroomOvf | dormantLayer | laneFailed | retirePending | ageingNoSpare
  | calReject | hkCalReject | overRange | outlierFull | windowLoss | clipInf | clockFail | bondMismatch | tempOob
  | contextFull | empty | reduceLayout | ringLayout | holdSmall | rxPoolSmall | badCompletion | linkDegraded
  deriving DecidableEq, Repr

/-! ### Core: product engine and glacier tiles (R127 to R163) -/

/-- One glacier element (R140): 128 bits, 3-bit residue (R159), 25-bit budget and overflow tag (R145). -/
structure Elem where
  val : BitVec 128 := 0
  residue : Nat := 0
  budget : Nat := 0
  tag : Bool := false
  deriving DecidableEq, Repr

/-- One glacier tile: elements by index 64i + n, terms that lost bits (R156); for narrow-against-wide sampling the exact
wide sums of its elements and whether it has a cell-image operand (R62, R63). State, anchor and pair class stand in
GLACIER_STATUS (R161). -/
structure Tile where
  elems : SMap Elem := []
  loss : Nat := 0
  wide : SMap Dy := []
  cell : Bool := false
  deriving DecidableEq, Repr

/-- Plane Y as the last MATMUL pass left it (R134, R213): format code, orientation, and per column of B the code and the
block scale of each reduction element, and the master weight of each that comes from a cell image (R63). A cell that no
pass has loaded holds code 0 under scale 127 (DESIGN CHOICE, assumption 20). -/
structure PlaneY where
  fmt : Nat := 0
  crossed : Bool := false
  cols : List (List (Nat × Nat)) := []
  masters : List (List (Option Dy)) := []
  deriving DecidableEq, Repr

/-! ### Core: sequencer (R197 to R240) -/

/-- An entry in a unit's queue (R198): its number, the anchor and the chain captured at issue (R165, R216), whether it
has started, and whether its message has arrived (RECV) or the hub die has taken it (ROUTE, RETURN). -/
structure QItem where
  no : Nat
  entry : Entry
  c : Cmn
  anchor : Int := 0
  chain : Option Chain := none
  started : Bool := false
  sent : Bool := false
  deriving DecidableEq, Repr

/-- What holds the sequencer's issue (R198): a WAIT_TOKEN, a FENCE or a SIGNAL waiting for its units, a COMMIT_POINT
waiting for every unit. -/
inductive SHold where
  | wait (f : WaitF) (c : Cmn)
  | fence (units : Nat) (c : Cmn)
  | signal (f : SignalF) (c : Cmn)
  | point (c : Cmn)
  deriving DecidableEq, Repr

/-- A message of R219 at its receiver, or a remote signal in message order (R203). -/
structure Msg where
  loc : Bool := true
  srcMod : Nat
  srcCore : Nat
  channel : Nat := 0
  data : List Byte := []
  dtoken : Nat := 0
  dsig : Bool := false
  isSignal : Bool := false
  count : Nat := 1
  step : Nat := 0
  attempt : Nat := 0
  deriving DecidableEq, Repr

/-- A message that leaves for another module, by its class (R317): MESSAGE to a core, BUCKET, VOTE with its kind
(R332), CARAVAN of either kind, MAILBOX of a mailbox (its number, the remote one, the message's number, bells and words,
or a TAKEN of that number),
DICTIONARY, CONNECT (kind of R325, context, credits by class), DISCOVERY or DICTIONARY along a route. -/
inductive OutMsg where
  | data (core : Nat) (m : Msg)
  | bucket (m : BucketMsg)
  | vote (kind : Nat) (v : VoteMsg)
  | caravanOut (c : CaravanOut)
  | caravanRet (c : CaravanRet)
  | mail (box remote num : Nat) (bells : Word) (words : List Word)
  | taken (box remote num : Nat)
  | dict (body : List Byte)
  | connect (kind ctx : Nat) (credits : List (Nat × Nat))
  | srouted (cls : Nat) (route : List Nat) (body : List Byte)
  deriving DecidableEq, Repr

/-- A stash of R228: where it lies, its shape, and its presence map (all true without SKIPZERO). -/
structure StashRec where
  addr : Nat
  linew : Nat
  lines : Nat
  hasMap : Bool
  map : List Bool
  deriving DecidableEq, Repr

/-- An entry of an outlier list (R56), with what a correction needs of the element it stands for (R59). -/
structure OutEntry where
  index : Nat
  value : Nat
  tensor : Nat
  fmt : Nat
  scale : Nat
  code : Nat
  deriving DecidableEq, Repr

/-- A core's accumulators for a slot (R50): peak, saturation and zero counts; and the layer statistics counts. -/
structure SlotAcc where
  fmt : Nat := 0
  peak : Option Int := none
  sat : Nat := 0
  zero : Nat := 0
  deriving DecidableEq, Repr

/-! ### Core: charge arrays (R67 to R126) -/

/-- A bank write in progress (R85, R88, R92): image, tag, mode, next row, entry number. -/
structure WriteJob where
  img : Nat
  oldImg : Nat := 0
  delta : Bool := false
  tag : Nat
  row : Nat := 0
  entryNo : Nat := 0
  trimmed : Nat := 0
  restore : Bool := false
  deriving DecidableEq, Repr

/-- A weight column's record of failed passes and marks (R121). -/
structure ColMark where
  fails : Nat := 0
  bad : Bool := false
  accepted : Bool := false
  deriving DecidableEq, Repr

/-- One array: a bank of one position. Levels by 264 × row + column, unlisted cells at the calibration pattern of R113;
the scale store (R71); the image of its last write and the address recorded at its end (R88); miss log of segments
256q + j (R86); queues of the creep scan and its pass (R114 to R118): the trim boundary at which it started, its next
row, and the gross cells found, as 264q + physical column (R121). -/
structure Arr where
  levels : SMap Nat := []
  scales : Mem := []
  img : Nat := 0
  recorded : Option Nat := none
  lastTag : Nat := 0
  missLog : List Nat := []
  waiting : List WriteJob := []
  job : Option WriteJob := none
  fails16 : List Bool := []
  urgent : List Nat := []
  routine : List Nat := []
  pulses : SMap Nat := []
  scanning : Bool := false
  scanStart : Nat := 0
  scanRow : Nat := 0
  gross : List Nat := []
  cols : SMap ColMark := []
  rate : Nat := 0
  slotNo : Nat := 0
  rowsWritten : Nat := 0
  rowsTrimmed : Nat := 0
  deriving DecidableEq, Repr

/-- A pending slot of an ARRAY_MVM at a position (R211): the entry and the slot's number in it. -/
structure SlotReq where
  entryNo : Nat
  f : MvmF
  r : Nat
  anchor : Int
  deriving DecidableEq, Repr

/-- One segment's outcome in a hold set: row group, column, code, and whether a fix-up replaces it. -/
structure SegCode where
  q : Nat
  col : Nat
  code : Nat
  fix : Bool
  miss : Bool := false
  deriving DecidableEq, Repr

/-- A hold set (R75): the slot it integrated, its inputs, and after conversion its codes. A calibration slot holds no
request. The image, scale store and logged segments are those in force at the grant (R81, R86, R117). -/
structure Hold where
  req : Option SlotReq
  inputs : List Nat := []
  scales : List Nat := []
  img : Nat := 0
  wsc : Mem := []
  logged : List Nat := []
  codes : Option (List SegCode) := none
  calArray : Option Nat := none
  sampled : Bool := false
  array : Nat := 0
  deriving DecidableEq, Repr

/-- A calibration pass of a position (R109): the readings of each converted slot, oldest first, of the converters and of
the columns of the bank A and bank B arrays. -/
structure CalPass where
  convs : List (List CalRead) := []
  colsA : List (List CalRead) := []
  colsB : List (List CalRead) := []
  deriving DecidableEq, Repr

/-- One array position: requests, hold sets, slots since the last borrowed one, the calibration pass that runs and whether
a write of 0 to CAL_EN stops it at the next slot boundary (R110), whether a pass has completed since power-up (R97). -/
structure Pos where
  reqs : List SlotReq := []
  holds : List Hold := []
  sinceBorrow : Nat := 15
  cal : Option CalPass := none
  calStop : Bool := false
  passed : Bool := false
  convs : SMap ColMark := []
  biasDue : Bool := false
  deriving DecidableEq, Repr

/-- A fix-up (R81, R82): the array, segment, input block and the element it adds into. -/
structure Fixup where
  array : Nat
  q : Nat
  col : Nat
  inputs : List Nat
  fmt : Nat
  sx : Nat
  sw : Nat
  img : Nat
  tag : Nat
  tile : Nat
  elem : Nat
  entryNo : Nat
  anchor : Int
  miss : Bool
  deriving DecidableEq, Repr

/-- A sampled slot kept by the watch unit: its codes and flags, the input block with its 8 scales, the gain (R355). -/
structure WatchSample where
  array : Nat
  inputs : List Nat
  scales : List Nat
  fmt : Nat
  gain : Nat
  img : Nat
  codes : List SegCode
  deriving DecidableEq, Repr

/-! ### Core: vector engine (R164 to R195) -/

/-- A finished reduction result or output lane. -/
structure VOut where
  val : Word
  flags : VFlags
  empty : Bool := false
  deriving DecidableEq, Repr

/-- The vector pipeline between stages (R164): input lanes, mask stream, PREV, PREV2, latches, SCALAR, present length,
lane flags, the segment in progress of a reduction, its results, and how the last stage left its lanes. -/
structure VPipe where
  s0 : List Word := []
  s1 : List Word := []
  s2 : List Word := []
  mstr : List Bool := []
  prev : List Word := []
  prev2 : List Word := []
  m0 : List Bool := List.replicate 64 true
  m1 : List Bool := List.replicate 64 true
  scalar : Word := 0
  len : Nat := 0
  flags : List VFlags := []
  segLen : Nat := 1
  seg : List (Option Word) := []
  out : List VOut := []
  enabled : List Bool := []
  forced : List Bool := []
  maskOut : List Bool := []
  deriving DecidableEq, Repr

/-! ### Core -/

/-- What a core's header and outlier list table gave at the plan load (R222, R223). -/
structure CoreHdr where
  addr : Nat
  entryCount : Nat
  epilogue : Nat
  restore : Nat
  cellarBase : Nat
  cellarKib : Nat
  innToken : Nat
  returnToken : Nat
  innBase : Nat
  innHalf : Nat
  returnHalf : Nat
  returnBase : Nat
  olists : List (Nat × Nat × Nat × Nat × Nat) := []   -- layer, tensor, capacity, reduction length, storage address
  deriving DecidableEq, Repr

/-- A logical core. Status, tokens, anchors, tile states and counters stand in its registers. `origin`: by larder
address ÷ 16, the module address that a LOAD brought the 16 bytes from (R63). `watchFound`: a watch mismatch was found in
the attempt (R356). -/
structure Core where
  hdr : Option CoreHdr := none
  larder : Mem := []
  origin : SMap Nat := []
  ga0 : Tile := {}
  ga1 : Tile := {}
  planeY : PlaneY := {}
  qMover : List QItem := []
  qArray : List QItem := []
  qWrite : List QItem := []
  qEngine : List QItem := []
  qVector : List QItem := []
  qNet : List QItem := []
  hold : Option SHold := none
  holding : List Msg := []
  backlog : List Msg := []
  stash : SMap StashRec := []
  cellarUsed : Nat := 0
  chunks : List Nat := []
  chunkUsed : Nat := 0
  skipped : Nat := 0
  olists : SMap (List OutEntry) := []
  slots : SMap SlotAcc := []
  arrays : SMap Arr := []
  poss : SMap Pos := []
  fixups : List Fixup := []
  watch : List WatchSample := []
  watchFound : Bool := false
  vpipe : VPipe := {}
  nwTile : Nat := 0
  faulted : Bool := false
  staleMsgs : Nat := 0
  deriving DecidableEq, Repr

/-! ### Plan, ledger, step (R221 to R278) -/

/-- The loaded plan (R221): what the directory gave; cold marks held until the first commit after the load (R225). -/
structure Plan where
  loaded : Bool := false
  id : Nat := 0
  dir : Nat := 0
  routingCores : Nat := 0
  ovBase : Nat := 0
  ovSize : Nat := 0
  nwReserve : Nat := 0
  cold : List Nat := []
  restoreDue : Bool := false
  latched : Bool := false
  loading : Bool := false
  refMode : Bool := false
  nwRate : Nat := 0
  ratios : List (Nat × Nat) := []     -- layer, RatioN of its outlier lists
  deriving DecidableEq, Repr

/-- A tensor table entry (R245). -/
structure Tensor where
  id : Nat
  group : Nat
  kind : Nat
  elements : Nat
  master : Nat
  m1 : Nat
  m2 : Nat
  cell : Nat
  mscale : Nat
  replicas : Nat
  rank : Nat
  deriving DecidableEq, Repr

/-- The loaded ledger (R243, R244): page bases in force, committed page, offsets and tensor table; a load that has been
checked and not ended, as mode, page and the two bases it read. -/
structure Ledger where
  loaded : Bool := false
  page : Nat := 0
  base0 : Nat := 0
  base1 : Nat := 0
  span : Nat := 0
  tableOff : Nat := 0
  histOff : Nat := 0
  exHistOff : Nat := 0
  wmapOff : Nat := 0
  tensors : List Tensor := []
  firstDoorbell : Bool := false
  loading : Option (Nat × Nat × Nat × Nat) := none
  deriving DecidableEq, Repr

/-- The per-step controls latched at a doorbell (R259). -/
structure Controls where
  stepSize : Nat := 0
  clipThreshold : Nat := 0x3F800000
  groups : List (List Byte) := []
  programs : List (List Byte) := []
  updateMode : Nat := 0
  clipMode : Nat := 0
  deriving DecidableEq, Repr

/-- The entries of R417 as a doorbell latches them. -/
structure HostCtl where
  base0 : Nat := 0
  base1 : Nat := 0
  size : Nat := 0
  stage : Nat := 0
  mirror : Nat := 0
  deriving DecidableEq, Repr

/-- The step and its attempt (R250, R25): counters, the current attempt of R319, CURRENT and the latched doorbell (R398),
batch slots in protection (R397), latched controls and marks, the cores' reports, whether EXCHANGE_TIMEOUT was raised
(R303, R304), votes received (kind, child, message; R332) and the module's own, and what a refusal or phase 7 still
waits for. -/
structure Job where
  stepCounter : Nat := 0
  attempt : Nat := 0
  curStep : Nat := 0
  curAttempt : Nat := 0
  current : Option Nat := none
  doorbell : Option Word := none
  slot : Nat := 0
  protNow : Option (Nat × Nat) := none
  protNext : Option (Nat × Nat) := none
  host : HostCtl := {}
  controls : Controls := {}
  ageReset : Bool := false
  ageLatched : Bool := false
  coldAllPending : Bool := false
  coldAll : Bool := false
  coldMarks : List Nat := []
  watchRate : Nat := 6
  reported : List Nat := []
  stopped : Bool := false
  exchTimedOut : Bool := false
  voteOwn : Option VoteMsg := none
  voteSent : Bool := false
  ups : List (Nat × Nat × VoteMsg) := []
  normLost : Bool := false
  clipFactor : Nat := 0x3F800000
  gradNorm : Nat := 0
  clipKnown : Bool := false
  digest : Nat := 0
  holdAfterVote : Bool := false
  toHold : Bool := false
  afterCommit : Bool := false
  epilogue : List Nat := []       -- cores whose epilogue or restore section has not ended (R227)
  batchBase : Nat := 0
  replayDue : Bool := false
  deriving DecidableEq, Repr

/-- A final block on its way to an update engine (R251, R298): the tensor's place in the table, the block, the exchange
block, its reduced integers, exchange scale and peak byte, and whether its bucket was marked SKEW_SEEN (R297). -/
structure UBlock where
  tensor : Nat
  block : Nat
  xblock : Nat
  ints : List Int
  scale : Nat
  peak : Nat
  skew : Bool := false
  deriving DecidableEq, Repr

/-- An update engine (R253): block registers, constants, the block it was last handed, the moments its program has
stored, blocks since the last unit of BLOCKS. STATE stands in UPD_STATUS. -/
structure Eng where
  v : List (List Word) := []
  k : List Word := []
  blk : Option UBlock := none
  stored : List Nat := []
  blocks : Nat := 0
  deriving DecidableEq, Repr

/-- Per-group statistics of the attempt (R277). -/
structure GroupStat where
  maxExp : Option Int := none
  zeroMoments : Nat := 0
  negMoments : Nat := 0
  deriving DecidableEq, Repr

/-- Update engines, final blocks in arrival order (R251), the hold area's blocks and progress (R252, R266), the sum of
squares in units of 2^-600 (R265), the write map's state (R270, R271), completion signals (R269), and the dormant watch
(R60). -/
structure Upd where
  engines : SMap Eng := []
  final : List UBlock := []
  held : Nat := 0
  heldNext : Nat := 0
  heldSkew : List Nat := []
  normSum : Nat := 0
  normSent : Bool := false
  stats : SMap GroupStat := []
  lastStats : List Byte := []
  mapClear : Bool := false
  written : Nat := 0
  signalled : List Nat := []
  completions : List (Nat × Nat × Nat × Nat × Nat) := []   -- tensor id, core, token, first block, count
  nonZeroLayers : List Nat := []
  seenLayers : List Nat := []
  dormant : SMap Nat := []
  dormantBits : List Nat := []
  deriving DecidableEq, Repr

/-! ### Gradient exchange (R279 to R308) -/

/-- A group record (R292). -/
structure RGroup where
  members : Nat
  ringCount : Nat
  firstRing : Nat
  deriving DecidableEq, Repr

/-- A bucket record (R293) with its number within its group. -/
structure BucketRec where
  group : Nat
  no : Nat
  first : Nat
  count : Nat
  origin : Nat
  deriving DecidableEq, Repr

/-- A contribution table entry (R282). -/
structure Contrib where
  record : Nat
  desc : Nat
  first : Nat
  stride : Nat
  rows : Nat
  cols : Nat
  mwrec : Bool
  words : Nat
  deriving DecidableEq, Repr

/-- One exchange block of a crossing (R295): integers (none in a peak crossing), peak byte, RECROSS bit. -/
structure XBlk where
  ints : List Int := []
  peak : Nat := 255
  recross : Bool := false
  deriving DecidableEq, Repr

/-- A bucket in the attempt: own contributions by pass (0 peak, 1 first, 2 second), completed crossings by 2 × pass,
plus 1 for the shadow, with their SKEW_SEEN bit, messages that wait for the own contribution (R296), the places of the
second crossing, and the scales of both crossings by place. -/
structure XBuck where
  own : SMap (List XBlk) := []
  done : SMap (List XBlk × Bool) := []
  waiting : List BucketMsg := []
  second : List Nat := []
  s1 : List Nat := []
  s2 : List Nat := []
  deriving DecidableEq, Repr

/-- The exchange unit: the loaded reduction plan (R291), the ready words of the attempt (R283), the attempt's buckets by
their place in the bucket table, early messages of a later attempt (R319), and counts of R308. -/
structure Exch where
  loaded : Bool := false
  id : Nat := 0
  groups : List RGroup := []
  buckets : List BucketRec := []
  contribs : List Contrib := []
  readyCount : Nat := 0
  blocks : Nat := 0
  readyBase : Nat := 0
  latched : Bool := false
  resetDue : Bool := false
  resetAll : Bool := false
  coldLoad : Bool := false
  ready : List Nat := []
  started : Bool := false
  stopped : Bool := false
  rate : Nat := 8
  bucks : SMap XBuck := []
  early : List BucketMsg := []
  nfinal : Nat := 0
  recross : Nat := 0
  seconds : Nat := 0
  shadows : Nat := 0
  zeroed : Nat := 0
  zeroedRem : Nat := 0
  tagged : Nat := 0
  lastStats : List Byte := []
  deriving DecidableEq, Repr

/-- A ring of the ring-order table (R330): members in ring order, this module's position. -/
structure Ring where
  members : List Nat
  pos : Nat
  deriving DecidableEq, Repr

/-- The loaded ring-order table (R330) with its CheckValue. -/
structure RingTab where
  loaded : Bool := false
  check : Nat := 0
  rings : List Ring := []
  latched : Bool := false
  deriving DecidableEq, Repr

/-! ### Faults and logbook (R351 to R379) -/

/-- Codes raised in the attempt, in order of first occurrence, with the core that raised each (none: hub die). -/
structure Faults where
  raised : List (Code × Option Nat) := []
  next : List (Code × Option Nat) := []     -- raised in an epilogue or restore section (R506)
  counts : SMap Nat := []
  recorded : List Code := []
  lastRefusal : List Byte := []
  deriving DecidableEq, Repr

/-- The logbook (R373 to R375): slots of 64 bytes, ring write point, keep slots used, next Sequence. -/
structure Log where
  slots : SMap (List Byte) := []
  ringNext : Nat := 1040
  keepUsed : Nat := 0
  sequence : Nat := 0
  deriving DecidableEq, Repr

/-- Layer statistics of the attempt and of the last committed step, by layer (R66, R103, R163, R242, R350). -/
structure Stats where
  outliers : SMap Nat := []
  overflow : SMap Nat := []
  overRange : SMap Nat := []
  missFix : SMap Nat := []
  zeroSkip : SMap Nat := []
  zeroGroups : SMap Nat := []
  arraySlots : SMap Nat := []
  windowLoss : SMap Nat := []
  headroom : SMap Nat := []
  bands : SMap Nat := []
  crossed : SMap Nat := []
  nwSamples : SMap Nat := []
  nwElems : SMap Nat := []
  nwAgree : SMap Nat := []
  nwDiff : SMap Dy := []
  nwRef : SMap Dy := []
  nwMax : SMap Nat := []
  headroomAt : Option (Nat × Nat) := none    -- core and tile of the first tagged element (R146)
  sat : SMap Nat := []
  zero : SMap Nat := []
  cold : List Nat := []
  primaryMax : Nat := 0
  chunks : Nat := 0
  skipped : Nat := 0
  step : Nat := 0
  mwLoss : Nat := 0
  mwOvf : Nat := 0
  travSent : SMap Nat := []
  travAccepted : SMap Nat := []
  travRefused : SMap Nat := []
  travDropped : SMap Nat := []
  deriving DecidableEq, Repr

/-! ### Itinerary and travellers (R333 to R343) -/

/-- An expert of a layer (R333): the module of its inns, slots per copy, inn core of each copy. -/
structure Expert where
  owner : Nat
  capacity : Nat
  cores : List Nat
  deriving DecidableEq, Repr

/-- A layer record of the itinerary (R333): experts, acceptance rounds, traveller set. -/
structure ILayer where
  experts : List Expert
  rounds : Nat
  members : List Nat
  deriving DecidableEq, Repr

/-- The loaded itinerary (R333) with its CheckValue. -/
structure Itin where
  loaded : Bool := false
  check : Nat := 0
  layers : List ILayer := []
  latched : Bool := false
  deriving DecidableEq, Repr

/-- A traveller that this module sent and its return (R340, R341): none until its return row has arrived, then the
choice that served it. -/
structure SentT where
  t : Traveller
  served : Option Nat := none
  deriving DecidableEq, Repr

/-- An accepted traveller (R338, R339): its expert, once acceptance is final its copy and slot, and the traveller as it
last arrived, with the row and return row of the routing in progress (R340). -/
structure Accepted where
  t : Traveller
  expert : Nat
  copy : Nat := 0
  slot : Nat := 0
  live : Option Traveller := none
  deriving DecidableEq, Repr

/-- A layer's routing in the attempt: FLUSHes of the routing in progress, its round, whether that round's end marks are
out, whether acceptance is final and whether the routing reuses it (R340); arrivals by round, end marks received as
(round, module); acceptance; travellers sent now and in the first routing, cores that issued a ROUTE; caravans being
built by 16 × destination + round; row length; caravans held for the next routing; and of the returns the rows being
built by destination, their row length, the inn cores that have flushed, the members whose end mark is in, and whether all
is back. -/
structure TLayer where
  flushes : Nat := 0
  round : Nat := 0
  ended : Bool := false
  isFinal : Bool := false
  reuse : Bool := false
  pool : List Traveller := []
  ends : List (Nat × Nat) := []
  accepted : List Accepted := []
  sent : List SentT := []
  history : List SentT := []
  routers : List Nat := []
  early : List CaravanOut := []
  building : SMap (List Traveller) := []
  rowWords : Option Nat := none
  innFlush : List Nat := []
  retBuilding : SMap (List ReturnRow) := []
  retWords : Option Nat := none
  retEnds : List Nat := []
  returned : Bool := false
  deriving DecidableEq, Repr

/-! ### Fabric (R309 to R332) -/

/-- A frame waiting in the transit buffer for an outgoing lane (R326, R328). -/
structure Transit where
  lane : Nat
  out : Nat
  f : Frame
  deriving DecidableEq, Repr

/-- A lane beside its registers (R309 to R315, R326): failed trainings in a row, uncorrectable codewords since it came
UP, corrected ones since the last unit of CORRECTED, totals since power-up, the far end and whether the training in progress
has identified it; of a port, at its even lane: link credits held and owed by class and the words of the frame coming in;
and in each direction the place in the alignment group and the scrambler's register (R314). -/
structure Lane where
  fails : Nat := 0
  unc : Nat := 0
  corrRem : Nat := 0
  totals : Nat × Nat × Nat := (0, 0, 0)
  far : Option Neighbour := none
  ready : Bool := false
  credits : SMap Nat := []
  owed : SMap Nat := []
  rx : List (List Byte) := []
  started : Bool := false
  rxPos : Nat := 0
  txPos : Nat := 0
  rxScr : Nat := 2 ^ 31 - 1
  txScr : Nat := 2 ^ 31 - 1
  deriving DecidableEq, Repr

/-- A message being received (R318): class, sequence number, frames by index, the index of the last one, its attempt,
whether it is of an earlier attempt or lost and is passed over. -/
structure RxMsg where
  cls : Nat
  seq : Nat
  parts : SMap (List Byte) := []
  last : Option Nat := none
  step : Nat := 0
  attempt : Nat := 0
  skip : Bool := false
  deriving DecidableEq, Repr

/-- A connection context (R325 to R327): peer, its context number, state (0 CLOSED, 1 OPENING, 2 OPEN, 3 CLOSING), end to
end credits held and spent by class, credits granted to the peer, credits freed and not returned, credits still owed from a short
pool, sequence numbers sent and next delivered by class, messages being received. -/
structure Ctx where
  peer : Nat
  theirs : Nat := 0xFFFF
  state : Nat := 1
  credits : SMap Nat := []
  used : SMap Nat := []
  granted : SMap Nat := []
  freed : SMap Nat := []
  owed : SMap Nat := []
  seqTx : SMap Nat := []
  seqRx : SMap Nat := []
  rx : List RxMsg := []
  deriving DecidableEq, Repr

/-- A message cut into frames that waits to be sent, its next frame first (R316, R317). -/
structure TxMsg where
  dest : Nat
  cls : Nat
  frames : List Frame
  deriving DecidableEq, Repr

/-- The fabric: lanes, contexts by number, messages being sent, the transit buffer, frames put on the lanes (the lane and
the frame, oldest first) and the codewords that carry them (R314), the sets of usable ports since the alternates were last chosen afresh (R323; empty: no change), DISCOVERY replies that came
back, the place in turn of spread destinations, by 16 × port + class the connection served last as 65,536 × source +
destination and whether its message goes on, by port the class of priority 3 that goes next (R317), messages of later
attempts held at the receiver (R319), latched spare requests (R313: port and spare, or a release), and the lanes whose
retraining after a substitution holds a doorbell (R313). -/
structure Fab where
  lanes : SMap Lane := []
  ctxs : SMap Ctx := []
  tx : List TxMsg := []
  transit : List Transit := []
  wire : List (Nat × Frame) := []
  line : List (Nat × List Nat) := []
  ups : List (List Nat) := []
  replies : List (Nat × List Byte) := []
  turns : SMap Nat := []
  connTurns : SMap (Nat × Bool) := []
  classTurns : SMap Nat := []
  held : List (Nat × OutMsg) := []
  spareReq : List (Option Nat × Nat) := []
  retraining : List Nat := []
  deriving DecidableEq, Repr

/-- One side of a mailbox beside its registers (R344 to R346, R408 to R411): words pushed and not sent, words received
and not popped, for each received message whose TAKEN is owed the words of it still queued and its number, messages that
wait for room in the queue (bells, words, number), TAKENs of aborted messages to be ignored (R411), and messages sent. -/
structure Fmb where
  tx : List Word := []
  rx : List Word := []
  owes : List (Nat × Nat) := []
  inbox : List (Word × List Word × Nat) := []
  aborted : Nat := 0
  sent : Nat := 0
  deriving DecidableEq, Repr

/-! ### Check-value units (R380 to R388) -/

/-- An item of a snooped stream (R386): the address of its first byte, its sequence number, its bytes, whether it was
aborted. -/
structure GuItem where
  addr : Nat
  seq : Nat
  data : List Byte
  aborted : Bool
  deriving DecidableEq, Repr

/-- A general unit beside its registers: items since START, those that its stream has brought and that have not begun, those
begun and not ended (they stand in the snoop buffer), the latched half of RESULT. -/
structure Gu where
  items : Nat := 0
  due : List GuItem := []
  cur : List GuItem := []
  latched : Option Nat := none
  deriving DecidableEq, Repr

/-! ### Host (R389 to R417) -/

/-- A DMA channel beside its registers (R405, R406): descriptors in flight with their index in the ring, oldest first. -/
structure DmaCh where
  flight : List (Nat × DmaDesc) := []
  deriving DecidableEq, Repr

/-- The host side beside its registers: result pages (R401), SEQ of the last page written, vectors raised by number
(R412), MSI in place of MSI-X (R412), dwords of the MSI-X table and pending vectors (R394), host memory as the module has
written it (mirror of R403, DMA), DMA channels, PERST# asserted (R392), the function in D3hot (R413), secure IDE streams,
those that have left the secure state, and the failures that AER has reported, by stream (R393). -/
structure HostSt where
  pages : SMap (List Byte) := []
  seq : Nat := 0
  vectors : SMap Nat := []
  msi : Bool := false
  msix : SMap Word := []
  pba : List Nat := []
  mem : Mem := []
  dma : SMap DmaCh := []
  perst : Bool := true
  d3 : Bool := false
  linkUp : Bool := false
  ide : List Nat := []
  insecure : List Nat := []
  aer : List Nat := []
  deriving DecidableEq, Repr

/-! ### Dictionary and management (R418 to R440) -/

/-- A staging slot (R425): path (0 window, 1 + source for the fabric, 65,537 + endpoint for MCTP), tag, index, subindex,
bytes so far. -/
structure Staging where
  path : Nat
  tag : Nat
  index : Nat
  sub : Nat
  data : List Byte
  deriving DecidableEq, Repr

/-- A request that has reached a processor whose clock is stopped (R429, R458): its Op (256: a whole value by one command), the
request, whether its path was at its limit (R427, R428), and the route its response takes (R321). -/
structure Waiting where
  op : Nat
  q : DReq
  busy : Bool := false
  route : Option (List Nat) := none
  deriving DecidableEq, Repr

/-- The management block (R426 to R440): staging slots in order of arrival, the keys of discarded ones (R425), requests that
wait, a request of the window that came as a command and is held, request buffer dwords and response buffer of the window, the flash copies, the one loaded at power-up and a store in progress
(copy, sequence), a margin re-plan that runs (0 scheduled, 1 requested) or is due after a restart, restarts since the last
block reset, interrupts raised to the firmware by source, responses sent by path, HOST_STATUS as last read (R417), voltage guardbands in force
and their targets (R438). -/
structure Mgmt where
  slots : List Staging := []
  gone : List (Nat × Nat × Nat × Nat) := []
  waiting : List Waiting := []
  heldReq : Option Waiting := none
  reqBuf : SMap Word := []
  respBuf : List Byte := []
  restarting : Bool := false
  restarts : Nat := 0
  copies : SMap (List Byte) := []
  loaded : List Byte := []
  storing : Option (Nat × Nat) := none
  stores : Nat := 0
  replan : Option Nat := none
  replanDue : Bool := false
  irqs : SMap Nat := []
  sent : List (Nat × List Byte) := []
  linkState : Option Nat := none
  guard : List Nat := [0, 0, 0, 0, 0]
  guardTo : List Nat := [0, 0, 0, 0, 0]
  deriving DecidableEq, Repr

/-! ### Housekeeping converters (R441 to R455) -/

/-- A converter beside its registers: the entries of the survey round in progress and the place in it, whether the survey
is idle or has ended a round that does not repeat, codes of the inputs, die outside 25 to 85 °C, the burst in progress, the
place in it and whether its first result is still to come, self-calibration requested and running, its coefficients (codes and
ppm from nominal), inputs of HK_RESULT reads whose HK_RINFO is latched, triggers of the die, dropped triggers. -/
structure Hk where
  round : List Nat := []
  place : Nat := 0
  started : Bool := false
  burst : Option (List Nat) := none
  burstPlace : Nat := 0
  burstNew : Bool := false
  calReq : Bool := false
  calibrating : Bool := false
  offset : Int := 0
  gain : Int := 0
  roundDone : Bool := false
  codes : SMap Int := []
  oob : Bool := false
  latched : SMap Nat := []
  failed : List Nat := []
  thermal : Bool := false
  alarm : Bool := false
  dropped : Nat := 0
  deriving DecidableEq, Repr

/-! ### Start-up, clocks, power, security (R456 to R503) -/

/-- Start-up (R467 to R470): state of R468, ms spent by stage, whether self-test passed, the module waiting in BOOT for a
recovery image, stopped PLLs and those that failed (R458, R459), commands that wait in a crossing for stopped clocks, with
those clocks (R460), one of them being let through, events in flight into a stopped clock by source (R462), relocks and merged events since power-up (R462), and the clock references (bits of CLK_STATUS) that were present when a reset
cleared it. -/
structure Startup where
  state : Nat := 0
  times : List Nat := [0, 0, 0, 0, 0]
  recovery : Bool := false
  offPlls : List Nat := []
  refs : Nat := 0
  failedPlls : List Nat := []
  held : List (List Nat × Instr) := []
  letting : Bool := false
  inFlight : List (Nat × Nat) := []
  relocks : Nat := 0
  merged : Nat := 0
  elapsed : Nat := 0
  deriving DecidableEq, Repr

/-- Power beside its registers (R494 to R499): power level, thermal level by compute die,
dies whose level an alarm set, mean input power in W, ms spent above level 0 by die. -/
structure Power where
  level : Nat := 0
  thermal : SMap Nat := []
  byAlarm : List Nat := []
  watts : Nat := 0
  throttleMs : SMap Nat := []
  deriving DecidableEq, Repr

/-- An answer of the SPDM responder (R481 to R483). -/
inductive Spdm where
  | version (v : Nat)
  | capabilities (names : List String)
  | algorithms (aead : Nat)
  | digests (d : List Byte)
  | certificate (part : List Byte) (rest : Nat)
  | challengeAuth (sig : List Byte)
  | measurements (records : List Byte) (sig : List Byte)
  | keyExchange (session : Nat) (sig : List Byte)
  | done (session : Nat)
  | ideKm (stream : Nat)
  | error (code : Nat)
  deriving DecidableEq, Repr

/-- A session of the responder: transport (0 DOE, 1 MCTP), number, whether FINISH has come, key generation. -/
structure Session where
  transport : Nat
  id : Nat
  ready : Bool := false
  keys : Nat := 0
  deriving DecidableEq, Repr

/-- The security block (R473 to R486): image slots (none: invalid; unlisted: as delivered, R504), the slot that boots next, the running slot (2: the
recovery area) and its image, fallback, an update in progress, rollback counter, keys' states, sessions, the AEAD agreed
by transport, answers sent. -/
structure Secure where
  slots : SMap (Option Image) := []
  active : Nat := 0
  running : Nat := 0
  image : Option Image := none
  fallback : Bool := false
  update : Option Nat := none
  counter : Option Nat := none
  keys : SMap Nat := []
  sessions : List Session := []
  nextSession : Nat := 1
  aead : SMap Nat := []
  answers : List Spdm := []
  deriving DecidableEq, Repr

/-! ### Physical cores and start-up (R14, R367 to R371) -/

/-- Spare row of each column (die * 32 + column; unlisted: row 32, R14), rows and engines retired by ageing, cores and
engines awaiting retirement, failed self-test bits per die, excluded pseudo-channels, power-ups since manufacture. -/
structure Phys where
  spareRow : SMap Nat := []
  aged : List (Nat × Nat × Nat) := []
  pendingCores : List Nat := []
  pendingEngines : List Nat := []
  agedEngines : List Nat := []
  testBits : SMap Nat := []
  exclusions : List (Nat × Nat) := []
  powerOns : Nat := 1
  guardband : List Nat := []
  retiring : List Nat := []
  lostColumns : List (Nat × Nat) := []
  deriving DecidableEq, Repr

/-- Codes delivered under the conditions of R97, those of them that may lie beyond 1.5 steps, and the sum of their errors
in 1/32 step. -/
structure Band where
  codes : Nat := 0
  tails : Nat := 0
  sum : Int := 0
  deriving DecidableEq, Repr

/-! ### The module -/

/-- One T1 module (R1 to R509). `pending` is the queue of waiting commands, first in, first out; `fresh` counts the free
values drawn (DESIGN CHOICE, assumptions 9 and 75). Both are the model's own. -/
structure State where
  pending : List Instr := []
  fresh : Nat := 0
  mem : Mem := []
  memBad : List Nat := []
  regs : SMap Word := []
  dict : SMap Nat := []
  doms : SMap (List Byte) := []
  cores : SMap Core := []
  plan : Plan := {}
  ledger : Ledger := {}
  job : Job := {}
  upd : Upd := {}
  exch : Exch := {}
  rings : RingTab := {}
  itin : Itin := {}
  trav : SMap TLayer := []
  fab : Fab := {}
  fmbs : SMap Fmb := []
  faults : Faults := {}
  log : Log := {}
  stats : Stats := {}
  lastStats : Stats := {}
  gus : SMap Gu := []
  host : HostSt := {}
  seqSnap : SMap Nat := []
  vecSnap : SMap Nat := []
  mbs : SMap Fmb := []
  mgmt : Mgmt := {}
  hks : SMap Hk := []
  startup : Startup := {}
  power : Power := {}
  secure : Secure := {}
  reply : List Byte := []                    -- what the last read answered
  unsupported : Bool := false                -- the last host access completed as an Unsupported Request
  pendingDict : List (Nat × List Byte) := []
  phys : Phys := {}
  tables : SMap (List (Nat × Nat)) := []
  band : Band := {}
  bounds : Nat := 0                          -- trim boundaries so far (R116)
  creepTot : SMap (Nat × Nat × Nat) := []    -- CreepCounts by 8 × core + array: routine rows, urgent rows, gross cells
  netOut : List (Nat × OutMsg) := []         -- messages waiting for a port, with their destination, oldest first
  deriving DecidableEq, Repr

/-- The machine right after a power-up reset (R10). -/
def State.reset : State := {}

end Sys2Proof.Machine
end

