-- ==== Sys2Proof/Machine/Regs.lean ====
section
/-! DEFINITION. The register bank and the accesses of R11 to R13. Every register field has its one home here. -/

namespace Sys2Proof.Machine

/-- A housekeeping input is differential (R445): temperatures, currents, half of the test sources and the spares of both
groups; spares go with the group they serve (R451). -/
def hkDiff (i : Nat) : Bool := i < 16 || (28 ≤ i && i < 40) || (52 ≤ i && i < 58) || i = 60 || i = 61

/-- Values that the field maps' Reset columns do not give as numbers: the survey lists of R454, the owned units of R388 with the sets of
R384,
the spare update engine (DESIGN CHOICE, assumption 5). -/
def specialReset (sec : Sec) (inst off : Nat) : Option Nat :=
  match sec with
  | .update => if off = 4 * 32 then some 2 else none
  | .gu =>
    if off = 0 ∧ inst < 4 then some (setBits (setBits (setBits (resetWord .gu 0) 19 1 1) 10 2 1) 14 4 9)
    else if off = 0 ∧ inst = 4 then some (setBits (resetWord .gu 0) 19 1 1) else none
  | .hk =>
    if off = 0xC then some ((if inst < 4 then 32 else 29) + 3 * 256)
    else if 0x40 ≤ off ∧ off < 0xC0 ∧ off % 4 = 0 then
      let s := (off - 0x40) / 4
      if inst < 4 then (if s < 28 then some (s + 64) else some (40 + (s - 28) + 128))
      else if s < 8 then some (s + 64) else if s < 29 then some (16 + (s - 8) + 64) else none
    else if 0x104 ≤ off ∧ off < 0x300 ∧ off % 8 = 4 then some (32 * b2n (hkDiff ((off - 0x104) / 8)))
    else if off = 0xC0 then some 16 else if off = 0xC4 then some 28 else if off = 0xC8 then some 0
    else none
  | _ => none

/-- The value of a register after a power-up reset (R10). -/
def resetReg (sec : Sec) (inst off : Nat) : Nat := (specialReset sec inst off).getD (resetWord sec off)

/-- The stored word of a register. -/
def State.rword (s : State) (sec : Sec) (inst off : Nat) : Nat :=
  match s.regs.find? (regKey sec inst off) with
  | some w => w.toNat
  | none => resetReg sec inst off

/-- Store a register's word. -/
def State.setRword (s : State) (sec : Sec) (inst off v : Nat) : State :=
  { s with regs := s.regs.put (regKey sec inst off) (word v) }

/-- Offset of instance (i, j) of a field's register. -/
def Fld.addr (f : Fld) (i j : Nat) : Nat := f.off + f.stride * i + f.stride2 * j

/-- The value of a field of instance `inst`, register (i, j). -/
def State.fget (s : State) (f : Fld) (inst : Nat := 0) (i : Nat := 0) (j : Nat := 0) : Nat :=
  bits (s.rword f.sec inst (f.addr i j)) f.lo f.w

/-- Hardware sets a field. -/
def State.fset (s : State) (f : Fld) (v : Nat) (inst : Nat := 0) (i : Nat := 0) (j : Nat := 0) : State :=
  s.setRword f.sec inst (f.addr i j) (setBits (s.rword f.sec inst (f.addr i j)) f.lo f.w v)

/-- A field as a truth value. -/
def State.fon (s : State) (f : Fld) (inst : Nat := 0) (i : Nat := 0) (j : Nat := 0) : Bool :=
  s.fget f inst i j ≠ 0

/-- A counter field counts up and saturates at its largest value. -/
def State.fcount (s : State) (f : Fld) (n : Nat) (inst : Nat := 0) (i : Nat := 0) (j : Nat := 0) : State :=
  if n = 0 then s else s.fset f (satAdd (2 ^ f.w - 1) (s.fget f inst i j) n) inst i j

/-- A field as a signed number. -/
def State.fgetS (s : State) (f : Fld) (inst : Nat := 0) (i : Nat := 0) (j : Nat := 0) : Int :=
  signed f.w (s.fget f inst i j)

/-- Write a signed number to a field. -/
def State.fsetS (s : State) (f : Fld) (v : Int) (inst : Nat := 0) (i : Nat := 0) (j : Nat := 0) : State :=
  s.fset f (wrap f.w v) inst i j

/-- The core's die is outside 25 to 85 °C (R98, R446). -/
def State.dieOob (s : State) (core : Nat) : Bool := (s.hks.get (core / 1024) {}).oob

/-- ARRAY_STATUS of an array as read: TEMP_OOB is the die's (R98). -/
def State.arrayStatus (s : State) (core a : Nat) : Nat := setBits (s.rword .array core (4 * a)) 5 1 (b2n (s.dieOob core))

/-- The clock of a core's die runs: its CCLK, and with `arrays` its ATCLK (R456, R458). -/
def State.clockOn (s : State) (core : Nat) (arrays : Bool) : Bool :=
  core / 1024 ∉ s.startup.offPlls && (!arrays || 5 + core / 1024 ∉ s.startup.offPlls)

/-- What a read of a register returns by its access codes (R11): write-only and reserved bits read zero. -/
def readValue (fs : List Fld) (w : Nat) : Nat :=
  fs.foldl (fun acc f => if f.acc = .wo then acc else setBits acc f.lo f.w (bits w f.lo f.w)) 0

/-- What a read leaves in a register: read-clear fields are cleared (R11). -/
def afterRead (fs : List Fld) (w : Nat) : Nat :=
  fs.foldl (fun acc f => if f.acc = .rc then setBits acc f.lo f.w 0 else acc) w

/-- What a plain write leaves in a register by its access codes (R11, R12): RW fields take the value, W1C bits written
1 clear, everything else stays. -/
def afterWrite (fs : List Fld) (w v : Nat) : Nat :=
  fs.foldl (fun acc f => match f.acc with
    | .rw => setBits acc f.lo f.w (bits v f.lo f.w)
    | .w1c => setBits acc f.lo f.w (bits acc f.lo f.w - (bits acc f.lo f.w &&& bits v f.lo f.w))
    | _ => acc) w

/-- Software reads a register: the value and the state after it. A reserved offset reads zero. -/
def State.regRead (s : State) (sec : Sec) (inst off : Nat) : Nat × State :=
  match fldsAt sec off with
  | [] => (0, s)
  | fs =>
    let w := s.rword sec inst off
    (readValue fs w, if afterRead fs w = w then s else s.setRword sec inst off (afterRead fs w))

/-- Software writes a register that has no side effect beyond its fields. A write to a reserved offset is ignored. -/
def State.regWrite (s : State) (sec : Sec) (inst off v : Nat) : State :=
  match fldsAt sec off with
  | [] => s
  | fs =>
    let w := s.rword sec inst off
    if afterWrite fs w v = w then s else s.setRword sec inst off (afterWrite fs w v)

end Sys2Proof.Machine
end

