-- ==== Sys2Proof/Machine/Ops.lean ====
section
/-! DEFINITION. The named operations over the module: cores, free values, module memory (R18, R353), dictionary values in
force, fault codes (R351, R352), logbook records (R374, R375) and raising a code. -/

namespace Sys2Proof.Machine

/-- Outcome of a command: every meaning of this model answers a next state. -/
abbrev Out := Host.Outcome State Fault Refusal

/-- A core. -/
def State.core (s : State) (c : Nat) : Core := s.cores.get c {}

/-- Replace a core. -/
def State.setCore (s : State) (c : Nat) (k : Core) : State := { s with cores := s.cores.put c k }

/-- Change a core. -/
def State.modCore (s : State) (c : Nat) (f : Core → Core) : State := s.setCore c (f (s.core c))

/-- Draw `n` free values: the first one's number and the state after (DESIGN CHOICE, assumption 9). -/
def State.draw (s : State) (n : Nat) : Nat × State := (s.fresh, { s with fresh := s.fresh + n })

/-! ### Module memory -/

/-- A free text as a STRING entry holds it (R419): at most 255 ASCII bytes from 0x20 to 0x7E. -/
def asciiText (b : List Byte) : List Byte := (b.take 255).map fun x => BitVec.ofNat 8 (0x20 + x.toNat % 95)

/-- ProductCode (R1). -/
def productCode : Nat := if Config.small then 0x384 else 0x768

/-- Size of a quarter in bytes (R18). -/
def quarterSize : Nat := if Config.small then 96 * 2 ^ 30 else 192 * 2 ^ 30

/-- The address lies in mapped memory (R18). -/
def mapped (a : Nat) : Bool := a < 2 ^ 40 && a % 2 ^ 38 < quarterSize

/-- A range of `n` bytes lies in mapped memory, inside one quarter. -/
def mappedRange (a n : Nat) : Bool := n = 0 || (mapped a && mapped (a + n - 1) && a / 2 ^ 38 = (a + n - 1) / 2 ^ 38)

/-- The stack of an address (R18): four stacks for each quarter, in turn by pieces of 4 KiB. -/
def stackOf (a : Nat) : Nat := 4 * (a / 2 ^ 38) + a % 2 ^ 38 / 4096 % 4

/-- The 32-byte words that a range touches (R353). -/
def wordsOf (a n : Nat) : List Nat := if n = 0 then [] else (List.range ((a + n - 1) / 32 - a / 32 + 1)).map (· + a / 32)

/-- The uncorrectable words among those a read touches (R353). -/
def State.badIn (s : State) (a n : Nat) : List Nat := s.memBad.filter fun w => a / 32 ≤ w && w * 32 < a + n

/-- Store bytes in module memory. A write that covers a whole word cures it; a partial one cannot merge and leaves the
word as it was (R353). -/
def State.store (s : State) (a : Nat) (bs : List Byte) : State :=
  let n := bs.length
  let covered := fun w => decide (a ≤ w * 32) && decide (w * 32 + 32 ≤ a + n)
  let part := (s.badIn a n).filter fun w => !covered w
  let m := s.mem.writeBytes a bs
  let m := part.foldl (fun m w => m.writeBytes (w * 32) (s.mem.readBytes (w * 32) 32)) m
  { s with mem := m, memBad := s.memBad.filter fun w => !(decide (w ∈ s.badIn a n) && covered w) }

/-- Read `n` bytes of module memory. -/
def State.load (s : State) (a n : Nat) : List Byte := s.mem.readBytes a n

/-- Read a little-endian number of module memory. -/
def State.loadNat (s : State) (a n : Nat) : Nat := s.mem.readNat a n

/-- Store a little-endian number. -/
def State.storeNat (s : State) (a n v : Nat) : State := s.store a (bytesOf n v)

/-! ### Dictionary values in force -/

/-- Key of a dictionary entry. -/
def dkey (index sub : Nat) : Nat := index * 256 + sub

/-- The value of a scalar entry; unlisted, the given default (its Default column). -/
def State.dval (s : State) (index sub dflt : Nat) : Nat := s.dict.get (dkey index sub) dflt

/-- Set a scalar entry. -/
def State.setDval (s : State) (index sub v : Nat) : State := { s with dict := s.dict.put (dkey index sub) v }

/-- Count in a scalar entry that saturates at 2^32 - 1. -/
def State.countD (s : State) (index sub n : Nat) : State :=
  if n = 0 then s else s.setDval index sub (satAdd 0xFFFFFFFF (s.dval index sub 0) n)

/-- TokenTimeout (R241). -/
def State.tokenTimeout (s : State) : Nat := s.dval 0x2201 1 2000

/-! ### Fault codes -/

/-- Numbers of R352. -/
def Code.number : Code → Nat
  | .residueProduct => 0x101 | .residueAccum => 0x102 | .residueVector => 0x103 | .residueUpdate => 0x104
  | .watchMismatch => 0x105 | .reduceMismatch => 0x106 | .xferCheck => 0x107 | .memUncorrectable => 0x108
  | .scaleNas => 0x109 | .ledgerDuplicate => 0x10A | .ledgerIncomplete => 0x10B
  | .frameLoss => 0x201 | .noRoute => 0x202 | .tokenTimeout => 0x203 | .exchangeTimeout => 0x204 | .tokenResidue => 0x205
  | .invalidSticky => 0x301 | .updateInvalid => 0x302 | .exchangeRange => 0x303
  | .tileConflict => 0x401 | .anchorLow => 0x402 | .badFormat => 0x403 | .operandAlign => 0x404
  | .arraySrcAlign => 0x405 | .bankTagMismatch => 0x406 | .memUnmapped => 0x407 | .badChain => 0x408
  | .badEntry => 0x409 | .tokenOvf => 0x40A | .badStash => 0x40B | .badPosition => 0x40C | .msgLength => 0x40D
  | .cellarFull => 0x40E | .ledgerProtect => 0x40F | .reduceCoverage => 0x410
  | .stepSkew => 0x501 | .controlSkew => 0x502 | .bucketShape => 0x503 | .travelPoolFull => 0x504
  | .travelLayout => 0x505 | .voteTree => 0x506 | .memLost => 0x507
  | .voteLost => 0x601 | .selftestFail => 0x602
  | .arrayWriteFail => 0x701 | .spareExhausted => 0x702 | .headroomOvf => 0x703 | .dormantLayer => 0x704
  | .laneFailed => 0x705 | .retirePending => 0x706 | .ageingNoSpare => 0x707
  | .calReject => 0x708 | .hkCalReject => 0x709 | .overRange => 0x70A | .outlierFull => 0x70B | .windowLoss => 0x70C
  | .clipInf => 0x70D | .clockFail => 0x70E | .bondMismatch => 0x70F | .tempOob => 0x710 | .contextFull => 0x711
  | .empty => 0x712 | .reduceLayout => 0x713 | .ringLayout => 0x714 | .holdSmall => 0x715 | .rxPoolSmall => 0x716
  | .badCompletion => 0x717 | .linkDegraded => 0x718

/-- Class numbers of R374: 0 R, 1 N, 2 T, 3 D, 4 J, 5 S, by the number's range in R352. -/
def Code.cls (c : Code) : Nat :=
  let n := c.number
  if n < 0x300 then 0 else if n < 0x400 then 1 else if n < 0x500 then 2 else if n < 0x600 then 3
  else if n < 0x700 then 4 else 5

/-- Codes of classes R and N, T and D and J, and S, in number order. -/
def codesRN : List Code :=
  [.residueProduct, .residueAccum, .residueVector, .residueUpdate, .watchMismatch, .reduceMismatch, .xferCheck,
   .memUncorrectable, .scaleNas, .ledgerDuplicate, .ledgerIncomplete, .frameLoss, .noRoute, .tokenTimeout,
   .exchangeTimeout, .tokenResidue, .invalidSticky, .updateInvalid, .exchangeRange]
def codesTDJ : List Code :=
  [.tileConflict, .anchorLow, .badFormat, .operandAlign, .arraySrcAlign, .bankTagMismatch, .memUnmapped,
   .badChain, .badEntry, .tokenOvf, .badStash, .badPosition, .msgLength, .cellarFull, .ledgerProtect,
   .reduceCoverage, .stepSkew, .controlSkew, .bucketShape, .travelPoolFull, .travelLayout, .voteTree, .memLost,
   .voteLost, .selftestFail]
def codesS : List Code :=
  [.arrayWriteFail, .spareExhausted, .headroomOvf, .dormantLayer, .laneFailed, .retirePending, .ageingNoSpare,
   .calReject, .hkCalReject, .overRange, .outlierFull, .windowLoss, .clipInf, .clockFail, .bondMismatch, .tempOob,
   .contextFull, .empty, .reduceLayout, .ringLayout, .holdSmall, .rxPoolSmall, .badCompletion, .linkDegraded]

/-- All codes in number order (FaultCounts of R378). -/
def allCodes : List Code := codesRN ++ codesTDJ ++ codesS

/-- The status bit that carries a code on a core (R161, R195, R240, R377). -/
def Code.coreBit : Code → Option Fld
  | .residueProduct => some .ENGINE_STATUS_RESIDUE_PRODUCT
  | .residueAccum => some .ENGINE_STATUS_RESIDUE_ACCUM
  | .residueVector => some .VSTAT_RESIDUE_VECTOR
  | .watchMismatch => some .WATCH_STATUS_WATCH_MISMATCH
  | .tileConflict => some .ENGINE_STATUS_TILE_CONFLICT
  | .anchorLow => some .ENGINE_STATUS_ANCHOR_LOW
  | .badFormat => some .ENGINE_STATUS_BAD_FORMAT
  | .operandAlign => some .ENGINE_STATUS_OPERAND_ALIGN
  | .badChain => some .VSTAT_BAD_CHAIN
  | .badEntry => some .SEQ_STATUS_BAD_ENTRY
  | .tokenOvf => some .SEQ_STATUS_TOKEN_OVF
  | .tokenTimeout => some .SEQ_STATUS_TOKEN_TIMEOUT
  | .tokenResidue => some .SEQ_STATUS_TOKEN_RESIDUE
  | .badStash => some .SEQ_STATUS_BAD_STASH
  | .badPosition => some .SEQ_STATUS_BAD_POSITION
  | .msgLength => some .SEQ_STATUS_MSG_LENGTH
  | .cellarFull => some .SEQ_STATUS_CELLAR_FULL
  | .invalidSticky => some .VSTAT_NV
  | _ => none

/-- The status bit that carries a code on the hub die (R275, R306). -/
def Code.hubBit : Code → Option Fld
  | .controlSkew => some .COMMIT_STATUS_CONTROL_SKEW
  | .ledgerIncomplete => some .COMMIT_STATUS_LEDGER_INCOMPLETE
  | .ledgerDuplicate => some .COMMIT_STATUS_LEDGER_DUPLICATE
  | .voteLost => some .COMMIT_STATUS_VOTE_LOST
  | .clipInf => some .COMMIT_STATUS_CLIP_INF
  | .holdSmall => some .COMMIT_STATUS_HOLD_SMALL
  | .ledgerProtect => some .COMMIT_STATUS_LEDGER_PROTECT
  | .reduceMismatch => some .EXCH_STATUS_REDUCE_MISMATCH
  | .exchangeRange => some .EXCH_STATUS_EXCHANGE_RANGE
  | .reduceCoverage => some .EXCH_STATUS_REDUCE_COVERAGE
  | .bucketShape => some .EXCH_STATUS_BUCKET_SHAPE
  | .exchangeTimeout => some .EXCH_STATUS_EXCHANGE_TIMEOUT
  | .reduceLayout => some .EXCH_STATUS_REDUCE_LAYOUT
  | .frameLoss => some .FABRIC_STATUS_FRAME_LOSS
  | .noRoute => some .FABRIC_STATUS_NO_ROUTE
  | .ringLayout => some .FABRIC_STATUS_RING_LAYOUT
  | .travelPoolFull => some .FABRIC_STATUS_TRAVEL_POOL_FULL
  | .travelLayout => some .FABRIC_STATUS_TRAVEL_LAYOUT
  | .voteTree => some .FABRIC_STATUS_VOTE_TREE
  | .contextFull => some .FABRIC_STATUS_CONTEXT_FULL
  | .rxPoolSmall => some .FABRIC_STATUS_RX_POOL_SMALL
  | _ => none

/-- The status bit that carries a code in an update engine (R275). -/
def Code.engBit : Code → Option Fld
  | .updateInvalid => some .UPD_STATUS_UPDATE_INVALID
  | .residueUpdate => some .UPD_STATUS_RESIDUE_UPDATE
  | .stepSkew => some .UPD_STATUS_STEP_SKEW
  | .scaleNas => some .UPD_STATUS_SCALE_NAS
  | _ => none

/-! ### Logbook -/

/-- Record types of R374. -/
def recBoot : Nat := 1
def recSelftest : Nat := 2
def recFault : Nat := 3
def recRefusal : Nat := 4
def recHold : Nat := 5
def recResolve : Nat := 6
def recSpare : Nat := 7
def recRetire : Nat := 8
def recStatus : Nat := 9
def recMargin : Nat := 10

/-- Physical row of a logical core: rows ascend, skipping the spare (R14). -/
def State.physRow (s : State) (c : Nat) : Nat :=
  let r := c % 32
  let sp := s.phys.spareRow.get (c / 32) 32
  if r < sp then r else r + 1

/-- The Location word of a core (R374), with a unit number or 0x3F. -/
def State.locCore (s : State) (c unit : Nat) : Nat :=
  c % 4096 + (c / 1024) * 2 ^ 12 + (c / 32 % 32) * 2 ^ 15 + s.physRow c * 2 ^ 20 + unit % 64 * 2 ^ 26

/-- The Location word of a unit of the hub die: core field 0xFFF as in FIRST_FAULT (DEDUCED, assumption 17). -/
def locHub (unit : Nat) : Nat := 0xFFF + 4 * 2 ^ 12 + unit % 64 * 2 ^ 26

/-- An attempt is between its start and its decision: STATE is RUNNING and PHASE is before the flip (R275, R377). -/
def State.running (s : State) : Bool := s.fget .RECOVERY_STATUS_STATE = 1 && s.fget .COMMIT_STATUS_PHASE < 4

/-- Between doorbell and commit, replays included (R364, R248): RUNNING before the flip, a restore section between
attempts, or VOTE_LOST. (DEDUCED, assumption 63.) -/
def State.inStep (s : State) : Bool :=
  s.running || s.fget .RECOVERY_STATUS_STATE = 3 ||
  (s.fget .RECOVERY_STATUS_STATE = 1 && s.fget .COMMIT_STATUS_PHASE = 6)

/-- The step number that a record carries: the attempt's, or the step counter outside an attempt (R374). -/
def State.stepNow (s : State) : Nat := if s.inStep then s.job.stepCounter + 1 else s.job.stepCounter

/-- A record of 64 bytes (R374), its check value over bytes 0 to 59. -/
def mkRecord (typ cls code seq pon step attempt loc status entry : Nat) (detail : List Byte) : List Byte :=
  let b : List Byte := List.flatten [bytesOf 1 typ, bytesOf 1 cls, bytesOf 2 code, bytesOf 4 seq,
    bytesOf 8 (Config.localCount seq), bytesOf 4 pon, bytesOf 8 step, bytesOf 2 attempt, bytesOf 2 0, bytesOf 4 loc,
    bytesOf 4 status, bytesOf 4 entry, padTo 16 0 detail]
  b ++ bytesOf 4 (crc c32 b)

/-- Write one record (R373, R375): a FAULT record into the keep region while it has room, any other into the ring.
(DEDUCED, assumption 43.) -/
def State.logWrite (s : State) (typ cls code loc status entry : Nat) (detail : List Byte := []) : State :=
  let l := s.log
  let r := mkRecord typ cls code l.sequence s.phys.powerOns s.stepNow s.job.attempt loc status entry detail
  let seq := (l.sequence + 1) % 2 ^ 32
  if typ = recFault ∧ l.keepUsed < 1024 then
    { s with log := { l with slots := l.slots.put (16 + l.keepUsed) r, keepUsed := l.keepUsed + 1, sequence := seq } }
  else
    { s with log := { l with slots := l.slots.put l.ringNext r, sequence := seq,
                             ringNext := if l.ringNext = 65535 then 1040 else l.ringNext + 1 } }

/-- Count `n` occurrences of a code in FaultCounts (R378); what is one occurrence, where the manual does not say: DESIGN CHOICE,
assumption 100. -/
def State.countCode (s : State) (c : Code) (n : Nat := 1) : State :=
  { s with faults := { s.faults with
      counts := s.faults.counts.put c.number (satAdd 0xFFFFFFFF (s.faults.counts.get c.number 0) n) } }

/-- A code of class S that writes a STATUS record, or a record of the type its rule names (R375). -/
def State.statusRecord (s : State) (c : Code) (loc status : Nat) (typ : Nat := recStatus) : State :=
  (s.countCode c).logWrite typ 5 c.number loc status 0xFFFFFFFF

/-- The status register that carries a code, as read at detection (R374). -/
def State.statusOf (s : State) (c : Code) (core : Option Nat) (unit : Nat := 0x3F) : Nat :=
  match core with
  | some k => match c.coreBit with
    | some f => s.rword f.sec k (f.addr 0 0)
    | none => match c.hubBit with
      | some f => s.rword f.sec 0 (f.addr 0 0)
      | none => s.rword .seq k 0
  | none => match c.hubBit, c.engBit with
    | some f, _ => s.rword f.sec 0 (f.addr 0 0)
    | none, some f => s.rword f.sec 0 (f.addr unit 0)
    | none, none => s.rword .update 0 0x200

/-- Set the status bit that carries a code; of an update engine, that of engine `unit`. -/
def State.setCodeBit (s : State) (c : Code) (core : Option Nat) (unit : Nat := 0x3F) : State :=
  match core with
  | some k => match c.coreBit with
    | some f => s.fset f 1 k
    | none => match c.hubBit with
      | some f => s.fset f 1
      | none => s
  | none => match c.hubBit, c.engBit with
    | some f, _ => s.fset f 1
    | none, some f => if unit < 33 then s.fset f 1 0 unit else s
    | none, none => s

/-- Entry field of a FAULT record (R374): FIRST_NV_ENTRY for NV, otherwise SEQ_FAULT_ENTRY; none for the hub. -/
def State.faultEntry (s : State) (c : Code) : Option Nat → Nat
  | some k => if c = .invalidSticky then s.fget .VSTAT_FIRST_NV_ENTRY k else s.fget .SEQ_FAULT_ENTRY_ENTRY k
  | none => 0xFFFFFFFF

/-- Raise a code of class R, N, T, D or J in the attempt (R352, R375): its status bit, its count, the codes of the
attempt, and one FAULT record for its first occurrence, at most 16 in an attempt. -/
def State.raiseIn (s : State) (c : Code) (core : Option Nat) (unit : Nat := 0x3F) : State :=
  let s := (s.setCodeBit c core unit).countCode c
  let s := if s.faults.raised.any (·.1 = c) then s
    else { s with faults := { s.faults with raised := s.faults.raised ++ [(c, core)] } }
  if c ∈ s.faults.recorded ∨ 16 ≤ s.faults.recorded.length then s else
  let loc := match core with | some k => s.locCore k unit | none => locHub unit
  let s := s.logWrite recFault c.cls c.number loc (s.statusOf c core unit) (s.faultEntry c core)
    (if c = .invalidSticky then bytesOf 4 (s.faultEntry c core) else [])
  { s with faults := { s.faults with recorded := s.faults.recorded ++ [c] } }

/-- Raise a code in an epilogue or restore section (R506): counted as raised in the next attempt, of whose FAULT records
its first occurrence writes one (R375). -/
def State.raiseAfter (s : State) (c : Code) (core : Option Nat) (unit : Nat := 0x3F) : State :=
  let s := (s.setCodeBit c core unit).countCode c
  if s.faults.next.any (·.1 = c) then s else
  let loc := match core with | some k => s.locCore k unit | none => locHub unit
  let s := if 16 ≤ s.faults.next.length then s
    else s.logWrite recFault c.cls c.number loc (s.statusOf c core unit) (s.faultEntry c core)
  { s with faults := { s.faults with next := s.faults.next ++ [(c, core)] } }

/-- The section a core runs (R240). -/
def State.seqState (s : State) (c : Nat) : Nat := s.fget .SEQ_STATUS_STATE c

/-- Raise a code that does not halt, from a core: in the attempt, or under R506 when the core runs its epilogue or
restore section. -/
def State.raise (s : State) (c : Code) (core : Nat) (unit : Nat := 0x3F) : State :=
  if s.seqState core = 3 ∨ s.seqState core = 4 then s.raiseAfter c (some core) unit
  else s.raiseIn c (some core) unit

/-- A core stands at the commit check: at COMMIT_POINT, halted or stopped. -/
def State.atCommit (s : State) (c : Nat) : Bool :=
  let st := s.seqState c
  st = 2 || st = 5 || (st = 1 && s.job.stopped)

/-- Cores that the plan runs. -/
def State.planCores (s : State) : List Nat := (s.cores.filter fun x => x.2.hdr.isSome).map (·.1)

/-- The exchange unit sees that no further ready word can come: every core has reported or stopped (R304). -/
def State.starved (s : State) : State :=
  if s.exch.loaded ∧ ¬ s.exch.started ∧ s.exch.ready.length < s.exch.readyCount ∧ s.running
      ∧ !s.job.exchTimedOut ∧ s.planCores.all s.atCommit
  then { s.raiseIn .exchangeTimeout none with job := { s.job with exchTimedOut := true } } else s

/-- A halting fault (class T): the core halts, the first one's entry is recorded, and the module's attempt stops early
(R359). In an epilogue or restore section the core's section ends (R506). -/
def State.halt (s : State) (c : Code) (core : Nat) (entryNo : Nat) : State :=
  let after : Bool := s.seqState core = 3 ∨ s.seqState core = 4
  let s := if s.fget .SEQ_FAULT_ENTRY_ENTRY core = 0xFFFFFFFF then s.fset .SEQ_FAULT_ENTRY_ENTRY entryNo core else s
  let s := s.raise c core
  let s := (s.fset .SEQ_STATUS_STATE 5 core).fset .ENGINE_STATUS_HALTED 1 core
  if after then { s with job := { s.job with epilogue := s.job.epilogue.filter (· ≠ core) } }
  else if s.running then
    { s.fset .RECOVERY_STATUS_EARLY_STOP 1 with job := { s.job with stopped := true } }.starved
  else s

/-- Raise a code from update engine `e` (R258, R268, R275). -/
def State.raiseEng (s : State) (c : Code) (e : Nat) : State := s.raiseIn c none e

/-- A table that every attempt reads again: the committed page, the batch slot, a loaded table (R353). The regions of
loaded tables are those the loads recorded. -/
def State.protectedWord (s : State) (w : Nat) : Bool :=
  let a := w * 32
  let base := if s.ledger.page = 0 then s.ledger.base0 else s.ledger.base1
  (s.ledger.loaded && base ≤ a && a < base + s.ledger.span) ||
  (s.inStep && s.job.batchBase ≤ a && a < s.job.batchBase + s.job.host.size) ||
  s.tables.any fun k => k.2.any fun t => t.1 ≤ a + 31 && a < t.1 + t.2

/-- Raise what a read of uncorrectable words raises (R353), each at its stack (R374). -/
def State.raiseBad (s : State) (ws : List Nat) (core : Option Nat) : State :=
  ws.foldl (fun s w =>
    let c : Code := if s.protectedWord w then .memLost else .memUncorrectable
    match core with
    | some k => s.raise c k (stackOf (w * 32))
    | none => s.raiseIn c none (stackOf (w * 32))) s

/-- A path checker of a hub transfer, a die-to-die link or an internal DMA engine failed (R353). -/
def State.pathCheck (s : State) (bad : Bool) : State := if bad then s.raiseIn .xferCheck none else s

/-- A module memory read by a unit: the bytes, and the state with the codes of uncorrectable words raised. -/
def State.readMem (s : State) (a n : Nat) (core : Option Nat) : List Byte × State :=
  (s.load a n, s.raiseBad (s.badIn a n) core)

/-- A module memory write by a unit, with the codes that partial writes of uncorrectable words raise (R353). -/
def State.writeMem (s : State) (a : Nat) (bs : List Byte) (core : Option Nat) : State :=
  let part := (s.badIn a bs.length).filter fun w => !(decide (a ≤ w * 32) && decide (w * 32 + 32 ≤ a + bs.length))
  (s.store a bs).raiseBad part core

end Sys2Proof.Machine
end

