-- ==== Sys2Proof/Machine/Layout.lean ====
section
/-! DEFINITION. How a tensor lies in a ledger page (R245, R246, R255), and the block that a byte of a cell image belongs
to. -/

namespace Sys2Proof.Machine

/-! ### Ledger layout (R244 to R246, R280) -/

/-- Blocks of a tensor. -/
def Tensor.blocks (t : Tensor) : Nat := t.elements / 32

/-- A STATIC tensor (R245). -/
def Tensor.isStatic (t : Tensor) : Bool := t.kind = 2

/-- Offsets of a block's cell image and of its scale (R246). -/
def Tensor.cellAt (t : Tensor) (b : Nat) : Nat :=
  if t.kind = 1 then t.cell + 34816 * (b / 2048) + 16 * (b % 2048) else t.cell + 16 * b
def Tensor.cellScaleAt (t : Tensor) (b : Nat) : Nat :=
  if t.kind = 1 then t.cell + 34816 * (b / 2048) + 32768 + b % 2048 else t.cell + 16 * t.blocks + b

/-- Offset and top format of moment `m` (R246, R255). -/
def Tensor.momentAt (t : Tensor) (m b : Nat) : Nat := (if m = 0 then t.m1 else t.m2) + 32 * b
def Tensor.momentScaleAt (t : Tensor) (m b : Nat) : Nat := t.mscale + 2 * b + m
def momentFmt (m : Nat) : Fmt := if m = 0 then .int8 else .uint8

/-- The block of tensor `t` whose 16 cell-image bytes start at page offset `off`, if any (R246). -/
def Tensor.cellBlock (t : Tensor) (off : Nat) : Option Nat :=
  if off < t.cell then none else
  let r := off - t.cell
  let b := if t.kind = 1 then 2048 * (r / 34816) + r % 34816 / 16 else r / 16
  if b < t.blocks ∧ t.cellAt b = off then some b else none

end Sys2Proof.Machine
end

