-- ==== Sys2Proof/Machine/Glacier.lean ====
section
/-! DEFINITION. The larder, core accesses to module memory (R19, R208, R247), and the glacier accumulators (R140 to R157):
placing terms, budgets and tags, opening and clearing tiles, drained values. -/

namespace Sys2Proof.Machine

/-- Bytes of a larder (R23). -/
def larderSize : Nat := 524288

/-- A larder range inside the larder. -/
def inLarder (a n : Nat) : Bool := a + n ≤ larderSize

/-- Base of a region of R208: the committed or uncommitted page, the batch slot, or 0. -/
def State.regionBase (s : State) (r : Nat) : Nat :=
  match r with
  | 1 => if s.ledger.page = 0 then s.ledger.base0 else s.ledger.base1
  | 2 => if s.ledger.page = 0 then s.ledger.base1 else s.ledger.base0
  | 3 => s.job.batchBase
  | _ => 0

/-- Base of the committed page. -/
def State.committed (s : State) : Nat := s.regionBase 1

/-- Base of the uncommitted page. -/
def State.uncommitted (s : State) : Nat := s.regionBase 2

/-- Effective address of a memory field (R208). -/
def State.effAddr (s : State) (m : MemAddr) : Nat := s.regionBase m.region + m.offset

/-- Does a range meet the span of a ledger page (R243, R247)? -/
def State.inPages (s : State) (a n : Nat) : Bool :=
  s.ledger.loaded && n ≠ 0 &&
  ((s.ledger.base0 < a + n && a < s.ledger.base0 + s.ledger.span) ||
   (s.ledger.base1 < a + n && a < s.ledger.base1 + s.ledger.span))

/-- The fault a core's write of `n` bytes at `a` raises, if any. -/
def State.writeFault (s : State) (a n : Nat) : Option Code :=
  if !mappedRange a n then some .memUnmapped else if s.inPages a n then some .ledgerProtect else none

/-- Rows of equal size at a pitch: the addresses a LOAD or STORE touches. -/
def rowAddrs (base pitch rows : Nat) : List Nat := (List.range rows).map fun i => base + i * pitch

/-! ### Tiles -/

/-- Tile 0 or 1 of a core. -/
def Core.tile (k : Core) (t : Nat) : Tile := if t = 0 then k.ga0 else k.ga1

/-- Replace a tile. -/
def Core.setTile (k : Core) (t : Nat) (x : Tile) : Core := if t = 0 then { k with ga0 := x } else { k with ga1 := x }

/-- A term on the tile's grid (R143): the integer at bit 0, and whether bits were lost below it. -/
def placeTerm (v w anchor : Int) : Int × Bool :=
  let sh := w - (anchor - 342)
  if 0 ≤ sh then (v * 2 ^ sh.toNat, false)
  else
    let d := 2 ^ (-sh).toNat
    (v / d, v % d ≠ 0)

/-- What a placed term adds to the budget (R145). -/
def budgetOf (p : Int) : Nat :=
  if p = 0 then 0 else
  let t := Nat.log2 p.natAbs
  if t ≤ 102 then 1 else if 127 < t then 2 ^ 24 + 1 else 2 ^ (t - 102)

/-- Add a placed term to an element (R140, R145, R159). -/
def Elem.add (e : Elem) (p : Int) : Elem :=
  let b := min (2 ^ 24 + 1) (e.budget + budgetOf p)
  { val := e.val + BitVec.ofInt 128 p, residue := ((e.residue : Int) + p % 7).toNat % 7, budget := b
    tag := e.tag || decide (2 ^ 24 < b) }

/-- A term for a tile: element index, integer, weight of its least significant bit. -/
structure Term where
  idx : Nat
  v : Int
  w : Int
  deriving DecidableEq, Repr

/-- Add one term to a tile: the tile, the count of terms that lost bits, whether an element became tagged. -/
def Tile.addTerm (anchor : Int) (x : Tile × Nat × Bool) (t : Term) : Tile × Nat × Bool :=
  let (p, lost) := placeTerm t.v t.w anchor
  let e := x.1.elems.get t.idx {}
  let e' := e.add p
  ({ x.1 with
      elems := if t.v = 0 then x.1.elems else x.1.elems.put t.idx e'
      loss := satAdd 0xFFFFFFFF x.1.loss (b2n lost) }, x.2.1 + b2n lost, x.2.2 || (e'.tag && !e.tag))

/-- The layer an entry's statistics belong to: the manual gives no map (DESIGN CHOICE, assumption 13). -/
def layerOfEntry (core no : Nat) : Nat := Config.layerOfEntry core no

/-- Count in a layer statistic, saturating at 2^32 - 1. -/
def layerCount (m : SMap Nat) (layer n : Nat) : SMap Nat :=
  if n = 0 then m else m.put layer (satAdd 0xFFFFFFFF (m.get layer 0) n)

/-- An element of a tile became tagged (R145, R146): the first one of the attempt gives the STATUS record its place. -/
def State.headroom (s : State) (c t : Nat) : State :=
  { (s.fset .GLACIER_STATUS_HEADROOM_OVF 1 c t).countCode .headroomOvf with
    stats := { s.stats with headroomAt := s.stats.headroomAt.or (some (c, t)) } }

/-- Add terms to a core's tile at an anchor, with the counts of R143 and R145. -/
def State.addTerms (s : State) (c t : Nat) (anchor : Int) (layer : Nat) (ts : List Term) : State :=
  let (x, n, tagged) := ts.foldl (Tile.addTerm anchor) ((s.core c).tile t, 0, false)
  let s := s.modCore c (·.setTile t x)
  let s := s.fcount .GLACIER_COUNT_LOSS_TERMS n c t
  let s := if n = 0 then s else
    { (s.fset .GLACIER_STATUS_WINDOW_LOSS 1 c t).countCode .windowLoss n with
      stats := { s.stats with windowLoss := layerCount s.stats.windowLoss layer n } }
  if tagged then s.headroom c t else s

/-- Tag one element without adding (R157, R189). -/
def State.tagElem (s : State) (c t i : Nat) : State :=
  let x := (s.core c).tile t
  let e := x.elems.get i {}
  (s.modCore c (·.setTile t { x with elems := x.elems.put i { e with tag := true } })).headroom c t

/-- The state of a tile (R147). -/
def State.tileState (s : State) (c t : Nat) : Nat := s.fget .GLACIER_STATUS_STATE c t

/-- A tile conflict (R150): the first reason is kept, the core halts. -/
def State.conflict (s : State) (c t reason no : Nat) : State :=
  let s := if s.fget .GLACIER_STATUS_CONFLICT_REASON c t = 0 then s.fset .GLACIER_STATUS_CONFLICT_REASON reason c t else s
  s.halt .tileConflict c no

/-- The conflict of an accumulating entry on a tile (R148, R150), if any. `full`: a full-width add. -/
def State.accumConflict (s : State) (c t : Nat) (start : Bool) (anchor : Int) (pc : Nat) : Option Nat :=
  match s.tileState c t with
  | 0 => if start then none else some 2
  | 1 =>
    if start then some 1
    else if s.fgetS .GLACIER_STATUS_ANCHOR c t ≠ anchor ∨ s.fget .GLACIER_STATUS_PAIR_CLASS c t ≠ pc then some 4
    else none
  | _ => if start then some 1 else some 3

/-- An accumulating entry opens or continues its tile (R148). -/
def State.openTile (s : State) (c t : Nat) (start : Bool) (anchor : Int) (pc : Nat) : State :=
  if start then
    let s := s.modCore c (·.setTile t {})
    ((s.fset .GLACIER_STATUS_STATE 1 c t).fsetS .GLACIER_STATUS_ANCHOR anchor c t).fset .GLACIER_STATUS_PAIR_CLASS pc c t
  else s

/-- A tile becomes FREE: every element, residue and budget zero (R147). -/
def State.freeTile (s : State) (c t : Nat) : State :=
  (s.modCore c (·.setTile t {})).fset .GLACIER_STATUS_STATE 0 c t

/-! ### Drained elements (R153, R154) -/

/-- The exact value of an element at an anchor; an element of value zero is +0. -/
def Elem.value (e : Elem) (anchor : Int) : XVal := .fin (e.val.toInt < 0) e.val.toInt.natAbs (anchor - 342)

/-- The largest finite magnitude of a wide format, with a sign. -/
def wideMax (f : FpFmt) (neg : Bool) : XVal := .fin neg (2 ^ (f.fbits + 1) - 1) (f.emax - f.fbits)

/-- An element as an FP32 lane (VECTOR and TILE, R153): rounded once; a tagged one drains as the largest finite value
and sets OF. -/
def Elem.lane32 (e : Elem) (anchor : Int) : Word × VFlags :=
  if e.tag then (toLane (wideMax fp32 e.val.msb), { ov := true }) else roundLane (e.value anchor)

/-! ### Full-width records (R156) -/

/-- The stored bytes of an element in a record: a tagged one as ±(2^127 − 1). -/
def Elem.recordBytes (e : Elem) : List Byte :=
  if e.tag then bytesOf 16 (wrap 128 (if e.val.msb then -(2 ^ 127 - 1) else 2 ^ 127 - 1))
  else bytesOf 16 e.val.toNat

/-- The 16-byte descriptor of a record (R156). -/
def recordDesc (anchor : Int) (pc ovf loss : Nat) : List Byte :=
  List.flatten [bytesOf 2 (wrap 16 anchor), bytesOf 1 pc, bytesOf 1 (b2n (ovf ≠ 0) + 2 * b2n (loss ≠ 0)), bytesOf 4 ovf,
    bytesOf 4 loss, bytesOf 4 0]

end Sys2Proof.Machine
end

