-- ==== Sys2Proof/Machine/Clocks.lean ====
section
/-! DEFINITION. Clock domains and the crossings between them (R456 to R462): which clocks a command needs, what waits for a
stopped clock, and events that are merged. -/

namespace Sys2Proof.Machine

/-! ### Clocks (R456, R471): PLLs are numbered as in CLK_STATUS -/

/-- Number beyond the PLLs that stands for the firmware: a DOE request waits while it is away (R485). -/
def firmwareAway : Pll := 27

/-- Every one of these clocks runs. -/
def State.runs (s : State) (ps : List Pll) : Bool :=
  ps.all fun p => if p = firmwareAway then s.fon .WIN_STATUS_AVAILABLE else !s.startup.offPlls.contains p

/-- CCLK of a core's die, and with it the die's ATCLK. -/
def dieClk (core : Nat) : List Pll := [core / 1024]
def arrayClk (core : Nat) : List Pll := [core / 1024, 5 + core / 1024]

/-- CCLK of the hub, alone, for the host behind PCLK, and for the firmware behind MCLK. -/
def hubClk : List Pll := [4]
def hostClk : List Pll := [25, 4]
def firmClk : List Pll := [26, 4]

/-- The PHY clocks of every stack, and of the stacks that hold a range (R18). -/
def phyClk : List Pll := (List.range 16).map (9 + ·)
def stackClk (a n : Nat) : List Pll :=
  if n = 0 then [] else (List.range (min 16 (ceilDiv (a % 4096 + n) 4096))).map fun i => 9 + stackOf (a + 4096 * i) % 16

/-- Clocks between a dictionary path and the firmware. -/
def pathClk : DPath → List Pll
  | .window => hostClk
  | .fabric _ => hubClk
  | .mctp _ => []

/-- Clocks that a dictionary command needs which acts on the hub. -/
def actClk : DPath → List Pll
  | .window => hostClk
  | _ => hubClk

/-- Clocks between an SPDM transport and the firmware, and its own. -/
def spdmClk : Transport → List Pll
  | .doe => 25 :: firmwareAway :: firmClk
  | .mctp => [26]

/-- Clocks that one side of a host mailbox needs. -/
def sideClk (fw : Bool) : List Pll := if fw then firmClk else hostClk

/-- Clocks that an access of a register needs: the host's or the firmware's, and the die's. -/
def secClk (sec : Sec) (inst : Nat) : List Pll :=
  match sec with
  | .array => arrayClk inst ++ firmClk
  | .engine | .vector | .seq | .watch => dieClk inst ++ firmClk
  | .hk => [26]
  | .host | .mbHost | .dma | .win => hostClk
  | .update | .exch | .fabric | .recovery | .clock | .power | .gu | .mbFw => firmClk

/-- The clocks that a command needs (R456). Timetable entries need none here: the sequencer issues them, and does not while
its clock is stopped. Pins, resets, rails, PLLs and converters run on HCLK, which never stops. A command that reads or
writes module memory at places that it does not name waits for every stack. (DESIGN CHOICE, assumption 67.) -/
def State.clocksOf (s : State) : Instr → List Pll
  | .load _ _ _ | .store _ _ _ | .stash _ _ _ | .unstash _ _ _ | .arrayMvm _ _ _ | .arrayWriteFull _ _ _
  | .arrayWriteDelta _ _ _ | .matmul _ _ _ | .fwadd _ _ _ | .drainNarrow _ _ _ | .drainWide _ _ _ | .drainVector _ _ _
  | .drainFull _ _ _ | .vstream _ _ _ | .send _ _ _ | .recv _ _ _ | .route _ _ _ | .ret _ _ _ | .waitToken _ _ _
  | .signal _ _ _ | .fence _ _ _ | .anchorSet _ _ _ | .anchorScales _ _ _ | .anchorDescs _ _ _ | .nop _ _
  | .commitPoint _ _ => []
  | .entryComplete c u _ _ => dieClk c ++ (if u = 0 then phyClk else [])
  | .tokenTimeout c | .vMov c _ | .vAdd c _ | .vSub c _ | .vMul c _ | .vFma c _ | .vMax c _ | .vMin c _ | .vAbs c _
  | .vNeg c _ | .vScale c _ | .vFunc c _ | .vCmp c _ | .vSel c _ | .vCvti c _ | .vCvtf c _ | .vIadd c _ | .vIsub c _
  | .vImul c _ | .vAnd c _ | .vOr c _ | .vXor c _ | .vShl c _ | .vShra c _ | .vShrl c _ | .vImax c _ | .vImin c _
  | .vIcmp c _ | .vPerm c _ | .rsum c _ | .rprod c _ | .rmax c _ | .rmin c _ | .rargmax c _ | .rargmin c _ | .rand c _
  | .ror c _ | .rxor c _ | .risum c _ | .rimax c _ | .rimin c _ | .mwadd c _ | .codeTermAdd c _ | .fixup c
  | .watchRecompute c => dieClk c
  | .readoutConversion c _ _ => [5 + c / 1024]
  | .slotGrant c _ _ | .bankLoadingStart c _ | .rowWrite c _ _ _ | .arrayWriteEnd c _ | .creepScanPass c _
  | .creepRowRead c _ _ | .refreshPulse c _ _ | .calibrationPassStart c _ | .retentionAgeTick c _ | .calStarved c _
  | .calEnClear c => arrayClk c
  | .trimBoundary => []
  | .doorbellStart | .bucketPeakReduce _ | .bucketPeakFinal _ | .exchangeTimeout | .updAdd _ _ | .updSub _ _ | .updMul _ _
  | .updFma _ _ | .updFunc _ _ | .updMax _ _ | .updMin _ _ | .normTotalTimeout | .commitCheck | .commitUp _ _
  | .commitDown _ | .normUp _ _ | .normDown _ | .phase7End | .voteLost | .retirementWritesEnd | .earlyStopVote => hubClk
  | .exchangeStart _ | .bucketReduce _ | .bucketFinal _ | .updateProgramRun _ _ _ | .noneGroupCopy _ _ | .holdAreaWrite _ _
  | .ldg _ _ | .ldw _ _ | .ldm _ _ | .stw _ _ | .stm _ _ | .sti _ _ | .ledgerLoadComplete | .timetableLoadComplete
  | .messageDeliver _ _ | .caravanOutbound _ | .caravanReturn _ => hubClk ++ phyClk
  | .holdRequest p _ | .voteResolveCommit p | .voteResolveRefuse p | .ledgerLoadAsIs p | .ledgerLoadRebuildCells p
  | .ledgerLoadFresh p | .timetableLoad p | .reductionLoad p | .ringLoad p | .itineraryLoad p | .routingTableWrite p _
  | .scaleHistoryReset p | .exchangeHistoryReset p | .fabricAddressWrite p _ | .fabricPortEnable p _
  | .spareRequestAssign p _ _ | .spareRequestRelease p _ => actClk p
  | .stepDoorbell _ => hostClk
  | .codewordReceive _ _ | .codewordLockLoss _ | .laneTrainingStart _ | .laneTrainingEnd _ _ | .bondRetrain _ _
  | .frameTransmit _ | .frameForward _ _ | .frameReceive _ _ | .frameLoss _ _ | .connOpen _ _ | .connOpenAck _ _ _
  | .connRefused _ | .connClose _ | .connCloseAck _ | .connCredit _ _ _ | .openRetryTimeout _ | .contextIdleClose _
  | .closingTimeout _ | .creditReturnTimer _ _ | .identify _ _ | .identifyReply _ _ | .spareSubstitution
  | .mailboxMessage _ _ _ _ _ _ | .mailboxTaken _ _ | .guItemBegin _ | .guItemEnd _ => hubClk
  | .fabricRefLoss | .fabricRefReturn => []
  | .fmbTxData _ _ | .fmbTxBell _ _ | .fmbRxData _ | .fmbTxAbort _ | .guStart _ _ | .guStop _ | .guResultLo _ => firmClk
  | .bar2Read offset len => hostClk ++ stackClk (s.fget .APERTURE_BASE_BASE_GIB * 2 ^ 30 + offset) len
  | .bar2Write offset data => hostClk ++ stackClk (s.fget .APERTURE_BASE_BASE_GIB * 2 ^ 30 + offset) data.length
  | .dmaDescriptorComplete _ _ _ => hostClk ++ phyClk
  | .bar0Unsupported _ _ _ | .dmaTail _ _ | .dmaDescriptorStart _ _ | .dmaReset _ | .winGo => hostClk
  | .mbTxData fw _ _ | .mbTxBell fw _ _ | .mbRxHead fw _ | .mbRxAck fw _ | .mbTxAbort fw _ => sideClk fw
  | .dictRead q | .dictWrite q | .dictInfo q => pathClk q.path
  | .storeConfig p | .restoreDefaults p | .mgmtRestart p | .marginReplanRequest p | .moduleReset p | .firmwareUpdate p _
  | .firmwareActivate p _ | .rollbackCommit p => pathClk p
  | .stagingSlotTimeout _ | .storeComplete _ | .watchdogExpiry | .mgmtEccDouble | .firmwareFaultTrap | .mgmtResume
  | .marginReplanPeriod | .marginReplanApply _ | .hkResultRead _ _ => [26]
  | .recoveryAreaPoll | .firmwareUpdateComplete _ => 26 :: phyClk
  | .mctpDictionaryMessage _ _ _ _ _ | .logbookI3cRead _ | .mgmtRstPin | .surveyEntryEnd _ _ | .regAlarm _ | .thermal _
  | .burstSw _ | .burstEntryEnd _ _ | .selfcalReq _ | .selfcalPeriod | .selfcalStart _ | .selfcalEnd _ _ _ => []
  | .readClearRegister sec inst _ | .registerWrite sec inst _ _ => secClk sec inst
  | .functionLevelReset | .d3hotEntry | .linkUp _ _ _ | .ideIntegrityFailure _ | .d0Entry => [25]
  | .ideKm _ _ => spdmClk .doe
  | .perstAssert | .hotReset | .linkDown | .modRstPin | .powerInputInRange | .undervoltage | .overvoltage
  | .criticalTemperature _ | .railOutOfRegulation _ | .powerLimitEvaluation _ | .thermalLevelTick _ | .pllLockLoss _
  | .pllRelock _ | .clockFail _ | .startupTimeout | .powerLoss | .perstRelease | .thermalClear _ | .regAlarmClear _
  | .dynamicAddressAssignment _ | .endpointIdAssignment _ => []
  | .bootComplete _ | .configComplete _ | .discoveryComplete _ => firmClk
  | .selftestComplete _ _ => (List.range 25) ++ [26]
  | .getVersion t | .getCapabilities t | .negotiateAlgorithms t _ | .getDigests t _ | .getCertificate t _ _ _
  | .challenge t _ _ | .getMeasurements t _ _ | .keyExchange t _ | .finish t _ | .heartbeat t _ | .keyUpdate t _
  | .endSession t _ => spdmClk t

/-! ### Holding (R458, R460) -/

/-- A command waits in the crossing before a stopped clock. -/
def State.hold (s : State) (i : Instr) : State :=
  { s with startup := { s.startup with held := s.startup.held ++ [(s.clocksOf i, i)] } }

/-- These clocks run, and nothing waits in the crossing before them. -/
def State.flows (s : State) (ps : List Pll) : Bool :=
  s.runs ps && (s.startup.letting || !s.startup.held.any fun h => h.1 == ps)

/-- A command crosses: its clocks run, and nothing waits before it in its crossing. -/
def State.crosses (s : State) (i : Instr) : Bool := s.flows (s.clocksOf i)

/-- A command acts where its clocks run, in the order of its crossing; it waits where one of them is stopped, neither
dropped nor timed out (R460). -/
def State.clocked (s : State) (i : Instr) (o : Out) : Out := if s.crosses i then o else .next (s.hold i)

/-- A reset flushes what waits to cross into or out of a clock (R460), and its events in flight. -/
def State.flush (s : State) (p : Pll) : State :=
  { s with startup := { s.startup with
    held := s.startup.held.filter fun h => !h.1.contains p
    inFlight := s.startup.inFlight.filter fun e => e.1 ≠ p } }

/-- The first command that waits and whose clocks run again, and the others. -/
def State.released (s : State) : Option (Instr × List (List Nat × Instr)) :=
  match s.startup.held.find? fun h => s.runs h.1 with
  | some h => some (h.2, s.startup.held.erase h)
  | none => none

/-! ### Events (R462) -/

/-- `n` events are merged into one of their crossing X(10 + x) that is still in flight (R462, R471). -/
def State.merge (s : State) (x n : Nat) : State :=
  let s := s.setRword .clock 0 8 (s.rword .clock 0 8 ||| 2 ^ x)
  { s.fcount .XING_OVERRUN_OVERRUN_COUNT n with startup := { s.startup with merged := satAdd 0xFFFFFFFF s.startup.merged n } }

/-- An event `src` crosses into clock `p` by X(10 + x): while the clock is stopped it stays in flight, and a further one is
merged into it. (DESIGN CHOICE, assumption 115.) -/
def State.event (s : State) (p x src : Nat) (f : State → State) : State :=
  if s.runs [p] then f s
  else if (p, src) ∈ s.startup.inFlight then s.merge x 1
  else { s with startup := { s.startup with inFlight := s.startup.inFlight ++ [(p, src)] } }

/-- The events that a clock's return lets through. -/
def State.arrived (s : State) (p : Pll) : List Nat × State :=
  ((s.startup.inFlight.filter (·.1 = p)).map (·.2),
   { s with startup := { s.startup with inFlight := s.startup.inFlight.filter (·.1 ≠ p) } })

end Sys2Proof.Machine
end

