-- ==== Sys2Proof/Machine/Functions.lean ====
section
/-! DEFINITION. The functions of R175 whose accuracy is a bound: RSQRT, EXP2 and LOG2 within 1 ulp, TANH, SIGMOID and ERF
within 2. Each value is worked out to 400 fraction bits; which of the FP32 numbers inside the bound the hardware gives is a
free function of the operand (DESIGN CHOICE, assumption 12). -/

namespace Sys2Proof.Machine

/-! ### Fixed point with 400 fraction bits -/

/-- One. -/
def fxOne : Int := 2 ^ 400

/-- The product, rounded down. -/
def fxMul (a b : Int) : Int := a * b / 2 ^ 400

/-- The quotient, rounded down. -/
def fxDiv (a b : Int) : Int := a * 2 ^ 400 / b

/-- ln 2. -/
def fxLn2 : Int := 0xb17217f7d1cf79abc9e3b39803f2f6af40f343267298b62d8a0d175b8baafa2be7b876206debac98559552fb4afa1b10ed2e

/-- 2 over the square root of pi. -/
def fxErf : Int := 0x120dd750429b6d11ae3a914fed7fd8688281341d7587cea2e7342b06199cc416180eb39f0b24e1e2281806c12d98f35d77a3e

/-- A finite number in fixed point, rounded down. -/
def fxOf (neg : Bool) (m : Nat) (e : Int) : Int :=
  let v : Int := if neg then -(m : Int) else m
  if 0 ≤ e + 400 then v * 2 ^ (e + 400).toNat else v / 2 ^ (-(e + 400)).toNat

/-- A value times 2^k, rounded down. -/
def fxShift (v k : Int) : Int := if 0 ≤ k then v * 2 ^ k.toNat else v / 2 ^ (-k).toNat

/-- The exponential series: the sum of y^n / n! from term `n` on, to a number of terms. -/
def expSum (y : Int) : Nat → Nat → Int → Int
  | 0, _, _ => 0
  | k + 1, n, t => t + expSum y k (n + 1) (fxMul t y / (n + 1))

/-- The series of the logarithm, 2 atanh z: the sum of z^(2n+1) / (2n+1). -/
def atanhSum (zz : Int) : Nat → Nat → Int → Int
  | 0, _, _ => 0
  | k + 1, n, t => t / (2 * n + 1) + atanhSum zz k (n + 1) (fxMul t zz)

/-- The series of the error function: the sum of (−1)^n x^(2n+1) / (n! (2n+1)). -/
def erfSum (xx : Int) : Nat → Nat → Int → Int
  | 0, _, _ => 0
  | k + 1, n, t => t / (2 * n + 1) + erfSum xx k (n + 1) (-(fxMul t xx) / (n + 1))

/-- 2^t: a number of 1 up to 2 in fixed point, and the power of two that it is multiplied by. -/
def fxExp2 (t : Int) : Int × Int := (expSum (fxMul (t % fxOne) fxLn2) 100 0 fxOne, t / fxOne)

/-- log2 of a number of 1 up to 2. -/
def fxLog2 (v : Int) : Int := fxDiv (2 * atanhSum (let z := fxDiv (v - fxOne) (v + fxOne); fxMul z z) 140 0
  (fxDiv (v - fxOne) (v + fxOne))) fxLn2

/-! ### FP32 numbers near a value -/

/-- The FP32 at or just below a positive value, as bits: truncation. -/
def truncLane (m : Nat) (e : Int) : Word :=
  let l : Int := (Nat.log2 m : Int) + e
  let q : Int := max l (-126) - 23
  toLane (.fin false (if q ≤ e then m * 2 ^ (e - q).toNat else m >>> (q - e).toNat) q)

/-- The number that non-negative FP32 bits stand for; the bits of infinity stand for 2^128, the next one up. -/
def bitsVal (c : Nat) : Dy := if c < 2 ^ 23 then ⟨c, -149⟩ else ⟨2 ^ 23 + c % 2 ^ 23, (c / 2 ^ 23 : Nat) - 150⟩

/-- FP32 bits lie within `u` ulp of m × 2^e, an ulp being the spacing of FP32 there. -/
def withinUlp (u m : Nat) (e : Int) (c : Nat) : Bool :=
  let l : Int := if m = 0 then -126 else (Nat.log2 m : Int) + e
  c ≤ 0x7F800000 && !(Dy.mk u (max l (-126) - 23)).lt ((bitsVal c).add (Dy.mk m e).neg).abs

/-- One of the FP32 numbers within `u` ulp of m × 2^e: which of them is free. -/
def nearLane (sub u m : Nat) (e : Int) (a : Word) : Word :=
  let lo := if m = 0 then 0 else (truncLane m e).toNat
  let c := lo + (Config.func sub a).toNat % 7
  if 4 ≤ c ∧ withinUlp u m e (c - 4) = true then word (c - 4) else word lo

/-- The flags of an inexact result. -/
def nearFlags (w : Word) (inexact : Bool) : VFlags :=
  { nx := inexact, ov := w = 0x7F800000, uf := inexact && w < 0x00800000 }

/-! ### The values -/

/-- 1 over the square root of m × 2^e, m not 0: the magnitude, and whether it is exact. -/
def rsqrtVal (m : Nat) (e : Int) : Nat × Int × Bool :=
  let (m, e) := if e % 2 = 0 then (m, e) else (2 * m, e - 1)
  let s := isqrt (2 ^ 800 / m)
  (s, -400 - e / 2, s * s * m = 2 ^ 800)

/-- 2^x. -/
def exp2Val (neg : Bool) (m : Nat) (e : Int) : Nat × Int :=
  let (v, k) := fxExp2 (fxOf neg m e)
  (v.toNat, k - 400)

/-- log2 of a positive number, with its sign. -/
def log2Val (m : Nat) (e : Int) : Int :=
  let l : Int := (Nat.log2 m : Int) + e
  l * fxOne + fxLog2 (fxOf false m (-(Nat.log2 m : Int)))

/-- exp(−x) for 0 ≤ x: a number of 1 up to 2, and the power of two that it is multiplied by. -/
def expNeg (x : Int) : Int × Int := fxExp2 (-(fxDiv x fxLn2))

/-- Just below one. -/
def nearOne : Nat × Int := (2 ^ 400 - 1, -400)

/-- tanh of a magnitude. -/
def tanhVal (m : Nat) (e : Int) : Nat × Int :=
  if m ≠ 0 ∧ 6 < (Nat.log2 m : Int) + e then nearOne else
  let (v, k) := expNeg (2 * fxOf false m e)
  let x := fxShift v k
  ((fxDiv (fxOne - x) (fxOne + x)).toNat, -400)

/-- 1 / (1 + exp(−x)). -/
def sigmoidVal (neg : Bool) (m : Nat) (e : Int) : Nat × Int :=
  if m ≠ 0 ∧ 7 < (Nat.log2 m : Int) + e then (if neg then (1, -400) else nearOne) else
  let (v, k) := expNeg (fxOf false m e)
  let x := fxShift v k
  if neg then ((fxDiv v (fxOne + x)).toNat, k - 400) else ((fxDiv fxOne (fxOne + x)).toNat, -400)

/-- erf of a magnitude. -/
def erfVal (m : Nat) (e : Int) : Nat × Int :=
  if m ≠ 0 ∧ 2 < (Nat.log2 m : Int) + e then nearOne else
  let x := fxOf false m e
  ((fxMul (erfSum (fxMul x x) 420 0 x) fxErf).toNat, -400)

end Sys2Proof.Machine
end

