-- ==== Sys2Proof/Machine/Vector.lean ====
section
/-! DEFINITION. The stages of the streaming vector engine (R173 to R187): lane arithmetic, functions, masks, latches,
permutations and reductions, as functions of the pipeline between stages. -/

namespace Sys2Proof.Machine

/-! ### FP32 lane arithmetic (R174) -/

/-- Round an exact result to a lane, with the flags of both. -/
def finish (r : XVal × VFlags) : Word × VFlags :=
  let (w, f) := roundLane r.1
  (w, r.2.or f)

def fAdd (a b : Word) : Word × VFlags := finish ((lane a).add (lane b))
def fSub (a b : Word) : Word × VFlags :=
  match lane b with
  | .nan s => let (v, f) := (lane a).add (.nan s); finish (v, f)
  | v => finish ((lane a).add v.neg)
def fMul (a b : Word) : Word × VFlags := finish ((lane a).mul (lane b))
/-- A × B + C, rounded once. -/
def fFma (a b c : Word) : Word × VFlags :=
  let (p, f) := (lane a).mul (lane b)
  let (v, g) := p.add (lane c)
  let (w, h) := roundLane v
  (w, ({ nv := f.nv || g.nv || (lane c).isSnan } : VFlags).or h)

/-- The quiet NaN of R37. -/
def qnan : Word := word 0x7FC00000

/-- Order of MAX and MIN: −0 counts as below +0 (R174). -/
def belowMax (a b : XVal) : Bool := a.cmpLt b || (a.isZero && b.isZero && a.sign && !b.sign)

/-- MAX and MIN: a NaN gives NaN, the left operand is kept when equal. -/
def fMax (a b : Word) : Word × VFlags :=
  let x := lane a
  let y := lane b
  if x.isNan || y.isNan then (qnan, { nv := x.isSnan || y.isSnan })
  else (if belowMax x y then b else a, {})
def fMin (a b : Word) : Word × VFlags :=
  let x := lane a
  let y := lane b
  if x.isNan || y.isNan then (qnan, { nv := x.isSnan || y.isSnan })
  else (if belowMax y x then b else a, {})

def fAbs (a : Word) : Word := a &&& 0x7FFFFFFF
def fNeg (a : Word) : Word := a ^^^ 0x80000000
/-- A × 2^B, rounded once; a signalling NaN sets NV under R179 (DEDUCED, assumption 18). -/
def fScale (a b : Word) : Word × VFlags := finish ((lane a).shift (laneInt b), { nv := (lane a).isSnan })

/-- The condition codes of R174 on values. -/
def condF (sub : Nat) (a b : XVal) : Bool :=
  let un := a.isNan || b.isNan
  let lt := a.cmpLt b
  let gt := b.cmpLt a
  match sub with
  | 0 => !un && !lt && !gt
  | 1 => un || lt || gt
  | 2 => !un && lt
  | 3 => !un && !gt
  | 4 => !un && gt
  | 5 => !un && !lt
  | 6 => un
  | _ => !un

/-- The signed conditions of ICMP. -/
def condI (sub : Nat) (a b : Int) : Bool :=
  match sub with
  | 0 => a = b | 1 => a ≠ b | 2 => a < b | 3 => a ≤ b | 4 => a > b | _ => a ≥ b

/-- CVTI: rounded to INT32 by R41, saturating, NaN to 0. -/
def cvti (a : Word) : Word × VFlags :=
  match lane a with
  | .nan _ => (0, { nv := true })
  | .inf n => (intLane (if n then -2147483648 else 2147483647), { nv := true })
  | .fin n m e =>
    if m ≠ 0 ∧ 40 < (Nat.log2 m : Int) + e then (intLane (if n then -2147483648 else 2147483647), { nv := true }) else
    let (v, ix) := rneInt m e n
    let (w, o) := satInt32 v
    (intLane w, { nv := o, nx := ix && !o })

/-- CVTF: INT32 to FP32 by R41. -/
def cvtf (a : Word) : Word × VFlags := roundLane (.fin (laneInt a < 0) (laneInt a).natAbs 0)

/-! ### Functions (R175) -/

def fSqrt (a : Word) : Word × VFlags :=
  match lane a with
  | .nan s => (qnan, { nv := s })
  | .inf n => if n then (qnan, { nv := true }) else (a, {})
  | .fin n m e =>
    if m = 0 then (a, {}) else if n then (qnan, { nv := true }) else
    let (r, q) := sqrtSticky m e
    roundLane (.fin false r q)

def fRcp (a : Word) : Word × VFlags :=
  match lane a with
  | .nan s => (qnan, { nv := s })
  | .inf n => (toLane (.fin n 0 0), {})
  | .fin n m e =>
    if m = 0 then (toLane (.inf n), { dz := true }) else
    let (r, q) := divSticky 1 0 m e
    roundLane (.fin n r q)

/-- Correctly rounded quotient of two lanes, for R266. -/
def fDiv (a b : Word) : Word × VFlags :=
  match lane a, lane b with
  | .fin n m e, .fin n' m' e' =>
    if m' = 0 then (toLane (.inf (n != n')), { dz := true }) else if m = 0 then (toLane (.fin (n != n') 0 0), {}) else
    let (r, q) := divSticky m e m' e'
    roundLane (.fin (n != n') r q)
  | .fin n _ _, .inf n' => (toLane (.fin (n != n') 0 0), {})
  | _, _ => (qnan, { nv := true })

/-- RSQRT: within 1 ulp of the exact value. -/
def fRsqrt (a : Word) : Word × VFlags :=
  match lane a with
  | .nan s => (qnan, { nv := s })
  | .inf n => if n then (qnan, { nv := true }) else (0, {})
  | .fin n m e =>
    if m = 0 then (toLane (.inf n), { dz := true }) else if n then (qnan, { nv := true }) else
    let (v, p, exact) := rsqrtVal m e
    let w := nearLane 2 1 v p a
    (w, { nx := !(exact && w = truncLane v p) })

/-- The value is an integer. -/
def isInteger (m : Nat) (e : Int) : Bool := 0 ≤ e || m % 2 ^ (-e).toNat = 0

/-- EXP2: exact at integers, within 1 ulp elsewhere. -/
def fExp2 (a : Word) : Word × VFlags :=
  match lane a with
  | .nan s => (qnan, { nv := s })
  | .inf n => (if n then 0 else a, {})
  | .fin n m e =>
    if m ≠ 0 ∧ 10 < (Nat.log2 m : Int) + e then
      (if n then 0 else toLane (.inf false), if n then { uf := true, nx := true } else { ov := true, nx := true })
    else if isInteger m e then roundLane (.fin false 1 (if n then -(fxOf false m e / fxOne) else fxOf false m e / fxOne))
    else
      let (v, p) := exp2Val n m e
      if 128 ≤ (Nat.log2 v : Int) + p then (toLane (.inf false), { ov := true, nx := true }) else
      let w := nearLane 3 1 v p a
      (w, nearFlags w true)

/-- LOG2: exact at powers of two, within 1 ulp elsewhere. -/
def fLog2 (a : Word) : Word × VFlags :=
  match lane a with
  | .nan s => (qnan, { nv := s })
  | .inf n => if n then (qnan, { nv := true }) else (a, {})
  | .fin n m e =>
    if m = 0 then (toLane (.inf true), { dz := true }) else if n then (qnan, { nv := true }) else
    let l : Int := (Nat.log2 m : Int) + e
    if m = 2 ^ Nat.log2 m then roundLane (.fin (l < 0) l.natAbs 0)
    else
      let v := log2Val m e
      let w := nearLane 4 1 v.natAbs (-400) a
      (if v < 0 then w ||| 0x80000000 else w, { nx := true })

/-- TANH, SIGMOID and ERF: within 2 ulp; a free result of TANH or ERF keeps the operand's sign. -/
def fBounded (sub : Nat) (a : Word) : Word × VFlags :=
  let one : Word := 0x3F800000
  match lane a with
  | .nan s => (qnan, { nv := s })
  | .inf n => if sub = 6 then (if n then 0 else one, {}) else (if n then one ||| 0x80000000 else one, {})
  | .fin n m e =>
    let (v, p) := if sub = 5 then tanhVal m e else if sub = 6 then sigmoidVal n m e else erfVal m e
    let w := nearLane sub 2 v p a
    let f := nearFlags w (m ≠ 0 || w ≠ (if sub = 6 then 0x3F000000 else 0))
    (if sub ≠ 6 && n then w ||| 0x80000000 else w, f)

/-- FUNC by sub-code (R175). -/
def vfunc (sub : Nat) (a : Word) : Word × VFlags :=
  match sub with
  | 0 => fSqrt a
  | 1 => fRcp a
  | 2 => fRsqrt a
  | 3 => fExp2 a
  | 4 => fLog2 a
  | s => fBounded s a

/-! ### INT32 lane arithmetic -/

/-- An exact integer result modulo 2^32, with OF when it lies outside INT32 (R174). -/
def iWrap (v : Int) : Word × VFlags := (intLane v, { ov := (satInt32 v).2 })

/-- Shifts: a count outside 0 to 31 gives RG and the stated result (R174). -/
def iShl (a b : Word) : Word × VFlags :=
  if 31 < b.toNat then (0, { rg := true }) else (a <<< b.toNat, {})
def iShra (a b : Word) : Word × VFlags :=
  if 31 < b.toNat then (if a.msb then 0xFFFFFFFF else 0, { rg := true }) else (a.sshiftRight b.toNat, {})
def iShrl (a b : Word) : Word × VFlags :=
  if 31 < b.toNat then (0, { rg := true }) else (a >>> b.toNat, {})
def iMax (a b : Word) : Word := if laneInt a < laneInt b then b else a
def iMin (a b : Word) : Word := if laneInt b < laneInt a then b else a

/-! ### Stages -/

/-- The lanes that a source code names (R171), cut to the present length. (DESIGN CHOICE, assumption 3.) -/
def VPipe.src (p : VPipe) (w : StageW) (code : Nat) : List Word :=
  padTo p.len 0 (match code with
    | 0 => p.s0 | 1 => p.s1 | 2 => p.s2 | 3 => p.prev | 4 => p.prev2
    | 5 => List.replicate p.len w.imm | 6 => List.replicate p.len 0 | _ => List.replicate p.len p.scalar)

/-- The lanes that MASKIN enables (R177). -/
def VPipe.enabledBy (p : VPipe) (w : StageW) : List Bool :=
  padTo p.len true (match w.maskin with
    | 0 => List.replicate p.len true | 1 => padTo p.len false p.mstr | 2 => p.m0 | _ => p.m1)

/-- A stage hands its lanes on: PREV and PREV2 move, flags gather (R179). -/
def VPipe.push (p : VPipe) (en : List Bool) (outs : List (Word × VFlags)) : VPipe :=
  { p with prev := outs.map (·.1), prev2 := p.prev, enabled := en, forced := [], maskOut := []
           flags := (padTo p.len {} p.flags).zipWith VFlags.or (outs.map (·.2)) }

/-- What a disabled lane passes on in an inner stage: A under MERGE, zero bits under ZERO (R177). -/
def passed (w : StageW) (a : Word) : Word × VFlags := (if w.zero then 0 else a, {})

/-- An element-wise stage: `f` computes an enabled lane from A, B and C. -/
def VPipe.lanes (p : VPipe) (w : StageW) (f : Word → Word → Word → Word × VFlags) : VPipe :=
  let en := p.enabledBy w
  let abc := (p.src w w.srca).zip ((p.src w w.srcb).zip (p.src w w.srcc))
  p.push en ((en.zip abc).map fun x => if x.1 then f x.2.1 x.2.2.1 x.2.2.2 else passed w x.2.1)

/-- A comparing stage: A passes on, the latch MOUT takes the condition, 0 for a disabled lane (R177). -/
def VPipe.compare (p : VPipe) (w : StageW) (f : Word → Word → Bool × VFlags) : VPipe :=
  let en := p.enabledBy w
  let ab := (p.src w w.srca).zip (p.src w w.srcb)
  let bs := (en.zip ab).map fun x => x.1 && (f x.2.1 x.2.2).1
  let q := p.push en ((en.zip ab).map fun x => if x.1 then (x.2.1, (f x.2.1 x.2.2).2) else passed w x.2.1)
  let q := { q with maskOut := bs }
  if w.mout = 0 then { q with m0 := bs ++ p.m0.drop p.len } else { q with m1 := bs ++ p.m1.drop p.len }

/-- SEL: A where the latch bit of SUB[0] is set, otherwise B. -/
def VPipe.select (p : VPipe) (w : StageW) : VPipe :=
  let en := p.enabledBy w
  let latch := padTo p.len true (if w.sub % 2 = 0 then p.m0 else p.m1)
  let ab := (p.src w w.srca).zip (p.src w w.srcb)
  p.push en (((en.zip latch).zip ab).map fun x =>
    if x.1.1 then (if x.1.2 then x.2.1 else x.2.2, {}) else passed w x.2.1)

/-- The lane index of a permutation (R187). -/
def permIdx (w : StageW) (len i : Nat) (b : Word) : Int :=
  match w.sub with
  | 0 => laneInt b
  | 1 => ((i : Int) + laneInt w.imm) % (len : Int)
  | 2 => (len : Int) - 1 - i
  | _ => laneInt w.imm

/-- PERM: a lane whose index lies outside the present length becomes zero and sets RG, before the mask (R187). -/
def VPipe.permute (p : VPipe) (w : StageW) : VPipe :=
  let en := p.enabledBy w
  let a := p.src w w.srca
  let b := p.src w w.srcb
  let idx := (List.range p.len).map fun i => permIdx w p.len i (b.getD i 0)
  let bad := idx.map fun k => decide (k < 0 ∨ (p.len : Int) ≤ k)
  let outs := (List.range p.len).map fun i =>
    if bad.getD i false then ((0 : Word), ({ rg := true } : VFlags))
    else if en.getD i false then (a.getD (idx.getD i 0).toNat 0, {})
    else passed w (a.getD i 0)
  { p.push en outs with forced := bad }

/-! ### Reductions (R182 to R185) -/

/-- An operand of a reduction: a value, its index within the segment (none for the identity of RARGMAX and RARGMIN). -/
structure RedVal where
  w : Word := 0
  idx : Option Nat := none
  wide : Int := 0
  flags : VFlags := {}
  deriving DecidableEq, Repr

/-- The identity of each reduction (R182). -/
def redIdentity (op : VOp) (sub : Nat) : Word :=
  match op with
  | .rprod => 0x3F800000
  | .rmax => 0xFF800000
  | .rmin => 0x7F800000
  | .rand => if sub % 2 = 1 then 1 else 0xFFFFFFFF
  | .rimax => 0x80000000
  | .rimin => 0x7FFFFFFF
  | .rargmax | .rargmin => 0xFFFFFFFF
  | _ => 0

/-- Does the right operand win a comparison of RARGMAX or RARGMIN? Only when it is strictly beyond the left one, or a NaN
beside a number. -/
def rightWins (isMax : Bool) (a b : XVal) : Bool :=
  if a.isNan then false else if b.isNan then true
  else if isMax then belowMax a b else belowMax b a

/-- Combine two operands of a reduction, the left one lower (R185). -/
def redCombine (op : VOp) (a b : RedVal) : RedVal :=
  let fl (r : Word × VFlags) : RedVal := { w := r.1, flags := (a.flags.or b.flags).or r.2 }
  match op with
  | .rsum => fl (fAdd a.w b.w)
  | .rprod => fl (fMul a.w b.w)
  | .rmax => fl (fMax a.w b.w)
  | .rmin => fl (fMin a.w b.w)
  | .rargmax | .rargmin =>
    match a.idx, b.idx with
    | none, _ => { b with flags := a.flags.or b.flags }
    | some _, none => { a with flags := a.flags.or b.flags }
    | some _, some _ =>
      let nv : VFlags := { nv := (lane a.w).isSnan || (lane b.w).isSnan }
      let r := if rightWins (op = .rargmax) (lane a.w) (lane b.w) then b else a
      { r with flags := (a.flags.or b.flags).or nv }
  | .rand => fl (a.w &&& b.w, {})
  | .ror => fl (a.w ||| b.w, {})
  | .rxor => fl (a.w ^^^ b.w, {})
  | .risum => { wide := a.wide + b.wide, flags := a.flags.or b.flags }
  | .rimax => fl (iMax a.w b.w, {})
  | _ => fl (iMin a.w b.w, {})

/-- The balanced tree of R184, the left part the largest power of two below the length. -/
def redTree (op : VOp) (ident : RedVal) : Nat → List RedVal → RedVal
  | _, [] => ident
  | _, [x] => x
  | 0, x :: _ => x
  | fuel + 1, xs =>
    let m := 2 ^ Nat.log2 (xs.length - 1)
    redCombine op (redTree op ident fuel (xs.take m)) (redTree op ident fuel (xs.drop m))

/-- The elements of a segment as operands: a disabled element takes the identity at its own index (R184). -/
def redLeaf (op : VOp) (sub : Nat) (i : Nat) (x : Option Word) : RedVal :=
  let logical : Bool := (op = .rand ∨ op = .ror ∨ op = .rxor) ∧ sub % 2 = 1
  match x with
  | none => { w := redIdentity op sub }
  | some w =>
    let w := if logical then (if w = 0 then 0 else 1) else w
    { w := w, idx := some i, wide := laneInt w }

/-- The result of a reduction's tree as an output (R182, R185). (DEDUCED, assumption 27.) -/
def redOut (op : VOp) (any : Bool) (r : RedVal) : VOut :=
  match op with
  | .rargmax | .rargmin =>
    { val := (match r.idx with | some i => word i | none => 0xFFFFFFFF), flags := r.flags, empty := !any }
  | .risum => let (v, o) := satInt32 r.wide; { val := intLane v, flags := r.flags.or { ov := o }, empty := !any }
  | _ => { val := r.w, flags := r.flags, empty := !any }

/-- Reduce one whole segment (R183, R184). -/
def reduceSeg (op : VOp) (sub : Nat) (xs : List (Option Word)) : VOut :=
  let leaves := xs.zipIdx.map fun x => redLeaf op sub x.2 x.1
  redOut op (xs.any Option.isSome)
    (redTree op { w := redIdentity op sub } (ceilLog2 xs.length + 1) leaves)

/-- Give the results of the whole segments collected so far. -/
def flushSegs (op : VOp) (sub segLen : Nat) : Nat → List (Option Word) → List VOut × List (Option Word)
  | 0, xs => ([], xs)
  | fuel + 1, xs =>
    if xs.length < segLen ∨ segLen = 0 then ([], xs) else
    let (o, r) := flushSegs op sub segLen fuel (xs.drop segLen)
    (reduceSeg op sub (xs.take segLen) :: o, r)

/-- A reducing stage: the vector's elements join the segment, and each completed segment gives a result. -/
def VPipe.reduce (p : VPipe) (op : VOp) (w : StageW) : VPipe :=
  let en := p.enabledBy w
  let xs := (en.zip (p.src w w.srca)).map fun x => if x.1 then some x.2 else none
  let (o, rest) := flushSegs op w.sub p.segLen (p.len + 1) (p.seg ++ xs)
  { p with seg := rest, out := p.out ++ o, enabled := en, forced := [], maskOut := [] }

/-- At the end of a chain the last, shorter segment gives its result; a chain with Count 0 gives the identity (R183). -/
def VPipe.endReduce (p : VPipe) (op : VOp) (w : StageW) : VPipe :=
  if p.seg = [] ∧ p.out ≠ [] then p
  else if p.seg = [] then { p with out := [reduceSeg op w.sub []] }
  else { p with out := p.out ++ [reduceSeg op w.sub p.seg], seg := [] }

/-- One stage of a chain (R174, R182, R187). MWADD is no stage of lanes: it runs as a chain of its own. -/
def vstage (op : VOp) (w : StageW) (p : VPipe) : VPipe :=
  match op with
  | .mov => p.lanes w fun a _ _ => (a, {})
  | .add => p.lanes w fun a b _ => fAdd a b
  | .sub => p.lanes w fun a b _ => fSub a b
  | .mul => p.lanes w fun a b _ => fMul a b
  | .fma => p.lanes w fFma
  | .max => p.lanes w fun a b _ => fMax a b
  | .min => p.lanes w fun a b _ => fMin a b
  | .abs => p.lanes w fun a _ _ => (fAbs a, {})
  | .neg => p.lanes w fun a _ _ => (fNeg a, {})
  | .scale => p.lanes w fun a b _ => fScale a b
  | .func => p.lanes w fun a _ _ => vfunc w.sub a
  | .cmp => p.compare w fun a b =>
      (condF w.sub (lane a) (lane b), { nv := (lane a).isSnan || (lane b).isSnan })
  | .sel => p.select w
  | .cvti => p.lanes w fun a _ _ => cvti a
  | .cvtf => p.lanes w fun a _ _ => cvtf a
  | .iadd => p.lanes w fun a b _ => iWrap (laneInt a + laneInt b)
  | .isub => p.lanes w fun a b _ => iWrap (laneInt a - laneInt b)
  | .imul => p.lanes w fun a b _ => iWrap (laneInt a * laneInt b)
  | .and => p.lanes w fun a b _ => (a &&& b, {})
  | .or => p.lanes w fun a b _ => (a ||| b, {})
  | .xor => p.lanes w fun a b _ => (a ^^^ b, {})
  | .shl => p.lanes w fun a b _ => iShl a b
  | .shra => p.lanes w fun a b _ => iShra a b
  | .shrl => p.lanes w fun a b _ => iShrl a b
  | .imax => p.lanes w fun a b _ => (iMax a b, {})
  | .imin => p.lanes w fun a b _ => (iMin a b, {})
  | .icmp => p.compare w fun a b => (condI w.sub (laneInt a) (laneInt b), {})
  | .perm => p.permute w
  | .mwadd => p
  | op => p.reduce op w

/-- The operation is a reduction (R182). -/
def isRed : VOp → Bool
  | .rsum | .rprod | .rmax | .rmin | .rargmax | .rargmin | .rand | .ror | .rxor | .risum | .rimax | .rimin => true
  | _ => false

/-! ### Commands: one stage operation on the vector in a core's pipeline -/

/-- Run one stage on the vector in core `c`'s pipeline; VSTAT gathers the lanes' flags (R180). -/
def State.stage (s : State) (c : Nat) (op : VOp) (w : StageW) : State :=
  let p := vstage op w (s.core c).vpipe
  let n := (p.out.drop (s.core c).vpipe.out.length)
  let f := (p.flags ++ n.map (·.flags)).foldl VFlags.or {}
  let s := s.modCore c fun k => { k with vpipe := p }
  let v := s.rword .vector c 0
  let v' := v ||| f.toNat ||| (if n.any (·.empty) then 64 else 0)
  if v' = v then s else s.setRword .vector c 0 v'

/-- MOV (R174). -/
def execVMov (core : Nat) (w : StageW) (s : State) : Out :=
  s.clocked (.vMov core w) <|
  .next (s.stage core .mov w)
/-- ADD (R174). -/
def execVAdd (core : Nat) (w : StageW) (s : State) : Out :=
  s.clocked (.vAdd core w) <|
  .next (s.stage core .add w)
/-- SUB (R174). -/
def execVSub (core : Nat) (w : StageW) (s : State) : Out :=
  s.clocked (.vSub core w) <|
  .next (s.stage core .sub w)
/-- MUL (R174). -/
def execVMul (core : Nat) (w : StageW) (s : State) : Out :=
  s.clocked (.vMul core w) <|
  .next (s.stage core .mul w)
/-- FMA (R174). -/
def execVFma (core : Nat) (w : StageW) (s : State) : Out :=
  s.clocked (.vFma core w) <|
  .next (s.stage core .fma w)
/-- MAX (R174). -/
def execVMax (core : Nat) (w : StageW) (s : State) : Out :=
  s.clocked (.vMax core w) <|
  .next (s.stage core .max w)
/-- MIN (R174). -/
def execVMin (core : Nat) (w : StageW) (s : State) : Out :=
  s.clocked (.vMin core w) <|
  .next (s.stage core .min w)
/-- ABS (R174). -/
def execVAbs (core : Nat) (w : StageW) (s : State) : Out :=
  s.clocked (.vAbs core w) <|
  .next (s.stage core .abs w)
/-- NEG (R174). -/
def execVNeg (core : Nat) (w : StageW) (s : State) : Out :=
  s.clocked (.vNeg core w) <|
  .next (s.stage core .neg w)
/-- SCALE (R174). -/
def execVScale (core : Nat) (w : StageW) (s : State) : Out :=
  s.clocked (.vScale core w) <|
  .next (s.stage core .scale w)
/-- FUNC (R174). -/
def execVFunc (core : Nat) (w : StageW) (s : State) : Out :=
  s.clocked (.vFunc core w) <|
  .next (s.stage core .func w)
/-- CMP (R174). -/
def execVCmp (core : Nat) (w : StageW) (s : State) : Out :=
  s.clocked (.vCmp core w) <|
  .next (s.stage core .cmp w)
/-- SEL (R174). -/
def execVSel (core : Nat) (w : StageW) (s : State) : Out :=
  s.clocked (.vSel core w) <|
  .next (s.stage core .sel w)
/-- CVTI (R174). -/
def execVCvti (core : Nat) (w : StageW) (s : State) : Out :=
  s.clocked (.vCvti core w) <|
  .next (s.stage core .cvti w)
/-- CVTF (R174). -/
def execVCvtf (core : Nat) (w : StageW) (s : State) : Out :=
  s.clocked (.vCvtf core w) <|
  .next (s.stage core .cvtf w)
/-- IADD (R174). -/
def execVIadd (core : Nat) (w : StageW) (s : State) : Out :=
  s.clocked (.vIadd core w) <|
  .next (s.stage core .iadd w)
/-- ISUB (R174). -/
def execVIsub (core : Nat) (w : StageW) (s : State) : Out :=
  s.clocked (.vIsub core w) <|
  .next (s.stage core .isub w)
/-- IMUL (R174). -/
def execVImul (core : Nat) (w : StageW) (s : State) : Out :=
  s.clocked (.vImul core w) <|
  .next (s.stage core .imul w)
/-- AND (R174). -/
def execVAnd (core : Nat) (w : StageW) (s : State) : Out :=
  s.clocked (.vAnd core w) <|
  .next (s.stage core .and w)
/-- OR (R174). -/
def execVOr (core : Nat) (w : StageW) (s : State) : Out :=
  s.clocked (.vOr core w) <|
  .next (s.stage core .or w)
/-- XOR (R174). -/
def execVXor (core : Nat) (w : StageW) (s : State) : Out :=
  s.clocked (.vXor core w) <|
  .next (s.stage core .xor w)
/-- SHL (R174). -/
def execVShl (core : Nat) (w : StageW) (s : State) : Out :=
  s.clocked (.vShl core w) <|
  .next (s.stage core .shl w)
/-- SHRA (R174). -/
def execVShra (core : Nat) (w : StageW) (s : State) : Out :=
  s.clocked (.vShra core w) <|
  .next (s.stage core .shra w)
/-- SHRL (R174). -/
def execVShrl (core : Nat) (w : StageW) (s : State) : Out :=
  s.clocked (.vShrl core w) <|
  .next (s.stage core .shrl w)
/-- IMAX (R174). -/
def execVImax (core : Nat) (w : StageW) (s : State) : Out :=
  s.clocked (.vImax core w) <|
  .next (s.stage core .imax w)
/-- IMIN (R174). -/
def execVImin (core : Nat) (w : StageW) (s : State) : Out :=
  s.clocked (.vImin core w) <|
  .next (s.stage core .imin w)
/-- ICMP (R174). -/
def execVIcmp (core : Nat) (w : StageW) (s : State) : Out :=
  s.clocked (.vIcmp core w) <|
  .next (s.stage core .icmp w)
/-- PERM (R174). -/
def execVPerm (core : Nat) (w : StageW) (s : State) : Out :=
  s.clocked (.vPerm core w) <|
  .next (s.stage core .perm w)
/-- RSUM (R182). -/
def execRsum (core : Nat) (w : StageW) (s : State) : Out :=
  s.clocked (.rsum core w) <|
  .next (s.stage core .rsum w)
/-- RPROD (R182). -/
def execRprod (core : Nat) (w : StageW) (s : State) : Out :=
  s.clocked (.rprod core w) <|
  .next (s.stage core .rprod w)
/-- RMAX (R182). -/
def execRmax (core : Nat) (w : StageW) (s : State) : Out :=
  s.clocked (.rmax core w) <|
  .next (s.stage core .rmax w)
/-- RMIN (R182). -/
def execRmin (core : Nat) (w : StageW) (s : State) : Out :=
  s.clocked (.rmin core w) <|
  .next (s.stage core .rmin w)
/-- RARGMAX (R182). -/
def execRargmax (core : Nat) (w : StageW) (s : State) : Out :=
  s.clocked (.rargmax core w) <|
  .next (s.stage core .rargmax w)
/-- RARGMIN (R182). -/
def execRargmin (core : Nat) (w : StageW) (s : State) : Out :=
  s.clocked (.rargmin core w) <|
  .next (s.stage core .rargmin w)
/-- RAND (R182). -/
def execRand (core : Nat) (w : StageW) (s : State) : Out :=
  s.clocked (.rand core w) <|
  .next (s.stage core .rand w)
/-- ROR (R182). -/
def execRor (core : Nat) (w : StageW) (s : State) : Out :=
  s.clocked (.ror core w) <|
  .next (s.stage core .ror w)
/-- RXOR (R182). -/
def execRxor (core : Nat) (w : StageW) (s : State) : Out :=
  s.clocked (.rxor core w) <|
  .next (s.stage core .rxor w)
/-- RISUM (R182). -/
def execRisum (core : Nat) (w : StageW) (s : State) : Out :=
  s.clocked (.risum core w) <|
  .next (s.stage core .risum w)
/-- RIMAX (R182). -/
def execRimax (core : Nat) (w : StageW) (s : State) : Out :=
  s.clocked (.rimax core w) <|
  .next (s.stage core .rimax w)
/-- RIMIN (R182). -/
def execRimin (core : Nat) (w : StageW) (s : State) : Out :=
  s.clocked (.rimin core w) <|
  .next (s.stage core .rimin w)

end Sys2Proof.Machine
end

