-- ==== Sys2Proof/Machine/Chain.lean ====
section
/-! DEFINITION. Chains of the vector engine (R164 to R172, R177, R178, R181, R188): reading and checking a chain
descriptor, the input streams, the generated mask (R236), the output edge with slots, cold blocks and outlier lists (R42
to R58), and MWADD (R190 to R192). -/

namespace Sys2Proof.Machine

/-! ### Descriptors -/

/-- A stream descriptor in the larder. -/
def readStream (l : Mem) (a : Nat) : Option Stream := decodeStream (l.readNat a 32)

/-- The IndexSpec of R169: IndexBase and IndexPitch, a pitch of 0 read as 64. -/
def indexSpec (x : Nat) : Nat × Nat := (bits x 0 40, if bits x 40 24 = 0 then 64 else bits x 40 24)

/-- The stages of a chain, none where one is malformed. -/
def readStages (l : Mem) (a : Nat) : Nat → Option (List Stage)
  | 0 => some []
  | n + 1 => match decodeStage (l.readNat a 8), readStages l (a + 8) n with
    | some s, some r => some (s :: r)
    | _, _ => none

/-- A chain descriptor in the larder (R169); none where a reserved field, kind or code is set or a count that shapes the
descriptor is out of range. -/
def readChain (l : Mem) (a : Nat) : Option Chain :=
  let h (o n : Nat) := l.readNat (a + o) n
  let n := h 8 1
  if a % 32 ≠ 0 ∨ n = 0 ∨ 8 < n ∨ 1 < h 12 1 ∨ h 13 3 ≠ 0 then none else
  match readStream l (a + 32), readStream l (a + 64), readStream l (a + 96), readStream l (a + 128),
    readStream l (a + 160), readStages l (a + 192) n with
  | some s0, some s1, some s2, some mk, some d, some st =>
    some { count := h 0 4, segment := h 4 4, vl := h 9 1, anchorReg := h 10 1, words := h 11 1, flagOut := h 12 1 = 1
           flagBase := h 16 4, scalarAddr := h 20 4, indexBase := (indexSpec (h 24 8)).1
           indexPitch := (indexSpec (h 24 8)).2, s0 := s0, s1 := s1, s2 := s2, mstr := mk, d := d, stages := st }
  | _, _, _, _, _, _ => none

/-! ### Checks (R172) -/

/-- Largest SUB value an operation defines (R172). -/
def maxSub : VOp → Nat
  | .cmp => 7 | .icmp => 5 | .func => 7 | .perm => 3 | .sel | .rand | .ror | .rxor => 1 | _ => 0

/-- Number of sources an operation reads. -/
def srcCount (op : VOp) (w : StageW) : Nat :=
  match op with
  | .fma => 3
  | .add | .sub | .mul | .max | .min | .scale | .cmp | .sel | .iadd | .isub | .imul | .and | .or | .xor | .shl | .shra
  | .shrl | .imax | .imin | .icmp => 2
  | .perm => if w.sub = 0 then 2 else 1
  | .mwadd => 0
  | _ => 1

/-- The source codes that an operation reads. -/
def srcsOf (g : Stage) : List Nat := [g.w.srca, g.w.srcb, g.w.srcc].take (srcCount g.op g.w)

/-- The stream of an input code. -/
def chainInput (ch : Chain) (code : Nat) : Stream :=
  match code with | 0 => ch.s0 | 1 => ch.s1 | _ => ch.s2

/-- Kinds allowed for each position (R170). `mw`: the chain is an MWADD; `drain`: a VECTOR drain's. -/
def kindOk (ch : Chain) (mw drain : Bool) : Bool :=
  let inOk (k : SKind) : Bool := k = .larder ∨ k = .broadcast ∨ k = .absent
  (inOk ch.s0.kind || (ch.s0.kind = .tile && drain) || (ch.s0.kind = .full && mw)) && inOk ch.s1.kind && inOk ch.s2.kind &&
  (ch.mstr.kind = .mask || ch.mstr.kind = .absent) &&
  (ch.d.kind = .larder || ch.d.kind = .mask || (ch.d.kind = .mwrec && mw)) &&
  (!drain || ch.s0.kind = .tile) && (!mw || ch.s0.kind = .full)

/-- RAW delivers integers for INT4, INT8 and UINT8 alone (R170). -/
def rawInts (st : Stream) : Bool := st.raw && (st.fmt = 0 || st.fmt = 3 || st.fmt = 4)

/-- The last stage produces INT32 lanes: its own type, or its A source's for the operations that pass A (DEDUCED,
assumption 19). -/
def intLanes (ch : Chain) : Nat → List Stage → Bool
  | _, [] => false
  | 0, _ => false
  | fuel + 1, g :: r =>
    -- stages from the last to the first
    let ofSrc (code : Nat) : Bool :=
      match code with
      | 3 => intLanes ch fuel r
      | 4 => intLanes ch fuel (r.drop 1)
      | 0 | 1 | 2 => (chainInput ch code).kind ≠ .tile && ((chainInput ch code).fmt = 11 || rawInts (chainInput ch code))
      | _ => false
    match g.op with
    | .cvti | .iadd | .isub | .imul | .and | .or | .xor | .shl | .shra | .shrl | .imax | .imin | .icmp
    | .rargmax | .rargmin | .rand | .ror | .rxor | .risum | .rimax | .rimin => true
    | .mov | .sel | .perm => ofSrc g.w.srca
    | _ => false

/-- Narrow format code. -/
def narrowCode (f : Nat) : Bool := match Fmt.ofCode f with | some x => x.narrow | none => false

/-- A stage of R172: SUB defined, no reserved source, PREV not before its stage, streams present. -/
def stageOk (ch : Chain) (gen : Bool) (i : Nat) (g : Stage) : Bool :=
  g.w.sub ≤ maxSub g.op &&
  (srcsOf g).all (fun c => !(c = 3 && i = 0) && !(c = 4 && i ≤ 1) && (2 < c || (chainInput ch c).kind ≠ .absent)) &&
  !(g.w.maskin = 1 && ch.mstr.kind = .absent && !gen)

/-- Larder address of the block or half-line that holds element k. -/
def blockAddr (d : Stream) (k : Nat) : Nat := d.base + k / 64 * d.linePitch + k % 64 / 32 * d.blockPitch

/-- Larder address of the scale of element k's block. -/
def scaleAddr (d : Stream) (k : Nat) : Nat :=
  d.scaleBase + k / 64 * d.scaleLinePitch + k % 64 / 32 * d.scaleBlockPitch

/-- The elements of a stream of n whose bytes can lie highest: the last one, and the last of a first and of a second
half-line. -/
def lastEls (n : Nat) : List Nat :=
  (if n = 0 then [] else [n - 1]) ++ (if 32 ≤ n then [64 * ((n - 32) / 64) + 31] else []) ++
    (if 64 ≤ n then [64 * (n / 64) - 1] else [])

/-- Larder bytes that a stream's elements span, as a half-open range; none for streams that address none. -/
def spanOf (ch : Chain) (st : Stream) (elems vecs : Nat) : Option (Nat × Nat) :=
  if elems = 0 then none else
  match st.kind with
  | .larder => (Fmt.ofCode st.fmt).map fun f =>
      (st.base, ((lastEls elems).map fun k => blockAddr st k + (f.bits * (k % 32 + 1) + 7) / 8).foldl max 0)
  | .broadcast => (Fmt.ofCode st.fmt).map fun f =>
      (st.base, st.base + ((vecs - 1) / max 1 st.blockPitch) * st.linePitch + (f.bits + 7) / 8)
  | .mask => some (st.base, st.base + (vecs - 1) * st.linePitch + 8)
  | .full => some (st.base, st.base + (ch.segment - 1) * st.linePitch + 16 * elems)
  | .mwrec => some (st.base, st.base + 8 * ch.words * elems)
  | _ => none

/-- End of the scales or descriptors that go with a stream (R132, R170); 0 where there are none. -/
def scaleEnd (ch : Chain) (st : Stream) (elems vecs : Nat) : Nat :=
  if elems = 0 then 0 else
  match st.kind with
  | .larder => if narrowCode st.fmt && !rawInts st then ((lastEls elems).map (scaleAddr st · + 1)).foldl max 0 else 0
  | .broadcast => if narrowCode st.fmt && !rawInts st
      then st.scaleBase + ((vecs - 1) / max 1 st.blockPitch) * st.scaleLinePitch + 1 else 0
  | .full => st.scaleBase + 16 * ch.segment
  | .mwrec => st.scaleBase + 16
  | _ => 0

/-- The output of n elements stands element for element over the input (R168): a pitch that no element uses is not
compared. -/
def sameElems (a d : Stream) (n vecs : Nat) : Bool :=
  a.kind = d.kind && a.base = d.base &&
  (match a.kind with
   | .mask => vecs ≤ 1 || a.linePitch = d.linePitch
   | .larder => (n ≤ 64 || a.linePitch = d.linePitch) && (n ≤ 32 || a.blockPitch = d.blockPitch) &&
      (match Fmt.ofCode a.fmt, Fmt.ofCode d.fmt with | some x, some y => x.bits = y.bits | _, _ => false)
   | _ => false)

/-- Number of results or elements that D receives. -/
def chainOut (ch : Chain) : Nat :=
  if ch.stages.any (isRed ·.op) then max 1 (ceilDiv ch.count (max 1 ch.segment)) else ch.count

/-- D overlaps an input other than element for element (R168, R172). -/
def overlaps (ch : Chain) : Bool :=
  let n := (chainOut ch)
  let vecs := ceilDiv n (max 1 ch.vl)
  match spanOf ch ch.d n vecs with
  | none => false
  | some (a, b) => [ch.s0, ch.s1, ch.s2, ch.mstr].any fun st =>
    match spanOf ch st ch.count (ceilDiv ch.count (max 1 ch.vl)) with
    | none => false
    | some (x, y) => x < b && a < y && !sameElems st ch.d n vecs

/-- A stream breaks the constraints of R132 or runs past the larder's end (OPERAND_ALIGN). -/
def misaligned (ch : Chain) (st : Stream) (elems vecs : Nat) : Bool :=
  (match st.kind with
   | .larder => match Fmt.ofCode st.fmt with
     | some f => let u := if f.bits = 4 then 16 else 32
       st.base % u ≠ 0 || st.linePitch % u ≠ 0 || st.blockPitch % u ≠ 0
     | none => false
   | _ => false) ||
  (match spanOf ch st elems vecs with | some (_, y) => larderSize < y | none => false) ||
  larderSize < scaleEnd ch st elems vecs

/-- What a chain raises when it starts, if anything: BAD_CHAIN by R172, BAD_FORMAT by its formats, BAD_POSITION by R237,
OPERAND_ALIGN by R168, for the lane flags and the scalar too. (DEDUCED, assumption 79.) `gen`: MASKGEN, QPOS, KPOS. -/
def chainFault (ch : Chain) (drain : Bool) (maskgen qpos kpos : Nat) : Option Code :=
  let mw := ch.stages.any (·.op = .mwadd)
  let red := ch.stages.filter (isRed ·.op)
  let gen : Bool := maskgen ≠ 0
  let last := ch.stages.getLast?
  let lastIs (f : VOp → Bool) : Bool := match last with | some g => f g.op | none => false
  let vecs := ceilDiv ch.count (max 1 ch.vl)
  let segs := ceilDiv ch.count (max 1 ch.segment)
  let bad : Bool :=
    ch.vl = 0 || 64 < ch.vl || ch.scalarAddr % 4 ≠ 0 || 2 ^ 24 < ch.count ||
    ((red ≠ [] || mw || gen) && (ch.segment = 0 || 2 ^ 24 < ch.segment)) ||
    (mw && (ch.count = 0 || 4096 < ch.count || ch.words < 4 || 8 < ch.words || 31 < ch.anchorReg || 1 < ch.stages.length)) ||
    1 < red.length || (red ≠ [] && !lastIs isRed) || !kindOk ch mw drain ||
    !(ch.stages.zipIdx.all fun g => stageOk ch gen g.2 g.1) ||
    (ch.s0.kind = .tile && 4096 < ch.count) ||
    [ch.s0, ch.s1, ch.s2, ch.mstr].any (·.outlier) ||
    [ch.s0, ch.s1, ch.s2].any (fun t => t.kind = .broadcast && (t.blockPitch = 0 || 2 ^ 24 < t.blockPitch)) ||
    (intLanes ch 9 ch.stages.reverse && !mw && ch.d.kind = .larder && ch.d.fmt ≠ 11) ||
    (ch.d.kind = .mask && !lastIs (fun o => o = .cmp ∨ o = .icmp)) ||
    (ch.d.kind = .larder && narrowCode ch.d.fmt &&
      (ch.d.slotSpan = 0 || 1048575 < ch.d.slotBase || 1048576 < ch.d.slotBase + ch.d.slotSpan)) ||
    (!(ch.d.kind = .larder && narrowCode ch.d.fmt) && ch.d.slotSpan ≠ 0) ||
    (gen && ch.mstr.kind ≠ .absent) || overlaps ch
  let fmtBad (t : Stream) : Bool :=
    (t.kind = .larder || t.kind = .broadcast) && (11 < t.fmt || t.fmt = 10)
  if bad then some .badChain
  else if [ch.s0, ch.s1, ch.s2, ch.d].any fmtBad then some .badFormat
  else if gen && (2097151 < qpos + segs - 1 || 2097151 < kpos + ch.segment - 1) then some .badPosition
  else if [ch.s0, ch.s1, ch.s2, ch.mstr].any (fun t => misaligned ch t ch.count vecs) ||
      misaligned ch { ch.d with raw := false } (chainOut ch) (ceilDiv (chainOut ch) (max 1 ch.vl)) ||
      (ch.flagOut && larderSize < ch.flagBase + chainOut ch) ||
      (ch.stages.any (fun g => (srcsOf g).contains 7) && larderSize < ch.scalarAddr + 4) then some .operandAlign
  else none

/-! ### Input streams (R173) -/

/-- A code of a narrow or wide element in the larder. -/
def readCode (l : Mem) (f : Fmt) (a i : Nat) : Nat :=
  if f.bits = 4 then bits (l.read (a + i / 2)).toNat (4 * (i % 2)) 4 else l.readNat (a + i * (f.bits / 8)) (f.bits / 8)

/-- An element of a stream as a lane (R173, R44): its bits, its flags, and whether its block's scale is 0xFF (R31). -/
def codeLane (f : Fmt) (raw : Bool) (scale code : Nat) : Word × VFlags × Bool :=
  match f with
  | .fp32 | .int32 => (word code, {}, false)
  | .bf16 => (halfLane Machine.bf16 code, {}, false)
  | .fp16 => (halfLane Machine.fp16 code, {}, false)
  | f =>
    if raw then
      ((match f with | .int4 => intLane (signed 4 code) | .int8 => intLane (signed 8 code) | _ => word code), {}, false)
    else let (w, fl) := narrowLane f scale code; (w, fl, scale = 255)

/-- Lane of element k (vector v) of an input stream; a tile delivers its elements through `tile`. -/
def streamLane (l : Mem) (tile : Nat → Word × VFlags) (st : Stream) (k v : Nat) : Word × VFlags × Bool :=
  match st.kind, Fmt.ofCode st.fmt with
  | .tile, _ => let (w, f) := tile k; (w, f, false)
  | .larder, some f =>
    let line := k / 64
    let blk := k % 64 / 32
    let a := st.base + line * st.linePitch + blk * st.blockPitch
    let sc := (l.read (st.scaleBase + line * st.scaleLinePitch + blk * st.scaleBlockPitch)).toNat
    codeLane f (rawInts st) sc (readCode l f a (k % 32))
  | .broadcast, some f =>
    let j := v / max 1 st.blockPitch
    codeLane f (rawInts st) (l.read (st.scaleBase + j * st.scaleLinePitch)).toNat (readCode l f (st.base + j * st.linePitch) 0)
  | _, _ => (0, {}, false)

/-- The mask stream of a vector: read from the larder, or generated (R236). -/
def maskLanes (l : Mem) (ch : Chain) (maskgen qpos kpos window : Nat) (v len : Nat) : List Bool :=
  (List.range len).map fun i =>
    let e := v * ch.vl + i
    let qp := qpos + e / max 1 ch.segment
    let kp := kpos + e % max 1 ch.segment
    match maskgen with
    | 1 => kp ≤ qp
    | 2 => kp ≤ qp && qp - kp < window
    | _ => bit (l.read (ch.mstr.base + v * ch.mstr.linePitch + i / 8)).toNat (i % 8)

/-! ### The output edge (R188) -/

/-- What an output element is: left as it stands, a zero, a lane's bits, an exact value, a tagged element. -/
inductive OutV where
  | keep
  | zero
  | bits (w : Word)
  | exact (x : XVal)
  | tagged (neg : Bool)
  deriving DecidableEq, Repr

/-- One output element with its lane's flags. -/
structure OutEl where
  k : Nat
  v : OutV
  flags : VFlags := {}
  empty : Bool := false
  deriving DecidableEq, Repr

/-- Where an output's outlier entries go: list number (0 none), IndexBase, IndexPitch; and the timetable entry that
writes them. -/
structure OutList where
  no : Nat := 0
  base : Nat := 0
  pitch : Nat := 64
  entry : Nat := 0xFFFFFFFF
  deriving DecidableEq, Repr

/-- Write a code of 4, 8, 16 or 32 bits at element i of a block. -/
def writeCode (l : Mem) (f : Fmt) (a i code : Nat) : Mem :=
  if f.bits = 4 then
    l.write (a + i / 2) (BitVec.ofNat 8 (setBits (l.read (a + i / 2)).toNat (4 * (i % 2)) 4 code))
  else l.writeNat (a + i * (f.bits / 8)) (f.bits / 8) code

/-- The value of an output element that is no zero and not left. -/
def OutV.value : OutV → XVal
  | .bits w => lane w
  | .exact x => x
  | .tagged n => .inf n
  | _ => .fin false 0 0

/-- A wide or INT32 output element (R188, R192, R44): its code and its flags. -/
def wideOut (f : Fmt) (v : OutV) : Nat × VFlags :=
  match f with
  | .int32 =>
    match v with
    | .bits w => (w.toNat, {})
    | .exact (.fin n m e) =>
      let (i, o) := satInt32 (rneInt m e n).1
      (wrap 32 i, { ov := o })
    | .tagged n => (if n then 0x80000000 else 0x7FFFFFFF, { ov := true })
    | _ => (0, {})
  | f =>
    match f.wide? with
    | some g =>
      match v with
      | .bits w => if f = .fp32 then (w.toNat, {}) else let (r, fl) := (lane w).round g; (r.encode g, fl)
      | .exact x => let (r, fl) := x.round g; (r.encode g, fl)
      | .tagged n => ((wideMax g n).encode g, { ov := true })
      | _ => (0, {})
    | none => (0, {})

/-- Address of a slot's record in the committed scale-history table (R49). -/
def State.slotAddr (s : State) (slot : Nat) : Nat := s.committed + s.ledger.histOff + 32 * slot

/-- A slot's scale in this attempt (R48, R52, R53): none where the slot is cold. (DEDUCED, assumption 82.) -/
def State.slotScale (s : State) (slot : Nat) : Option Nat :=
  let b := (s.mem.read (s.slotAddr slot)).toNat
  if b = 255 ∨ s.job.coldAll ∨ slot ∈ s.job.coldMarks then none else some b

/-- Merge a counted value into a slot's accumulators (R50). -/
def SlotAcc.count (a : SlotAcc) (f : Nat) (peak : Option Int) (sat zeros : Nat) : SlotAcc :=
  { fmt := f
    peak := (match a.peak, peak with | none, p => p | some x, none => some x | some x, some y => some (max x y))
    sat := satAdd 0xFFFFFFFF a.sat sat, zero := satAdd 0xFFFFFFFF a.zero zeros }

/-- Put an outlier into list `ol.no` of core c, if the list has room (R56, R58). The layer is the list record's (R223);
the entry is written to module memory like any core write (R19, R247, R353): where that faults the core halts and the
entry is not made. -/
def State.addOutlier (s : State) (c : Nat) (ol : OutList) (fmt : Fmt) (k code scale : Nat) (x : XVal) : State × Bool :=
  match (s.core c).hdr with
  | none => (s, false)
  | some h =>
    match h.olists[ol.no - 1]? with
    | none => (s, false)
    | some (layer, tensor, cap, _, addr) =>
      let es := (s.core c).olists.get ol.no []
      if cap ≤ es.length then
        ({ s.countCode .outlierFull with stats := { s.stats with overflow := layerCount s.stats.overflow layer 1 } }, false)
      else if (s.writeFault (addr + 8 * es.length) 8).isSome then
        (s.halt ((s.writeFault (addr + 8 * es.length) 8).getD .ledgerProtect) c ol.entry, false)
      else
        let r := x.shift (127 - (scale : Int))
        let e : OutEntry := ⟨(ol.base + k / 64 * ol.pitch + k % 64) % 2 ^ 40, (fp16Held r).1, tensor,
          fmt.code, scale, code⟩
        let s := s.modCore c fun q => { q with olists := q.olists.put ol.no (es ++ [e]) }
        let s := s.writeMem (addr + 8 * es.length) (bytesOf 8 (e.index + e.value * 2 ^ 40 + tensor * 2 ^ 56)) (some c)
        ({ s with stats := { s.stats with outliers := layerCount s.stats.outliers layer 1 } }, true)

/-- Convert one counted element of a narrow block (R42, R43, R50, R56 to R58) and write its code. -/
def State.narrowEl (s : State) (c : Nat) (d : Stream) (f : Fmt) (slot scale : Nat) (ol : OutList) (o : OutEl) :
    State × VFlags :=
  let x := o.v.value
  let a := blockAddr d o.k
  let put (s : State) (code : Nat) : State := s.modCore c fun q => { q with larder := writeCode q.larder f a (o.k % 32) code }
  match o.v with
  | .keep => (s, {})
  | .zero => (put s 0, {})
  | .tagged n =>
    let s := s.modCore c fun q =>
      { q with slots := q.slots.put slot ((q.slots.get slot {}).count d.fmt none 0 0) }
    (put s (narrowMax f n), {})
  | _ =>
    let r := toNarrow f scale x
    let fin : Bool := !x.isNan && !x.isInf
    let useList : Bool := r.sat && fin && d.outlier && ol.no ≠ 0
    let (s, listed) := if useList then s.addOutlier c ol f o.k r.code scale x else (s, false)
    let held : Bool := listed && (fp16Held (x.shift (127 - (scale : Int)))).2
    let s := s.modCore c fun q =>
      { q with slots := q.slots.put slot ((q.slots.get slot {}).count d.fmt
          (if fin && !listed then x.floorLog2 else none) (b2n (r.sat && (!listed || held))) (b2n r.zeroed)) }
    (put s r.code, { nv := r.nv, ov := r.ov })

/-- Write one block of a narrow D: under its slot's scale, or cold under a scale of its own with the elements the chain
does not write decoded, counted into the scale and re-encoded (R54, R178). -/
def State.narrowBlock (s : State) (c : Nat) (d : Stream) (f : Fmt) (ol : OutList) (b : Nat) (os : List OutEl) :
    State × List VFlags :=
  let slot := d.slotBase + b % max 1 d.slotSpan
  let sa := scaleAddr d (32 * b)
  let written := os.filter (·.v ≠ .keep)
  if written = [] then (s, os.map fun _ => {}) else
  let s := s.raiseBad (s.badIn (s.slotAddr slot) 1) (some c)
  let (s, scale) : State × Nat :=
    match s.slotScale slot with
    | some sc => (s, sc)
    | none =>
      let l := (s.core c).larder
      let oldScale := (l.read sa).toNat
      let a := blockAddr d (32 * b)
      let old := (List.range 32).filter fun i => !(written.any fun o => o.k % 32 = i)
      let oldVal (i : Nat) : XVal :=
        if oldScale = 255 then .fin false 0 0
        else (narrowDecode f (readCode l f a i)).shift ((oldScale : Int) - 127)
      let sc := coldScale f (peakOf ((written.map (·.v.value)) ++ old.map oldVal))
      let s := if old ≠ [] ∧ oldScale = 255 then s.raise .scaleNas c else s
      let l := old.foldl (fun l i => writeCode l f a i (toNarrow f sc (oldVal i)).code) l
      (s.modCore c fun q => { q with larder := l }, sc)
  let s := s.modCore c fun q => { q with larder := q.larder.write sa (BitVec.ofNat 8 scale) }
  os.foldl (fun (x : State × List VFlags) o =>
    let (s, fl) := x.1.narrowEl c d f slot scale ol o
    (s, x.2 ++ [fl])) (s, [])

/-- The blocks of a list of outputs in rising order of k. -/
def groupBlocks : Nat → List OutEl → List (Nat × List OutEl)
  | 0, _ => []
  | _, [] => []
  | fuel + 1, o :: r =>
    let b := o.k / 32
    (b, (o :: r).takeWhile (·.k / 32 = b)) :: groupBlocks fuel ((o :: r).dropWhile (·.k / 32 = b))

/-- Write the outputs to D, kinds LARDER and MASK; the flags of the edge per element. -/
def State.edge (s : State) (c : Nat) (d : Stream) (vl : Nat) (ol : OutList) (os : List OutEl) : State × List VFlags :=
  match d.kind, Fmt.ofCode d.fmt with
  | .mask, _ =>
    let l := os.foldl (fun l o =>
      let v := o.k / max 1 vl
      let i := o.k % max 1 vl
      let a := d.base + v * d.linePitch + i / 8
      match o.v with
      | .keep => l
      | .bits w => l.write a (BitVec.ofNat 8 (setBits (l.read a).toNat (i % 8) 1 (b2n (w ≠ 0))))
      | _ => l.write a (BitVec.ofNat 8 (setBits (l.read a).toNat (i % 8) 1 0))) (s.core c).larder
    (s.modCore c fun q => { q with larder := l }, os.map fun _ => {})
  | .larder, some f =>
    if f.narrow then
      (groupBlocks (os.length + 1) os).foldl (fun (x : State × List VFlags) g =>
        let (s, fl) := x.1.narrowBlock c d f ol g.1 g.2
        (s, x.2 ++ fl)) (s, [])
    else
      let l := os.foldl (fun l o =>
        if o.v = .keep then l else writeCode l f (blockAddr d o.k) (o.k % 32) (wideOut f o.v).1) (s.core c).larder
      (s.modCore c fun q => { q with larder := l }, os.map fun o => (wideOut f o.v).2)
  | _, _ => (s, os.map fun _ => {})

/-- VSTAT gathers flags (R180); the first NV of the attempt records its entry (R195). -/
def State.gatherFlags (s : State) (c no : Nat) (f : VFlags) (empty : Bool) : State :=
  let s := if f.nv ∧ s.fget .VSTAT_FIRST_NV_ENTRY c = 0xFFFF ∧ ¬ s.fon .VSTAT_NV c
    then s.fset .VSTAT_FIRST_NV_ENTRY (no % 65536) c else s
  let v := s.rword .vector c 0
  let v' := v ||| f.toNat ||| (if empty then 64 else 0)
  if v' = v then s else s.setRword .vector c 0 v'

/-- The lane flags written with FLAG_OUT (R181), then gathered in VSTAT. (DEDUCED, assumption 27.) -/
def State.finishOut (s : State) (c no : Nat) (flagOut : Bool) (flagBase : Nat) (os : List OutEl) (fl : List VFlags) : State :=
  let all := os.zip fl
  let s := if flagOut then
      s.modCore c fun q => { q with larder := all.foldl (fun l x =>
        let b := if x.1.v = .keep then 0 else (x.1.flags.or x.2).toNat + 64 * b2n x.1.empty
        l.write (flagBase + x.1.k) (BitVec.ofNat 8 b)) q.larder }
    else s
  let f := all.foldl (fun a x => (a.or x.1.flags).or x.2) ({} : VFlags)
  let n := (os.filter (·.empty)).length
  (if n = 0 then s else s.countCode .empty n).gatherFlags c no f (os.any (·.empty))

/-! ### Running a chain -/

/-- The pipeline as vector v of a chain enters it, the reduction in progress kept from `p`; the flags that each input's
lanes bring; and whether a 0xFF scale was read. -/
def loadVector (l : Mem) (tile : Nat → Word × VFlags) (ch : Chain) (mg qp kp wn : Nat) (p : VPipe) (v : Nat) :
    VPipe × (Nat → List VFlags) × Bool :=
  let len := min ch.vl (ch.count - v * ch.vl)
  let ks := (List.range len).map (v * ch.vl + ·)
  let used (c : Nat) : Bool := ch.stages.any fun g => (srcsOf g).contains c
  let rd (c : Nat) (st : Stream) := if used c then ks.map fun k => streamLane l tile st k v else []
  let a := rd 0 ch.s0
  let b := rd 1 ch.s1
  let d := rd 2 ch.s2
  ({ p with s0 := a.map (·.1), s1 := b.map (·.1), s2 := d.map (·.1), mstr := maskLanes l ch mg qp kp wn v len
            prev := [], prev2 := [], len := len, flags := List.replicate len {} },
   fun (c : Nat) => (if c = 0 then a else if c = 1 then b else d).map (·.2.1),
   (a ++ b ++ d).any (·.2.2))

/-- A stage's enabled lanes take the flags of the input lanes that it reads (R173, R177, R179). -/
def readFlags (fls : Nat → List VFlags) (p : VPipe) (g : Stage) : VPipe :=
  let en := p.enabledBy g.w
  let cs := (srcsOf g).filter (· < 3)
  { p with flags := p.flags.zipIdx.map fun (x : VFlags × Nat) =>
      if en.getD x.2 false then cs.foldl (fun f c => f.or ((fls c).getD x.2 {})) x.1 else x.1 }

/-- How the last stage leaves lane i of a vector for D (R177, R187). -/
def laneOut (g : Stage) (p : VPipe) (mask : Bool) (k0 i : Nat) : OutEl :=
  let en := p.enabled.getD i true
  let forced := p.forced.getD i false
  let f := p.flags.getD i {}
  if forced then { k := k0 + i, v := .zero, flags := f }
  else if en then
    { k := k0 + i, flags := f
      v := if mask then .bits (if p.maskOut.getD i false then 1 else 0) else .bits (p.prev.getD i 0) }
  else { k := k0 + i, v := if g.w.zero then .zero else .keep, flags := f }

/-- All vectors of a chain: outputs of an element-wise chain, the final pipeline, and whether a 0xFF scale was read. -/
def runVectors (l : Mem) (tile : Nat → Word × VFlags) (ch : Chain) (mg qp kp wn : Nat) (scalar : Word) :
    List OutEl × VPipe × Bool :=
  let p0 : VPipe := { scalar := scalar, segLen := ch.segment }
  match ch.stages.getLast? with
  | none => ([], p0, false)
  | some g =>
    let r := (List.range (ceilDiv ch.count (max 1 ch.vl))).foldl (fun (x : List OutEl × VPipe × Bool × VFlags) v =>
      let (p, fls, nas) := loadVector l tile ch mg qp kp wn x.2.1 v
      let p := ch.stages.foldl (fun p g => vstage g.op g.w (readFlags fls p g)) p
      let outs := if isRed g.op then []
        else (List.range p.len).map (laneOut g p (ch.d.kind = .mask) (v * ch.vl))
      (x.1 ++ outs, p, x.2.2.1 || nas, p.flags.foldl VFlags.or x.2.2.2)) ([], p0, false, {})
    let p := r.2.1
    if isRed g.op then
      let q := p.endReduce g.op g.w
      (q.out.zipIdx.map fun o => { k := o.2, v := .bits o.1.val, flags := o.1.flags, empty := o.1.empty },
       { q with flags := [r.2.2.2] }, r.2.2.1)
    else (r.1, { p with flags := [r.2.2.2] }, r.2.2.1)

/-! ### MWADD (R190 to R192) -/

/-- The exact sum of element i of the records of an MWADD: lane integer, terms that lost bits, tag. -/
def mwElement (l : Mem) (ch : Chain) (asum : Int) (i : Nat) : Int × Nat × Bool :=
  let L : Int := 64 * ch.words - 160
  (List.range ch.segment).foldl (fun (x : Int × Nat × Bool) p =>
    let da := ch.s0.scaleBase + 16 * p
    let ap := signed 16 (l.readNat da 2)
    let tagged := bit (l.readNat (da + 3) 1) 0
    let g := signed 128 (l.readNat (ch.s0.base + p * ch.s0.linePitch + 16 * i) 16)
    let sh := L - (asum - ap)
    let (t, lost) : Int × Bool := if 0 ≤ sh then (g * 2 ^ sh.toNat, false)
      else (g / 2 ^ (-sh).toNat, g % 2 ^ (-sh).toNat ≠ 0)
    (x.1 + t, x.2.1 + b2n lost, x.2.2 || (tagged && (g = 2 ^ 127 - 1 || g = -(2 ^ 127 - 1))))) (0, 0, false)

/-- A record's anchor above the sum's raises ANCHOR_LOW (R191). -/
def mwLow (l : Mem) (ch : Chain) (asum : Int) : Bool :=
  (List.range ch.segment).any fun p => asum < signed 16 (l.readNat (ch.s0.scaleBase + 16 * p) 2)

/-- Run an MWADD chain of core c: the sums, their output, counters and descriptor. -/
def State.mwadd (s : State) (c no : Nat) (ch : Chain) (asum : Int) (mg qp kp wn : Nat) (ol : OutList) : State :=
  let l := (s.core c).larder
  match ch.stages.head? with
  | none => s
  | some g =>
    let L : Int := 64 * ch.words - 160
    let els := (List.range ch.count).map fun i => mwElement l ch asum i
    let en (i : Nat) : Bool :=
      if g.w.maskin = 1 then
        (maskLanes l ch mg qp kp wn (i / max 1 ch.vl) (min ch.vl (ch.count - i / max 1 ch.vl * ch.vl))).getD (i % max 1 ch.vl) false
      else true
    let loss := els.foldl (fun n x => n + x.2.1) 0
    let ovf := (els.zipIdx.filter fun x => x.1.2.2 && en x.2).length
    let s := (s.fcount .VMW_MW_LOSS loss c).fcount .VMW_MW_OVF ovf c
    let s := { s with stats := { s.stats with mwLoss := satAdd 0xFFFFFFFF s.stats.mwLoss loss,
                                              mwOvf := satAdd 0xFFFFFFFF s.stats.mwOvf ovf } }
    let outs : List OutEl := els.zipIdx.map fun x =>
      { k := x.2, v := if !en x.2 then (if g.w.zero then .zero else .keep)
                       else if x.1.2.2 then .tagged (x.1.1 < 0)
                       else .exact (.fin (x.1.1 < 0) x.1.1.natAbs (asum - 342 - L)) }
    if ch.d.kind = .mwrec then
      let n := 8 * ch.words
      let cap : Int := 2 ^ (64 * ch.words - 1) - 1
      let l := (els.zip outs).foldl (fun l x =>
        match x.2.v with
        | .keep => l
        | .zero => l.writeNat (ch.d.base + n * x.2.k) n 0
        | .tagged neg => l.writeNat (ch.d.base + n * x.2.k) n (wrap (8 * n) (if neg then -cap else cap))
        | _ => l.writeNat (ch.d.base + n * x.2.k) n (wrap (8 * n) x.1.1)) l
      let desc := List.flatten [bytesOf 2 (wrap 16 asum), bytesOf 1 ch.words,
        bytesOf 1 (b2n (ovf ≠ 0) + 2 * b2n (loss ≠ 0)), bytesOf 4 ovf, bytesOf 4 (min 0xFFFFFFFF loss), bytesOf 4 0]
      let s := s.modCore c fun q => { q with larder := l.writeBytes ch.d.scaleBase desc }
      s.finishOut c no ch.flagOut ch.flagBase outs (outs.map fun _ => {})
    else
      let (s, fl) := s.edge c ch.d ch.vl ol outs
      s.finishOut c no ch.flagOut ch.flagBase outs fl

/-- Run a checked chain of core c as entry `no` (R164 to R188). -/
def State.runChain (s : State) (c no : Nat) (ch : Chain) (tile : Nat → Word × VFlags) (anchors : Nat → Int)
    (mg qp kp wn : Nat) (olist : Nat) : State :=
  let ol : OutList := ⟨olist, ch.indexBase, ch.indexPitch, no⟩
  let mw : Bool := ch.stages.any (·.op = .mwadd)
  if mw && mwLow (s.core c).larder ch (anchors ch.anchorReg) then s.halt .anchorLow c no else
  let s := if mw then s.mwadd c no ch (anchors ch.anchorReg) mg qp kp wn ol
    else
      let l := (s.core c).larder
      let (outs, p, nas) := runVectors l tile ch mg qp kp wn (word (l.readNat ch.scalarAddr 4))
      let s := s.modCore c fun q => { q with vpipe := p }
      let s := if nas then s.raise .scaleNas c else s
      let (s, fl) := s.edge c ch.d ch.vl ol outs
      (s.finishOut c no ch.flagOut ch.flagBase outs fl).gatherFlags c no (p.flags.getD 0 {}) false
  s.fcount .VCOUNT_CHAINS 1 c

/-- MWADD on core c: run the chain that the command carries (R190). -/
def execMwadd (core : Nat) (ch : Chain) (s : State) : Out :=
  s.clocked (.mwadd core ch) <|
  let asum := s.fgetS .ANCHOR_VALUE core ch.anchorReg
  let no := s.fget .SEQ_ENTRY_NEXT core
  .next (match chainFault ch false 0 0 0 with
    | some code => s.halt code core no
    | none => s.runChain core no ch (fun _ => (0, {})) (fun r => if r = ch.anchorReg then asum else 0) 0 0 0 0 0)

end Sys2Proof.Machine
end

