-- ==== Sys2Proof/Machine/Engine.lean ====
section
/-! DEFINITION. The narrow product engine (R127 to R139, R505): operands in the larder (R132, R214), bands (R136), the
terms of a MATMUL (R128, R131, R141 to R144), its part of the wide reference (R62, R63), full-width adds (R157), and
outlier corrections (R59, R189, R217). -/

namespace Sys2Proof.Machine

/-! ### Operands -/

/-- An operand descriptor (R214): a stream descriptor with a pass pitch for lines and one for scales. -/
structure Operand where
  base : Nat
  lp : Nat
  bp : Nat
  sbase : Nat
  slp : Nat
  sbp : Nat
  fmt : Fmt
  pp : Nat
  spp : Nat
  deriving DecidableEq, Repr

/-- Read an operand descriptor: a reserved format code is BAD_FORMAT (R130), a kind other than LARDER, a flag, or a
field that breaks R132 is OPERAND_ALIGN (R214). -/
def readOperand (l : Mem) (a : Nat) : Except Code Operand :=
  if a % 32 ≠ 0 ∨ ¬ inLarder a 32 then .error .operandAlign else
  let fk := l.readNat (a + 22) 1
  match Fmt.ofCode (fk % 16) with
  | none => .error .badFormat
  | some f =>
    let o : Operand := ⟨l.readNat a 4, l.readNat (a + 4) 4, l.readNat (a + 8) 4, l.readNat (a + 12) 4,
      l.readNat (a + 16) 4, l.readNat (a + 20) 2, f, l.readNat (a + 24) 4, l.readNat (a + 28) 4⟩
    let u := if f.bits = 4 then 16 else 32
    if fk / 16 ≠ 0 ∨ l.readNat (a + 23) 1 ≠ 0 ∨ o.base % u ≠ 0 ∨ o.lp % u ≠ 0 ∨ o.bp % u ≠ 0 then .error .operandAlign
    else .ok o

/-- Larder address of the block or half-line that holds place `i` of a line of pass g (R132). -/
def Operand.blockAt (o : Operand) (g line i : Nat) : Nat := o.base + g * o.pp + line * o.lp + i / 32 * o.bp

/-- An element of an operand with its block scale: pass g, line, place in the line (R132). A 16-bit element has no
scale; 127 stands for it. -/
def Operand.elem (l : Mem) (o : Operand) (g line i : Nat) : Nat × Nat :=
  (readCode l o.fmt (o.blockAt g line i) (i % 32),
   if o.fmt.bits = 16 then 127
   else (l.read (o.sbase + g * o.spp + line * o.slp + i / 32 * o.sbp)).toNat)

/-- One pass of an operand, by outer index (row of A, column of B) and reduction element: a plain operand's lines run
along the reduction, a crossed one's across it (R133). -/
def Operand.pass (l : Mem) (o : Operand) (crossed : Bool) (g outer kp : Nat) : List (List (Nat × Nat)) :=
  (List.range outer).map fun i => (List.range kp).map fun k => if crossed then o.elem l g k i else o.elem l g i k

/-- The operand stays inside the larder over pass g (R132). -/
def Operand.fitsPass (o : Operand) (crossed : Bool) (g outer kp : Nat) : Bool :=
  let lines := if crossed then kp else outer
  let along := if crossed then outer else kp
  let half : Nat := if 32 < along then 1 else 0
  decide (o.base + g * o.pp + (lines - 1) * o.lp + half * o.bp + 4 * o.fmt.bits ≤ larderSize) &&
  (o.fmt.bits = 16 || decide (o.sbase + g * o.spp + (lines - 1) * o.slp + half * o.sbp + 1 ≤ larderSize))

/-- The 64 lines of pass g of a plain operand stay inside the larder at place `i` (R132). -/
def Operand.fitsLine (o : Operand) (g i : Nat) : Bool :=
  decide (o.blockAt g 63 i + 4 * o.fmt.bits ≤ larderSize) &&
  (o.fmt.bits = 16 || decide (o.sbase + g * o.spp + 63 * o.slp + i / 32 * o.sbp + 1 ≤ larderSize))

/-! ### Bands (R136) -/

/-- The band bases of a group's scales, smallest first; elements of a 0xFF block belong to none (R31). -/
def bandsOf (w : Nat) : Nat → List Nat → List Nat
  | 0, _ => []
  | fuel + 1, xs =>
    match (xs.filter (· ≠ 255)).min? with
    | none => []
    | some b => b :: bandsOf w fuel (xs.filter fun x => x ≠ 255 ∧ b + w < x)

/-- The elements of one band, shifted by scale minus base; the others are zero. -/
def bandInts (f : Fmt) (b : Nat) (xs : List (Nat × Nat)) : List Int :=
  xs.map fun x =>
    if x.2 = 255 ∨ x.2 < b ∨ b + bandW f < x.2 then 0
    else ((intForm f x.1).getD 0) * 2 ^ (x.2 - b)

/-- The block products of one group: an integer and the weight of its least significant bit per pair of bands (R128,
R136; which bands meet where both operands are crossed is read as every pair, DEDUCED, assumption 21). -/
def groupTerms (fa fb : Fmt) (xa xb : List (Nat × Nat)) : List (Int × Int) :=
  ((bandsOf (bandW fa) 32 (xa.map (·.2))).map fun ba => (ba, bandInts fa ba xa)).flatMap fun a =>
    (bandsOf (bandW fb) 32 (xb.map (·.2))).map fun (bb : Nat) =>
      (((a.2.zip (bandInts fb bb xb)).map fun p => p.1 * p.2).foldl (· + ·) 0,
       ((a.1 : Nat) : Int) + (bb : Nat) - 254 + fa.u + fb.u)

/-- The block exponent of a group (R141): by its largest element scales; none where a side is all 0xFF. -/
def groupExp (fa fb : Fmt) (w : Nat) (xa xb : List (Nat × Nat)) : Option Int :=
  let big (xs : List (Nat × Nat)) : Option Nat := ((xs.map (·.2)).filter (· ≠ 255)).max?
  match big xa, big xb with
  | some a, some b => some ((a : Int) + b + fa.u + fb.u + (w - 16))
  | _, _ => none

/-! ### 16-bit pairs (R131) -/

/-- Exact value of an element with its scale: zero in a 0xFF block; none for a NaN or an infinity (R505). -/
def exactElem (f : Fmt) (c sc : Nat) : Option Dy :=
  if sc = 255 then some Dy.zero else
  let v := match f.wide? with | some g => wideDecode g c | none => (narrowDecode f c).shift ((sc : Int) - 127)
  match v with
  | .fin n m e => some ⟨if n then -(m : Int) else m, e⟩
  | _ => none

/-- An element is a NaN or an infinity (R505). -/
def badElem (f : Fmt) (x : Nat × Nat) : Bool := (exactElem f x.1 x.2).isNone

/-! ### The wide reference of sampled tiles (R62, R63; DEDUCED, assumption 22) -/

/-- BF16 rounding of the committed page's master weight of element `i` of the cell-image block at module address `a`
(R63); none where no block of a tensor's cell image starts there in either page. -/
def State.masterAt (s : State) (a i : Nat) : Option Dy :=
  if !s.inPages a 16 then none else
  let base := if s.ledger.base0 ≤ a && a < s.ledger.base0 + s.ledger.span then s.ledger.base0 else s.ledger.base1
  s.ledger.tensors.findSome? fun t => (t.cellBlock (a - base)).map fun b =>
    let w := s.loadNat (s.committed + t.master + 4 * (32 * b + i)) 4
    match ((wideDecode fp32 w).round Machine.bf16).1 with
    | .fin n m e => ⟨if n then -(m : Int) else m, e⟩
    | _ => ⟨Config.nonFinite w, 0⟩

/-- The same for element `i` of the INT4 block at larder address `a`, where a LOAD brought a cell-image block there and
nothing has changed it since. -/
def State.masterOf (s : State) (c a i : Nat) : Option Dy :=
  match (s.core c).origin.find? (a / 16) with
  | some m => if a % 16 = 0 ∧ (s.core c).larder.readBytes a 16 = s.load m 16 then s.masterAt m i else none
  | none => none

/-- Master weights behind a pass of an operand, in the places of `Operand.pass`. -/
def Operand.masters (ms : Nat → Nat → Option Dy) (o : Operand) (crossed : Bool) (g outer kp : Nat) : List (List (Option Dy)) :=
  let at' (line i : Nat) : Option Dy := if o.fmt = .int4 then ms (o.blockAt g line i) (i % 32) else none
  (List.range outer).map fun i => (List.range kp).map fun k => if crossed then at' k i else at' i k

/-- Exact values of a pass with its cell-image elements replaced by their masters. -/
def wideVals (f : Fmt) (v : List (List (Nat × Nat))) (ms : List (List (Option Dy))) : List (List Dy) :=
  (v.zip ms).map fun r => (r.1.zip r.2).map fun x => x.2.getD ((exactElem f x.1.1 x.1.2).getD Dy.zero)

/-- Exact sums of a pass by tile element. -/
def widePass (a b : List (List Dy)) : List (Nat × Dy) :=
  a.zipIdx.flatMap fun x => b.zipIdx.map fun y =>
    (64 * x.2 + y.2, ((x.1.zip y.1).map fun p => p.1.mul p.2).foldl Dy.add Dy.zero)

/-- Add to the wide sums of a tile while sampling is on; `cell`: an operand comes from a cell image. -/
def State.addWide (s : State) (c t : Nat) (xs : List (Nat × Dy)) (cell : Bool) : State :=
  if s.plan.nwRate = 0 then s else
  s.modCore c fun k =>
    let x := k.tile t
    k.setTile t { x with wide := xs.foldl (fun m p => m.put p.1 ((m.get p.1 {}).add p.2)) x.wide, cell := x.cell || cell }

/-! ### MATMUL -/

/-- What a MATMUL does: its terms, flags and counts, plane Y as it leaves it, its wide sums and whether an operand comes
from a cell image. -/
structure MatPlan where
  pc : Nat
  terms : List Term
  low : Bool
  nas : Bool
  nv : Bool
  extra : Nat
  passes : Nat
  plane : PlaneY
  wide : List (Nat × Dy)
  cell : Bool
  deriving DecidableEq, Repr

/-- The terms of one pass. -/
def passTerms (pc : Nat) (fa fb : Fmt) (kp : Nat) (av bv : List (List (Nat × Nat))) : List Term :=
  av.zipIdx.flatMap fun a => bv.zipIdx.flatMap fun b =>
    if pc = 4 then
      (a.1.zip b.1).map fun p =>
        match exactElem fa p.1.1 p.1.2, exactElem fb p.2.1 p.2.2 with
        | some x, some y => ⟨64 * a.2 + b.2, (x.mul y).m, (x.mul y).e⟩
        | _, _ => ⟨64 * a.2 + b.2, 0, 0⟩
    else
      (List.range (kp / 32)).flatMap fun q =>
        (groupTerms fa fb ((a.1.drop (32 * q)).take 32) ((b.1.drop (32 * q)).take 32)).map fun t =>
          ⟨64 * a.2 + b.2, t.1, t.2⟩

/-- The groups of a pass, for anchors and bands. -/
def groupsOf (kp : Nat) (v : List (List (Nat × Nat))) : List (List (Nat × Nat)) :=
  v.flatMap fun r => (List.range (kp / 32)).map fun q => (r.drop (32 * q)).take 32

/-- A block exponent of the pass exceeds the anchor (R142). -/
def passLow (pc : Nat) (fa fb : Fmt) (kp : Nat) (av bv : List (List (Nat × Nat))) (anchor : Int) : Bool :=
  pc ≠ 4 && av.any fun a => bv.any fun b => (List.range (kp / 32)).any fun q =>
    match groupExp fa fb (pairW pc) ((a.drop (32 * q)).take 32) ((b.drop (32 * q)).take 32) with
    | some x => anchor < x
    | none => false

/-- Sub-passes of a pass (R137): one for a 16-bit pair. -/
def passBands (pc : Nat) (fa fb : Fmt) (kp : Nat) (av bv : List (List (Nat × Nat))) : Nat :=
  if pc = 4 then 1 else
  let n (f : Fmt) (v : List (List (Nat × Nat))) : Nat :=
    ((groupsOf kp v).map fun g => (bandsOf (bandW f) 32 (g.map (·.2))).length).foldl max 1
  max (n fa av) (n fb bv)

/-- Plane Y's cells as B of a pass (R213): cells that it does not hold read as code 0 (DESIGN CHOICE, assumption 20). -/
def planePass (p : PlaneY) (start n kp : Nat) : List (List (Nat × Nat)) :=
  (List.range n).map fun j => (List.range kp).map fun k => ((p.cols.getD j []).getD (start + k) (0, 127))

/-- Master weights behind plane Y's cells. -/
def planeMasters (p : PlaneY) (start n kp : Nat) : List (List (Option Dy)) :=
  (List.range n).map fun j => (List.range kp).map fun k => ((p.masters.getD j []).getD (start + k) none)

/-- Plan a MATMUL over the larder, the master weights behind its blocks, the core's plane Y and the anchor: the fault it
raises, or what it adds. -/
def planMatmul (l : Mem) (ms : Nat → Nat → Option Dy) (y : PlaneY) (f : MatmulF) (anchor : Int) : Except Code MatPlan :=
  match readOperand l f.adesc, (if f.breuse then .ok none else (readOperand l f.bdesc).map some) with
  | .error e, _ => .error e
  | _, .error e => .error e
  | .ok a, .ok ob =>
    let fb := match ob with | some b => b.fmt | none => (Fmt.ofCode y.fmt).getD .int4
    match pairClass a.fmt fb with
    | none => .error .badFormat
    | some pc =>
      let per := if pc = 4 then 32 else 64
      let m := f.m + 1
      let n := f.n + 1
      let k := 32 * f.kb
      let passes := ceilDiv k per
      let kp (g : Nat) : Nat := min per (k - g * per)
      let fits (g : Nat) : Bool := a.fitsPass f.across g m (kp g) &&
        (match ob with | some b => b.fitsPass f.bcross g n (kp g) | none => true)
      if !((List.range passes).all fits) then .error .operandAlign else
      let av (g : Nat) := a.pass l f.across g m (kp g)
      let bv (g : Nat) := match ob with | some b => b.pass l f.bcross g n (kp g) | none => planePass y (g * per) n (kp g)
      let am (g : Nat) := a.masters ms f.across g m (kp g)
      let bm (g : Nat) := match ob with | some b => b.masters ms f.bcross g n (kp g) | none => planeMasters y (g * per) n (kp g)
      let gs := List.range passes
      let nasIn (v : List (List (Nat × Nat))) : Bool := v.any fun r => r.any (·.2 = 255)
      let nvIn (h : Fmt) (v : List (List (Nat × Nat))) : Bool := v.any fun r => r.any (badElem h)
      let left : PlaneY := match ob with
        | some b => ⟨b.fmt.code, f.bcross, bv (passes - 1), bm (passes - 1)⟩
        | none => y
      .ok { pc := pc
            terms := gs.flatMap fun g => passTerms pc a.fmt fb (kp g) (av g) (bv g)
            low := gs.any fun g => passLow pc a.fmt fb (kp g) (av g) (bv g) anchor
            nas := gs.any fun g => nasIn (av g) || nasIn (bv g)
            nv := gs.any fun g => nvIn a.fmt (av g) || nvIn fb (bv g)
            extra := (gs.map fun g => passBands pc a.fmt fb (kp g) (av g) (bv g) - 1).foldl (· + ·) 0
            passes := passes, plane := left
            wide := gs.flatMap fun g => widePass (wideVals a.fmt (av g) (am g)) (wideVals fb (bv g) (bm g))
            cell := gs.any fun g => (am g ++ bm g).any fun r => r.any (·.isSome) }

/-- NV of the product engine (R505). -/
def State.engineNv (s : State) (c no : Nat) : State := s.gatherFlags c no { nv := true } false

/-- Start a MATMUL of core `c` as entry `no`: faults halt the core, otherwise its terms are added. -/
def State.startMatmul (s : State) (c no : Nat) (f : MatmulF) (anchor : Int) : State :=
  let ms : Nat → Nat → Option Dy := if s.plan.nwRate = 0 then fun _ _ => none else s.masterOf c
  match planMatmul (s.core c).larder ms (s.core c).planeY f anchor with
  | .error e => s.halt e c no
  | .ok p =>
    match s.accumConflict c f.tile f.start anchor p.pc with
    | some r => s.conflict c f.tile r no
    | none =>
      if p.low then s.halt .anchorLow c no else
      let layer := layerOfEntry c no
      let s := s.openTile c f.tile f.start anchor p.pc
      let s := (s.addTerms c f.tile anchor layer p.terms).addWide c f.tile p.wide p.cell
      let s := if p.nas then s.raise .scaleNas c else s
      let s := if p.nv then s.engineNv c no else s
      let s := s.fcount .ENGINE_COUNT_BAND_PASSES p.extra c
      let s := s.modCore c fun k => { k with planeY := p.plane }
      { s with stats := { s.stats with
          bands := layerCount s.stats.bands layer p.extra
          crossed := layerCount s.stats.crossed layer (if f.across then p.passes else 0) } }

/-! ### FWADD (R157, R215) -/

/-- A record's element. -/
def recordElem (l : Mem) (a i : Nat) : Int := signed 128 (l.readNat (a + 16 * i) 16)

/-- Start a full-width add of core `c`. -/
def State.startFwadd (s : State) (c no : Nat) (f : FwaddF) : State :=
  let l := (s.core c).larder
  if f.record % 32 ≠ 0 ∨ f.rdesc % 16 ≠ 0 ∨ ¬ inLarder f.record 65536 ∨ ¬ inLarder f.rdesc 16
  then s.halt .operandAlign c no else
  let anchor := signed 16 (l.readNat f.rdesc 2)
  let pc := l.readNat (f.rdesc + 2) 1
  let tagged := bit (l.readNat (f.rdesc + 3) 1) 0
  match s.accumConflict c f.tile f.start anchor pc with
  | some r => s.conflict c f.tile r no
  | none =>
    let s := s.openTile c f.tile f.start anchor pc
    let els := (List.range 4096).map fun i => recordElem l f.record i
    let s := s.addTerms c f.tile anchor (layerOfEntry c no) (els.zipIdx.map fun x => ⟨x.2, x.1, anchor - 342⟩)
    let s := s.addWide c f.tile (els.zipIdx.map fun x => (x.2, ⟨x.1, anchor - 342⟩)) false
    if tagged then
      els.zipIdx.foldl (fun s x => if x.1 = 2 ^ 127 - 1 ∨ x.1 = -(2 ^ 127 - 1) then s.tagElem c f.tile x.2 else s) s
    else s

/-! ### Anchors (R216) -/

/-- The largest scale byte of a list, leaving out 0xFF; 0 where there is none. -/
def maxScale (l : Mem) (a cnt : Nat) : Nat := ((l.readBytes a cnt).map (·.toNat)).foldl (fun m x => if x = 255 then m else max m x) 0

/-- The largest anchor field of descriptors 16 bytes apart. -/
def maxAnchor (l : Mem) (a cnt : Nat) : Int :=
  ((List.range cnt).map fun i => signed 16 (l.readNat (a + 16 * i) 2)).foldl max (-32768)

/-! ### Outlier corrections (R59, R189, R217) -/

/-- Format of a code number; narrow formats are 0 to 6. -/
def fmtOf (n : Nat) : Fmt := (Fmt.ofCode n).getD .int4

/-- One correction on element (row, n): its FP32 value; none where w is a NaN or an infinity. (DEDUCED, assumption 35.) -/
def correction (l : Mem) (w : Operand) (per : Nat) (e : OutEntry) (k n : Nat) : Option XVal :=
  let x := w.elem l (k / per) n (k % per)
  match exactElem w.fmt x.1 x.2 with
  | none => none
  | some wv =>
    let f := fmtOf e.fmt
    match wideDecode Machine.fp16 e.value, narrowDecode f e.code with
    | .fin n1 m1 e1, .fin n2 m2 e2 =>
      let d := Dy.add ⟨if n1 then -(m1 : Int) else m1, e1⟩ ⟨if n2 then (m2 : Int) else -(m2 : Int), e2⟩
      let p := (Dy.mul d wv)
      some ((XVal.ofDy ⟨p.m, p.e + (e.scale : Int) - 127⟩).round Machine.fp32).1
    | _, _ => some (.fin false 0 0)

/-- Apply a tile's corrections from list `clist` before its drain (R149): entries whose row lies in the tile. A pass of the
drain's operand that runs past the larder's end raises OPERAND_ALIGN before any correction (R132, R239); a 0xFF block that
a correction reads raises SCALE_NAS (R31). (DEDUCED, assumption 35.) -/
def State.correctTile (s : State) (c no t clist wdesc rowbase : Nat) : State :=
  match (s.core c).hdr with
  | none => s
  | some h =>
    match h.olists[clist - 1]? with
    | none => s
    | some (_, _, _, rl, _) =>
      let es := ((s.core c).olists.get clist []).filter fun e =>
        rowbase ≤ e.index / max 1 rl ∧ e.index / max 1 rl ≤ rowbase + 63
      if clist = 0 ∨ es = [] then s else
      let l := (s.core c).larder
      match readOperand l wdesc with
      | .error e => s.halt e c no
      | .ok w =>
        let anchor := s.fgetS .GLACIER_STATUS_ANCHOR c t
        let per (e : OutEntry) : Nat := if pairClass (fmtOf e.fmt) w.fmt = some 4 then 32 else 64
        if !(es.all fun e => w.fitsLine (e.index % max 1 rl / per e) (e.index % max 1 rl % per e)) then
          s.halt .operandAlign c no else
        let nas := w.fmt.bits ≠ 16 && es.any fun e => (List.range 64).any fun n =>
          (w.elem l (e.index % max 1 rl / per e) n (e.index % max 1 rl % per e)).2 = 255
        let s := if nas then s.raise .scaleNas c else s
        es.foldl (fun s e =>
          let row := e.index / max 1 rl - rowbase
          (List.range 64).foldl (fun s n =>
            match correction l w (per e) e (e.index % max 1 rl) n with
            | none => s.engineNv c no
            | some (.fin ng m x) =>
              s.addTerms c t anchor (layerOfEntry c no) [⟨64 * row + n, if ng then -(m : Int) else m, x⟩]
            | some _ => s.tagElem c t (64 * row + n)) s) s

end Sys2Proof.Machine
end

