-- ==== Sys2Proof/Machine/Sampling.lean ====
section
/-! DEFINITION. Sampling of drained tiles against the wide reference (R62 to R64): which tiles are sampled, the comparison
of the narrow output with it, and the figures of R66. -/

namespace Sys2Proof.Machine

/-- The spacing of a narrow format at a code under a block scale (R63): the distance to the adjacent value of larger
magnitude, at the largest value to that of smaller. -/
def spacing (f : Fmt) (code scale : Nat) : Dy :=
  let mag (c : Nat) : Dy := (narrowDecode f c).toDy.abs
  let d : Dy := match f with
    | .int4 | .int8 | .uint8 => ⟨1, 0⟩
    | _ =>
      let c := code % 2 ^ (f.bits - 1)
      if c = narrowMax f false then (mag c).add (mag (c - 1)).neg else (mag (c + 1)).add (mag c).neg
  ⟨d.m, d.e + scale - 127⟩

/-- An exact sum rounded once to FP32 (R63). -/
def roundRef (d : Dy) : Dy :=
  match ((XVal.ofDy d).round fp32).1 with
  | .fin n m e => ⟨if n then -(m : Int) else m, e⟩
  | v => ⟨Config.nonFinite (v.encode fp32), 0⟩

/-- The larger of two numbers. -/
def Dy.max (a b : Dy) : Dy := if a.lt b then b else a

/-- FP32 bits of a quotient of two magnitudes, rounded to nearest; by zero a free value. (DESIGN CHOICE, assumption 22.) -/
def quotF32 (a b : Dy) : Nat :=
  if b.m = 0 then Config.overZero a.m.natAbs % 2 ^ 32 else
  let q := divSticky a.m.natAbs a.e b.m.natAbs b.e
  (roundFp fp32 false q.1 q.2).1.encode fp32

/-- What a sampled tile shows: elements that agree, sums and largest values of the differences and references. -/
structure NwCmp where
  agree : Nat := 0
  diff : Dy := {}
  ref : Dy := {}
  maxDiff : Dy := {}
  maxRef : Dy := {}
  deriving DecidableEq, Repr

/-- One element of a narrow output compared with its reference (R63). -/
def NwCmp.element (x : NwCmp) (out ref step : Dy) : NwCmp :=
  let d := (out.add ref.neg).abs
  { agree := x.agree + b2n (!step.lt d), diff := x.diff.add d, ref := x.ref.add ref.abs
    maxDiff := x.maxDiff.max d, maxRef := x.maxRef.max ref.abs }

/-- The narrow output of a tile in the larder compared with its wide sums, element by element (R63). -/
def nwCompare (l : Mem) (f : Fmt) (d : Stream) (wide : SMap Dy) : NwCmp :=
  (List.range 4096).foldl (fun x i =>
    let code := readCode l f (blockAddr d i) (i % 32)
    let scale := (l.read (scaleAddr d i)).toNat
    let out := if scale = 255 then Dy.zero else ((narrowDecode f code).shift ((scale : Int) - 127)).toDy
    x.element out (roundRef (wide.get i {})) (spacing f code scale)) {}

/-- A NARROW drain of a tile that has a cell-image operand takes the core's next number, and is sampled when its number and
the step say so (R62); the figures go to the layer's sums (R64, R66). (DEDUCED, assumption 22.) -/
def State.nwSample (s : State) (c no : Nat) (d : Stream) (x : Tile) : State :=
  let k := s.plan.nwRate
  if k = 0 ∨ !x.cell then s else
  let t := (s.core c).nwTile
  let s := s.modCore c fun q => { q with nwTile := t + 1 }
  match decide ((t + s.job.stepCounter + 1) % 2 ^ k = 0), Fmt.ofCode d.fmt with
  | true, some f =>
    let layer := layerOfEntry c no
    let r := nwCompare (s.core c).larder f d x.wide
    let ratio := quotF32 r.maxDiff r.maxRef
    { s with stats := { s.stats with
        nwSamples := layerCount s.stats.nwSamples layer 1
        nwElems := layerCount s.stats.nwElems layer 4096
        nwAgree := layerCount s.stats.nwAgree layer r.agree
        nwDiff := s.stats.nwDiff.put layer ((s.stats.nwDiff.get layer {}).add r.diff)
        nwRef := s.stats.nwRef.put layer ((s.stats.nwRef.get layer {}).add r.ref)
        nwMax := s.stats.nwMax.put layer (max (s.stats.nwMax.get layer 0) ratio) } }
  | _, _ => s

end Sys2Proof.Machine
end

