-- ==== Sys2Proof/Machine/Snoop.lean ====
section
/-! DEFINITION. What the general check-value units see of the streams they watch (R386). -/

namespace Sys2Proof.Machine

/-- A general unit beside its registers. -/
def State.gu (s : State) (u : Nat) : Gu := s.gus.get u {}

/-- Change a general unit. -/
def State.modGu (s : State) (u : Nat) (f : Gu → Gu) : State := { s with gus := s.gus.modify u {} f }

/-- A stream of R386: SOURCE, the core of a NOC tap, the channel or class, the other module. -/
structure GuStream where
  source : Nat
  core : Nat := 0
  channel : Nat
  peer : Nat := 0

/-- The unit is armed and watches the stream (R386): PEER 0xFFFF takes any module. -/
def State.watches (s : State) (u : Nat) (x : GuStream) : Bool :=
  s.fon .GU_STATUS_BUSY u && s.fget .GU_SNOOP_SOURCE u = x.source && s.fget .GU_SNOOP_CHANNEL u = x.channel
    && (x.source ≠ 1 || s.fget .GU_SNOOP_CORE u = x.core)
    && (x.source < 3 || s.fget .GU_PEER_PEER u = 0xFFFF || s.fget .GU_PEER_PEER u = x.peer)

/-- A stream has delivered an item, or an item of it was aborted (R386, R387): it is due at every unit that watches. An item
without a sequence number of its own takes its place since START. -/
def State.snooped (s : State) (x : GuStream) (addr : Nat) (seq : Option Nat) (data : List Byte) (aborted : Bool := false) :
    State :=
  (List.range 11).foldl (fun s i =>
    if s.watches (5 + i) x then s.modGu (5 + i) fun g => { g with
      items := g.items + 1, due := g.due ++ [⟨addr, seq.getD g.items, data, aborted⟩] } else s) s

end Sys2Proof.Machine
end

