-- ==== Sys2Proof/Machine/Seq.lean ====
section
/-! DEFINITION. The timetable sequencer's shared operations (R197 to R205, R226, R227): unit queues, issue, token counters,
messages between cores (R203, R219), completion, and what ends a section. -/

namespace Sys2Proof.Machine

/-! ### Unit queues (R197, R198) -/

/-- The queue of a unit: 0 MOVER, 1 ARRAY, 2 WRITE, 3 ENGINE, 4 VECTOR, 5 NET. -/
def Core.queue (k : Core) : Nat → List QItem
  | 0 => k.qMover | 1 => k.qArray | 2 => k.qWrite | 3 => k.qEngine | 4 => k.qVector | 5 => k.qNet | _ => []

/-- Replace a unit's queue. -/
def Core.setQueue (k : Core) (u : Nat) (q : List QItem) : Core :=
  match u with
  | 0 => { k with qMover := q } | 1 => { k with qArray := q } | 2 => { k with qWrite := q }
  | 3 => { k with qEngine := q } | 4 => { k with qVector := q } | 5 => { k with qNet := q } | _ => k

/-- Every entry of the units in a mask has completed. -/
def Core.unitsDone (k : Core) (mask : Nat) : Bool := (List.range 6).all fun u => !bit mask u || (k.queue u).isEmpty

/-- Nothing is in flight on the core: units, fix-ups and watch samples (R148, R355). -/
def Core.allDone (k : Core) : Bool := k.unitsDone 63 && k.fixups.isEmpty && k.watch.isEmpty

/-- BUSY of the engine follows its queue (R161). -/
def State.engineBusy (s : State) (c : Nat) : State :=
  let b := b2n (!(s.core c).qEngine.isEmpty)
  if s.fget .ENGINE_STATUS_BUSY c = b then s else s.fset .ENGINE_STATUS_BUSY b c

/-- Put an entry into a unit's queue. -/
def State.enqueue (s : State) (c u : Nat) (it : QItem) : State :=
  (s.modCore c fun k => k.setQueue u (k.queue u ++ [it])).engineBusy c

/-- The core has halted (R150). -/
def State.halted (s : State) (c : Nat) : Bool := s.seqState c = 5

/-- The sequencer may issue: it runs a section, nothing holds it, and the attempt has not stopped (R198, R359). -/
def State.canIssue (s : State) (c : Nat) : Bool :=
  let st := s.seqState c
  s.clockOn c false && (st = 1 || st = 3 || st = 4) && (s.core c).hold.isNone && !(st = 1 && s.job.stopped)

/-! ### Token counters (R200 to R202) -/

/-- The end of an epilogue or restore section: its last entry has issued and every unit is done (R226, R227). -/
def State.sectionEnd (s : State) (c : Nat) : State :=
  let k := s.core c
  match k.hdr with
  | none => s
  | some h =>
    let next := s.fget .SEQ_ENTRY_NEXT c
    let st := s.seqState c
    if k.hold.isNone ∧ k.allDone ∧ ((st = 3 ∧ h.restore ≤ next) ∨ (st = 4 ∧ h.entryCount ≤ next)) then
      { s.fset .SEQ_STATUS_STATE 0 c with job := { s.job with epilogue := s.job.epilogue.filter (· ≠ c) } }
    else s

/-- Entry number of a signal that no entry of the receiving core raised (DESIGN CHOICE, assumption 99). -/
def noEntry : Nat := 0xFFFFFFFF

/-- A counter takes `n`; a sum beyond 65,535 stays there and raises TOKEN_OVF (R201), as entry `no` (R240). -/
def State.tokenPut (s : State) (c t n no : Nat) : State :=
  let v := s.fget .TOKEN_COUNT c t + n
  if 65535 < v then (s.fset .TOKEN_COUNT 65535 c t).halt .tokenOvf c no
  else s.fset .TOKEN_COUNT v c t

/-- The entry that was issued last: what holds issue. -/
def State.lastIssued (s : State) (c : Nat) : Nat := s.fget .SEQ_ENTRY_NEXT c - 1

/-- A WAIT_TOKEN that holds issue tests its counter, and subtracts where it can end (R201, R202); a section whose last
entry it was ends with it. (DEDUCED, assumption 26.) -/
def State.endWait (s : State) (c : Nat) : State :=
  match (s.core c).hold with
  | some (.wait f m) =>
    let v := s.fget .TOKEN_COUNT c f.token
    if v < f.count ∨ s.halted c then s else
    let s := if f.keep then s else s.fset .TOKEN_COUNT (v - f.count) c f.token
    let s := (s.modCore c fun k => { k with hold := none }).fset .SEQ_STATUS_WAITING 0 c
    (if m.csig then s.tokenPut c m.ctoken 1 (s.lastIssued c) else s).sectionEnd c
  | _ => s

/-- Add to a counter; a WAIT_TOKEN pending on the core then tests (R202). (DEDUCED, assumption 26.) -/
def State.tokenAdd (s : State) (c t n : Nat) (no : Nat := noEntry) : State := (s.tokenPut c t n no).endWait c

/-- The completion signal of entry `no` (R199, R206). -/
def State.csignal (s : State) (c : Nat) (m : Cmn) (no : Nat) : State := if m.csig then s.tokenAdd c m.ctoken 1 no else s

/-- The plan runs on core `c`. -/
def State.hasPlan (s : State) (c : Nat) : Bool := (s.core c).hdr.isSome

/-- A signal reaches core `dst` of this module, whatever section it runs (R202). -/
def State.signalCore (s : State) (dst t n : Nat) : State := if s.hasPlan dst then s.tokenAdd dst t n else s

/-! ### Writing module memory from a core (R19, R247, R283) -/

/-- A write of memory sets the ready words it touches (R283). -/
def State.noteReady (s : State) (a n : Nat) : State :=
  let x := s.exch
  if !x.loaded ∨ n = 0 ∨ !s.running ∨ a + n ≤ x.readyBase ∨ x.readyBase + 131072 ≤ a then s else
  let lo := (max a x.readyBase - x.readyBase) / 32
  let hi := (min (a + n) (x.readyBase + 131072) - 1 - x.readyBase) / 32
  let new := ((List.range (hi - lo + 1)).map (· + lo)).filter fun c => c ∉ x.ready
  if new = [] then s else
  { s.fset .EXCH_STATUS_READY_CORES (x.ready.length + new.length) with exch := { x with ready := x.ready ++ new } }

/-- Bytes of a result page's user area and of the stage area it is copied from (R401, R403). -/
def userBytes : Nat := 4032

/-- An epilogue write into the result stage area leaves the User bytes of the page undefined (R403): free values.
(DESIGN CHOICE, assumption 50.) -/
def State.stageHook (s : State) (a n : Nat) : State :=
  let st := s.job.host.stage
  if s.fget .COMMIT_STATUS_PHASE ≠ 5 ∨ st = 0 ∨ n = 0 ∨ a + n ≤ st ∨ st + userBytes ≤ a then s else
  let p := s.fget .RESULT_LATEST_PAGE
  let (i, s) := s.draw userBytes
  let user := (List.range userBytes).map fun k => BitVec.ofNat 8 (Config.freeNat (i + k))
  { s with host := { s.host with pages := s.host.pages.put p ((s.host.pages.get p []).take 64 ++ user) } }

/-- A core's write of memory that raises no fault of its own. -/
def State.coreWrite (s : State) (c a : Nat) (bs : List Byte) : State :=
  ((s.writeMem a bs (some c)).noteReady a bs.length).stageHook a bs.length

/-! ### Messages (R203, R219) -/

/-- Bytes that a message occupies in the holding buffer. -/
def Msg.size (m : Msg) : Nat := m.data.length

/-- Two messages come from one source. -/
def Msg.sameSource (a b : Msg) : Bool := a.loc = b.loc && a.srcCore = b.srcCore && (a.loc || a.srcMod = b.srcMod)

/-- This module's fabric address (R320). -/
def State.address (s : State) : Nat := s.dval 0x6000 1 0xFFFF

/-- A fabric address is this module's own; 0xFFFF is none (R320). -/
def State.isOwn (s : State) (a : Nat) : Bool := a = s.address && a ≠ 0xFFFF

/-- The message matches a RECV by channel and source (R219), `own` telling this module's address: a source on this module
is one, by LOCAL or by its address. -/
def Msg.matches (m : Msg) (own : Nat → Bool) (f : RecvF) : Bool :=
  !m.isSignal && m.channel = f.channel && m.srcCore = f.score && m.loc = (f.loc || own f.smod) && (m.loc || m.srcMod = f.smod)

/-- What stays of a message that is written: its arrival signal, if it has one. -/
def Msg.arrival (m : Msg) : List Msg := if m.dsig then [{ m with data := [], isSignal := true, count := 1 }] else []

/-- A list of waiting messages with `m` replaced by its arrival signal. -/
def toArrival (m : Msg) : List Msg → List Msg
  | [] => []
  | x :: r => if x = m then m.arrival ++ r else x :: toArrival m r

/-- Signals that no earlier unwritten message of their source precedes (R203), `seen` unwritten ones before the list: what
stays, and the signals. -/
def splitSignals (seen : List Msg) : List Msg → List Msg × List Msg
  | [] => ([], [])
  | m :: r =>
    if m.isSignal then
      let x := splitSignals seen r
      if seen.any (·.sameSource m) then (m :: x.1, x.2) else (x.1, m :: x.2)
    else
      let x := splitSignals (m :: seen) r
      (m :: x.1, x.2)

/-- Apply the signals whose turn has come (R203). -/
def State.releaseSignals (s : State) (dst : Nat) : State :=
  let k := s.core dst
  let h := splitSignals [] k.holding
  let b := splitSignals (k.holding.filter (!·.isSignal)) k.backlog
  if h.2 = [] ∧ b.2 = [] then s else
  (h.2 ++ b.2).foldl (fun s m => s.tokenAdd dst m.dtoken m.count)
    (s.modCore dst fun k => { k with holding := h.1, backlog := b.1 })

/-- Write a message to its RECV: the entry is marked and the data written; then `sig` deals with its arrival signal, and the
message is delivered for a NOC tap (R386). -/
def State.writeMsg (s : State) (dst : Nat) (it : QItem) (f : RecvF) (m : Msg) (sig : State → State) : State :=
  if (f.len + 1) * 32 < m.size then s.halt .msgLength dst it.no else
  let s := s.modCore dst fun k => { k with qNet := k.qNet.map fun x => if x.no = it.no then { x with sent := true } else x }
  if f.dstMem then
    let a := s.effAddr ⟨f.dst / 2 ^ 40, f.dst % 2 ^ 40⟩
    match s.writeFault a m.size with
    | some e => s.halt e dst it.no
    | none => (sig (s.coreWrite dst a m.data)).snooped ⟨1, dst, m.channel, 0⟩ a none m.data
  else
    let a := f.dst % 2 ^ 19
    if inLarder a m.size then
      (sig (s.modCore dst fun k => { k with larder := k.larder.writeBytes a m.data })).snooped ⟨1, dst, m.channel, 0⟩ a none m.data
    else s.halt .operandAlign dst it.no

/-- The oldest RECV that a message matches and no message has met. -/
def Core.recvFor (k : Core) (own : Nat → Bool) (m : Msg) : Option (QItem × RecvF) :=
  k.qNet.findSome? fun it => match it.entry with
    | .recv f => if !it.sent && m.matches own f then some (it, f) else none
    | _ => none

/-- Bytes in the holding buffer. -/
def Core.held (k : Core) : Nat := (k.holding.map Msg.size).foldl (· + ·) 0

/-- A message arrives in its place of the source's order: to its RECV, to the holding buffer while it has room, or it
waits in the network or behind fabric credits (R219). A signal, and the arrival signal of a message that is written, waits
behind earlier unwritten messages of its source (R203). -/
def State.arrive (s : State) (dst : Nat) (m : Msg) : State :=
  let k := s.core dst
  if !s.hasPlan dst then s
  else if m.isSignal then
    if (k.holding ++ k.backlog).any fun x => x.sameSource m && !x.isSignal then
      s.modCore dst fun k => { k with backlog := k.backlog ++ [m] }
    else s.tokenAdd dst m.dtoken m.count
  else
    match (if k.backlog.any (fun x => x.sameSource m && !x.isSignal) then none else k.recvFor s.isOwn m) with
    | some (it, f) => s.writeMsg dst it f m fun s =>
        (s.modCore dst fun k => { k with holding := k.holding ++ m.arrival }).releaseSignals dst
    | none =>
      if k.backlog.all (fun x => x.isSignal || !x.sameSource m) && k.held + m.size ≤ 65536 then
        s.modCore dst fun k => { k with holding := k.holding ++ [m] }
      else s.modCore dst fun k => { k with backlog := k.backlog ++ [m] }

/-- Let waiting messages move on, oldest first, after a RECV has taken one. -/
def State.drainBacklog (s : State) (dst : Nat) : State :=
  let old := (s.core dst).backlog
  if old = [] then s else
  old.foldl (fun s m => s.arrive dst m) (s.modCore dst fun k => { k with backlog := [] })

/-- A RECV takes the oldest message that waits for it. -/
def State.takeHeld (s : State) (dst : Nat) (it : QItem) (f : RecvF) : State :=
  let own := s.isOwn
  match (s.core dst).holding.find? (·.matches own f) with
  | some m => s.writeMsg dst it f m fun s =>
      ((s.modCore dst fun k => { k with holding := toArrival m k.holding }).releaseSignals dst).drainBacklog dst
  | none =>
    let wait := (s.core dst).backlog
    match wait.find? (fun m => m.matches own f && wait.find? (fun x => x.sameSource m && !x.isSignal) = some m) with
    | some m => s.writeMsg dst it f m fun s =>
        ((s.modCore dst fun k => { k with backlog := toArrival m k.backlog }).releaseSignals dst).drainBacklog dst
    | none => s

/-- Send a message or a signal to a core of this module or of another, under the step and attempt number of the attempt in
progress or last made (R203, R219). -/
def State.route (s : State) (loc : Bool) (dmod dcore : Nat) (m : Msg) : State :=
  let here : Bool := loc || s.isOwn dmod
  let m := { m with loc := here, srcMod := s.address, step := s.job.curStep, attempt := s.job.curAttempt }
  if here then s.arrive dcore m
  else { s with netOut := s.netOut ++ [(dmod, .data dcore m)] }

/-! ### Reports and the end of a section (R204, R205, R227, R304) -/

/-- A core reports its check status to the hub die. -/
def State.report (s : State) (c : Nat) : State :=
  let s := { s.fset .SEQ_STATUS_STATE 2 c with
    job := { s.job with reported := if c ∈ s.job.reported then s.job.reported else s.job.reported ++ [c] } }
  s.starved

/-- The core has reached COMMIT_POINT with every unit done: every counter must be 0 (R205). -/
def State.commitPoint (s : State) (c : Nat) : State :=
  let s := if (List.range 64).any fun t => s.fget .TOKEN_COUNT c t ≠ 0 then s.raise .tokenResidue c else s
  s.report c

/-- Finish what holds issue, if it can end (R198, R201, R205). (DEDUCED, assumption 25.) -/
def State.settle (s : State) (c : Nat) : State :=
  let k := s.core c
  let free (s : State) : State := s.modCore c fun k => { k with hold := none }
  match k.hold with
  | none => s
  | some (.wait _ _) => s.endWait c
  | some (.fence u m) => if k.unitsDone (if u = 0 then 63 else u) then (free s).csignal c m (s.lastIssued c) else s
  | some (.signal f m) =>
    if k.unitsDone f.units then
      let s := free s
      let g : Msg := { srcMod := 0, srcCore := c, isSignal := true, dtoken := f.token, count := f.count }
      let s := if f.self then s.tokenAdd c f.token f.count (s.lastIssued c) else s.route f.loc f.dmod f.dcore g
      s.csignal c m (s.lastIssued c)
    else s
  | some (.point _) => if k.allDone then (free s).commitPoint c else s

/-! ### The vector unit starts its entries one at a time (R165, R149) -/

/-- The tile of an accumulating entry. -/
def accumTile : Entry → Option Nat
  | .matmul f => some f.tile | .fwadd f => some f.tile | .arrayMvm f => some f.tile | _ => none

/-- An accumulating entry before number `no` on tile `t` has not completed. -/
def Core.tileBusy (k : Core) (t no : Nat) : Bool :=
  (k.qEngine ++ k.qArray).any fun it => accumTile it.entry = some t && it.no < no

/-- The tagged elements of a tile as it drains (R146), of every kind of drain (R153; DESIGN CHOICE, assumption 105). -/
def State.countOvf (s : State) (c t no : Nat) : State :=
  let n := ((((s.core c).tile t).elems.filter fun x => x.2.tag).length)
  { s.fcount .GLACIER_COUNT_OVF_ELEMS n c t with
    stats := { s.stats with headroom := layerCount s.stats.headroom (layerOfEntry c no) n } }

/-- The elements of a tile as outputs of a NARROW or WIDE drain: exact, rounded once at the edge (R153). -/
def tileOuts (x : Tile) (anchor : Int) : List OutEl :=
  (List.range 4096).map fun i =>
    let e := x.elems.get i {}
    { k := i, v := if e.tag then .tagged e.val.msb else .exact (e.value anchor) }

/-- A DRAIN reads its tile (R149 to R156): corrections, tile DRAINING, each element read once and cleared. -/
def State.startDrain (s : State) (c : Nat) (it : QItem) (t clist wdesc rowbase olist : Nat)
    (full : Option (Nat × Nat)) (narrow vec : Bool) : State :=
  if s.tileState c t ≠ 1 then s.conflict c t 5 it.no else
  let s := s.correctTile c it.no t clist wdesc rowbase
  if s.halted c then s else
  let x := (s.core c).tile t
  let anchor := s.fgetS .GLACIER_STATUS_ANCHOR c t
  let pc := s.fget .GLACIER_STATUS_PAIR_CLASS c t
  let s := (s.fset .GLACIER_STATUS_STATE 2 c t).countOvf c t it.no
  let s := s.modCore c (·.setTile t {})
  match full, it.chain with
  | some (a, d), _ =>
    let ovf := (x.elems.filter fun e => e.2.tag).length
    let rec' := List.flatten ((List.range 4096).map fun i => (x.elems.get i {}).recordBytes)
    s.modCore c fun k => { k with larder := (k.larder.writeBytes a rec').writeBytes d (recordDesc anchor pc ovf x.loss) }
  | none, some ch =>
    if vec then
      s.runChain c it.no ch (fun i => (x.elems.get i {}).lane32 anchor) (fun _ => it.anchor) 0 0 0 0 olist
    else
      let outs := tileOuts x anchor
      let (s, fl) := s.edge c ch.d 64 ⟨olist, ch.indexBase, ch.indexPitch, it.no⟩ outs
      let s := (s.finishOut c it.no false 0 outs fl).fcount .VCOUNT_CHAINS 1 c
      if narrow then s.nwSample c it.no ch.d x else s
  | none, none => s

/-- Start an entry of the vector unit. (DESIGN CHOICE, assumption 29.) -/
def State.startVector (s : State) (c : Nat) (it : QItem) : State :=
  match it.entry with
  | .vstream f =>
    match it.chain with
    | some ch => s.runChain c it.no ch (fun _ => (0, {})) (fun _ => it.anchor) f.maskgen f.qpos f.kpos f.window f.olist
    | none => s
  | .drainNarrow f => s.startDrain c it f.tile f.clist f.wdesc f.rowbase f.olist none true false
  | .drainWide f => s.startDrain c it f.tile f.clist f.wdesc f.rowbase f.olist none false false
  | .drainVector f => s.startDrain c it f.tile f.clist f.wdesc f.rowbase f.olist none false true
  | .drainFull f => s.startDrain c it f.tile f.clist f.wdesc f.rowbase f.olist (some (f.target, f.fdesc)) false false
  | _ => s

/-- The tile a drain waits for. -/
def drainTile : Entry → Option Nat
  | .drainNarrow f => some f.tile | .drainWide f => some f.tile | .drainVector f => some f.tile
  | .drainFull f => some f.tile | _ => none

/-- Start the first entry of the vector unit if it has not started and need not wait. -/
def State.kickVector (s : State) (c : Nat) : State :=
  match (s.core c).qVector with
  | [] => s
  | it :: r =>
    let waits : Bool := match drainTile it.entry with | some t => (s.core c).tileBusy t it.no | none => false
    if it.started ∨ waits ∨ s.halted c then s
    else (s.modCore c fun k => { k with qVector := { it with started := true } :: r }).startVector c it

/-- What may follow a change on a core: the vector unit starts, a hold ends, a section ends. -/
def State.advance (s : State) (c : Nat) : State := ((s.kickVector c).settle c).sectionEnd c

/-! ### Issue (R198, R207) -/

/-- An outlier list number lies within the core's table (R223). -/
def State.listOk (s : State) (c : Nat) (n : Nat) : Bool :=
  n = 0 || (match (s.core c).hdr with | some h => decide (n ≤ h.olists.length) | none => false)

/-- The list numbers an entry names are those of the core's table. -/
def State.listsOk (s : State) (c : Nat) : Entry → Bool
  | .drainNarrow f | .drainWide f | .drainVector f => s.listOk c f.clist && s.listOk c f.olist
  | .drainFull f => s.listOk c f.clist && s.listOk c f.olist
  | .vstream f => s.listOk c f.olist
  | _ => true

/-- Issue an entry of core `c` to a unit (6: the sequencer itself): while the unit's queue is full issue stalls; a field
out of range raises BAD_ENTRY; otherwise `go` runs with the entry's number. -/
def State.issue (s : State) (c : Nat) (m : Cmn) (e : Entry) (unit : Nat) (go : Nat → State → State) : State :=
  if !coreOk c ∨ !s.canIssue c then s
  else if unit < 6 ∧ 16 ≤ ((s.core c).queue unit).length then s.fcount .SEQ_COUNT_ISSUE_STALL 1 c
  else
    let no := s.fget .SEQ_ENTRY_NEXT c
    if !e.okWith m ∨ !s.listsOk c e then s.halt .badEntry c no
    else (go no (s.fset .SEQ_ENTRY_NEXT (no + 1) c)).advance c

/-- Queue an entry as started and run its effect. (DESIGN CHOICE, assumption 29.) -/
def State.startNow (s : State) (c u : Nat) (it : QItem) (eff : State → State) : State :=
  eff (s.enqueue c u { it with started := true })

/-! ### The sequencer's own step (DESIGN CHOICE, assumption 23) -/

/-- The core's section still has entries to issue. -/
def State.moreEntries (s : State) (c : Nat) (h : CoreHdr) : Bool :=
  let next := s.fget .SEQ_ENTRY_NEXT c
  match s.seqState c with
  | 1 => decide (next < h.epilogue) | 3 => decide (next < h.restore) | 4 => decide (next < h.entryCount) | _ => false

/-- The unit of an entry (R197). -/
def entryUnit : Entry → Nat
  | .load _ | .store _ | .stash _ | .unstash _ => 0
  | .arrayMvm _ => 1
  | .arrayWriteFull _ | .arrayWriteDelta _ => 2
  | .matmul _ | .fwadd _ => 3
  | .drainNarrow _ | .drainWide _ | .drainVector _ | .drainFull _ | .vstream _ => 4
  | .send _ | .recv _ | .route _ | .ret _ => 5
  | _ => 6

/-- The next entry of core `c` as read from memory, where the sequencer can issue it without stalling: its bits, and
what they decode to. -/
def State.nextEntry (s : State) (c : Nat) : Option (Option (Cmn × Entry)) :=
  match (s.core c).hdr with
  | none => none
  | some h =>
    if s.canIssue c && s.moreEntries c h then
      let e := decodeEntry (s.loadNat (h.addr + 128 + 16 * s.fget .SEQ_ENTRY_NEXT c) 16)
      match e with
      | some (_, x) => if (entryUnit x) < 6 && 16 ≤ ((s.core c).queue (entryUnit x)).length then none else some e
      | none => some none
    else none

/-- Reading a timetable entry raises what its uncorrectable words raise (R353). -/
def State.fetched (s : State) (c : Nat) : State :=
  match (s.core c).hdr with
  | none => s
  | some h => s.raiseBad (s.badIn (h.addr + 128 + 16 * s.fget .SEQ_ENTRY_NEXT c) 16) (some c)

/-- What the block does when no command waits: the lowest core that can issue its next entry does so. -/
inductive Auto where
  | idle
  | bad (core : Nat)
  | run (core : Nat) (i : Instr)
  deriving DecidableEq, Repr

/-- The sequencers' next act. -/
def State.autonomous (s : State) : Auto :=
  match s.cores.keys.findSome? fun c => (s.nextEntry c).map fun e => (c, e) with
  | none => .idle
  | some (c, none) => .bad c
  | some (c, some (m, e)) => .run c (issueInstr c m e)

end Sys2Proof.Machine
end

