-- ==== Sys2Proof/Machine/Entries.lean ====
section
/-! DEFINITION. The timetable entries of the MOVER, ENGINE, VECTOR, NET and SEQ units (R199 to R220, R228 to R231), their
completion, and the token timeout (R204). -/

namespace Sys2Proof.Machine

/-! ### LOAD and STORE (R209) -/

/-- Bytes of a line. -/
def MoveBytes (f : MoveF) : Nat := (f.linew + 1) * 32

/-- The memory addresses of the lines of a LOAD or STORE. -/
def State.moveLines (s : State) (f : MoveF) : List Nat := rowAddrs (s.effAddr f.mem) (f.pitch * 32) (f.lines + 1)

/-- The fault of a LOAD or STORE by its addresses: alignment, the larder's end, unmapped memory.
(DESIGN CHOICE, assumption 28.) -/
def State.moveFault (s : State) (f : MoveF) : Option Code :=
  if s.effAddr f.mem % 32 ≠ 0 ∨ f.larder % 32 ≠ 0 ∨ ¬ inLarder f.larder (MoveBytes f * (f.lines + 1)) then
    some .operandAlign
  else if !((s.moveLines f).all fun a => mappedRange a (MoveBytes f)) then some .memUnmapped else none

/-- A LOAD of `n` bytes from `a` to larder address `d` notes where bytes of a ledger page came from, for R63. -/
def State.noteOrigin (s : State) (c a d n : Nat) : State :=
  if s.plan.nwRate = 0 then s else
  let page := s.inPages a n
  s.modCore c fun k => { k with origin := (List.range (n / 16)).foldl (fun m i =>
    if page then m.put (d / 16 + i) (a + 16 * i) else m.del (d / 16 + i)) k.origin }

/-- Copy lines from memory into the larder. -/
def State.loadLines (s : State) (c : Nat) (f : MoveF) : State :=
  (s.moveLines f).zipIdx.foldl (fun s x =>
    let (bs, s) := s.readMem x.1 (MoveBytes f) (some c)
    let d := f.larder + MoveBytes f * x.2
    (s.modCore c fun k => { k with larder := k.larder.writeBytes d bs }).noteOrigin c x.1 d (MoveBytes f)) s

/-- Copy lines from the larder to memory. -/
def State.storeLines (s : State) (c : Nat) (f : MoveF) : State :=
  (s.moveLines f).zipIdx.foldl (fun s x =>
    s.coreWrite c x.1 ((s.core c).larder.readBytes (f.larder + MoveBytes f * x.2) (MoveBytes f))) s

/-- LOAD (R209). -/
def execLoad (core : Nat) (c : Cmn) (f : MoveF) (s : State) : Out :=
  .next (s.issue core c (.load f) 0 fun no s =>
    match s.moveFault f with
    | some e => s.halt e core no
    | none => s.startNow core 0 { no := no, entry := .load f, c := c } fun s => s.loadLines core f)

/-- STORE (R209, R247, R283). (DESIGN CHOICE, assumption 28.) -/
def execStore (core : Nat) (c : Cmn) (f : MoveF) (s : State) : Out :=
  .next (s.issue core c (.store f) 0 fun no s =>
    match s.moveFault f with
    | some e => s.halt e core no
    | none =>
      if (s.moveLines f).any fun a => s.inPages a (MoveBytes f) then s.halt .ledgerProtect core no
      else s.startNow core 0 { no := no, entry := .store f, c := c } fun s => s.storeLines core f)

/-! ### STASH and UNSTASH (R228 to R231) -/

/-- 64 MiB pieces of the overflow region. -/
def chunkSize : Nat := 2 ^ 26

/-- The lowest overflow chunk that no core holds. -/
def State.freeChunk (s : State) : Option Nat :=
  (List.range (s.plan.ovSize / chunkSize)).find? fun i => s.cores.all fun k => i ∉ k.2.chunks

/-- Round up to a multiple of 32. -/
def up32 (n : Nat) : Nat := (n + 31) / 32 * 32

/-- Bits packed into bytes, bit 0 first. -/
def packMap (n : Nat) (m : List Bool) : List Byte :=
  (List.range n).map fun i => BitVec.ofNat 8 ((List.range 8).foldl (fun v j => v + (b2n (m.getD (8 * i + j) false)) * 2 ^ j) 0)

/-- The lines of a stash in the larder. -/
def stashLines (l : Mem) (f : StashF) : List (List Byte) :=
  (List.range (f.lines + 1)).map fun i => l.readBytes (f.larder + i * ((f.linew + 1) * 32)) ((f.linew + 1) * 32)

/-- Bytes of a stash's presence map, a whole number of 32-byte words (R229). -/
def mapBytes (lines : Nat) : Nat := up32 (ceilDiv lines 8)

/-- Where a stash of `n` bytes goes, and the core's cellar after it: the primary cellar, the current chunk, or a new
chunk (R228); none raises CELLAR_FULL. -/
def State.placeStash (s : State) (c n : Nat) : Option (Nat × State) :=
  match (s.core c).hdr with
  | none => none
  | some h =>
    let k := s.core c
    let room := h.cellarKib * 1024 - 131072
    if k.cellarUsed + n ≤ room then
      let s := s.modCore c fun q => { q with cellarUsed := up32 (k.cellarUsed + n) }
      some (h.cellarBase + 131072 + k.cellarUsed,
        s.fset .CELLAR_USE_PRIMARY_MIB (min 0xFFFFF (ceilDiv (131072 + k.cellarUsed + n) (2 ^ 20))) c)
    else
      match k.chunks.getLast?, decide (k.chunkUsed + n ≤ chunkSize) with
      | some i, true =>
        some (s.plan.ovBase + i * chunkSize + k.chunkUsed, s.modCore c fun q => { q with chunkUsed := up32 (k.chunkUsed + n) })
      | _, _ =>
        match s.freeChunk with
        | none => none
        | some i =>
          let s := s.modCore c fun q => { q with chunks := q.chunks ++ [i], chunkUsed := up32 n }
          some (s.plan.ovBase + i * chunkSize, s.fset .CELLAR_USE_CHUNKS (min 1023 (k.chunks.length + 1)) c)

/-- STASH (R210, R228 to R231). -/
def execStash (core : Nat) (c : Cmn) (f : StashF) (s : State) : Out :=
  .next (s.issue core c (.stash f) 0 fun no s =>
    let bytes := (f.linew + 1) * 32
    if f.larder % 32 ≠ 0 ∨ ¬ inLarder f.larder (bytes * (f.lines + 1)) then s.halt .operandAlign core no
    else if ((s.core core).stash.find? f.stashNo).isSome then s.halt .badStash core no
    else
      let ls := stashLines (s.core core).larder f
      let present := ls.map fun l => !f.skipZero || l.any (· ≠ 0)
      let data := (if f.skipZero then packMap (mapBytes (f.lines + 1)) present else []) ++
        ((ls.zip present).filter (·.2)).flatMap (·.1)
      match s.placeStash core data.length with
      | none => s.halt .cellarFull core no
      | some (a, s) =>
        if !mappedRange a data.length then s.halt .memUnmapped core no
        else if s.inPages a data.length then s.halt .ledgerProtect core no
        else
          s.startNow core 0 { no := no, entry := .stash f, c := c } fun s =>
            (s.coreWrite core a data).modCore core fun k =>
              { k with stash := k.stash.put f.stashNo ⟨a, f.linew, f.lines, f.skipZero, present⟩
                       skipped := k.skipped + (present.filter (!·)).length })

/-- UNSTASH (R210, R229, R230). -/
def execUnstash (core : Nat) (c : Cmn) (f : UnstashF) (s : State) : Out :=
  .next (s.issue core c (.unstash f) 0 fun no s =>
    match (s.core core).stash.find? f.stashNo with
    | none => s.halt .badStash core no
    | some r =>
      let bytes := (r.linew + 1) * 32
      if f.larder % 32 ≠ 0 ∨ ¬ inLarder f.larder (bytes * (r.lines + 1)) then s.halt .operandAlign core no
      else
        s.startNow core 0 { no := no, entry := .unstash f, c := c } fun s =>
          let base := r.addr + (if r.hasMap then mapBytes (r.lines + 1) else 0)
          (r.map.zipIdx.foldl (fun (x : State × Nat) m =>
            let dst := f.larder + bytes * m.2
            if m.1 then
              let (bs, s) := x.1.readMem x.2 bytes (some core)
              (s.modCore core fun k => { k with larder := k.larder.writeBytes dst bs }, x.2 + bytes)
            else
              (x.1.modCore core fun k => { k with larder := k.larder.writeBytes dst (List.replicate bytes 0) }, x.2))
            (s, base)).1)

/-! ### MATMUL and FWADD -/

/-- MATMUL (R127 to R144, R213, R505). -/
def execMatmul (core : Nat) (c : Cmn) (f : MatmulF) (s : State) : Out :=
  .next (s.issue core c (.matmul f) 3 fun no s =>
    let anchor := s.fgetS .ANCHOR_VALUE core f.areg
    s.startNow core 3 { no := no, entry := .matmul f, c := c, anchor := anchor } fun s => s.startMatmul core no f anchor)

/-- FWADD (R157, R215). -/
def execFwadd (core : Nat) (c : Cmn) (f : FwaddF) (s : State) : Out :=
  .next (s.issue core c (.fwadd f) 3 fun no s =>
    s.startNow core 3 { no := no, entry := .fwadd f, c := c } fun s => s.startFwadd core no f)

/-! ### DRAIN and VSTREAM (R153, R165, R217, R218) -/

/-- Queue a drain with its chain. -/
def State.issueDrain (s : State) (core no t : Nat) (c : Cmn) (e : Entry) (ch : Option Chain) (anchor : Int) : State :=
  if s.tileState core t ≠ 1 then s.conflict core t 5 no
  else s.enqueue core 4 { no := no, entry := e, c := c, anchor := anchor, chain := ch }

/-- The one-stage chain that a NARROW or WIDE drain supplies (R165), with the IndexSpec that follows its descriptor. -/
def movChain (l : Mem) (f : DrainF) : Option Chain :=
  (readStream l f.target).map fun d =>
    let ix := indexSpec (if f.olist = 0 then 0 else l.readNat (f.target + 32) 8)
    { count := 4096, s0 := { kind := .tile, base := f.tile }, d := d, indexBase := ix.1, indexPitch := ix.2
      stages := [⟨.mov, { srca := 0 }⟩] }

/-- Issue a NARROW or WIDE drain: the checks of R172 on its D. -/
def State.issueEdgeDrain (s : State) (core no : Nat) (c : Cmn) (e : Entry) (f : DrainF) (fmtOk : Fmt → Bool) : State :=
  if !inLarder f.target (if f.olist = 0 then 32 else 40) then s.halt .operandAlign core no else
  match movChain (s.core core).larder f with
  | none => s.halt .badChain core no
  | some ch =>
    if ch.d.kind ≠ .larder then s.halt .badChain core no
    else if !(match Fmt.ofCode ch.d.fmt with | some x => fmtOk x | none => false) then s.halt .badFormat core no
    else match chainFault ch true 0 0 0 with
      | some x => s.halt x core no
      | none => s.issueDrain core no f.tile c e (some ch) 0

/-- DRAIN of kind NARROW. -/
def execDrainNarrow (core : Nat) (c : Cmn) (f : DrainF) (s : State) : Out :=
  .next (s.issue core c (.drainNarrow f) 4 fun no s => s.issueEdgeDrain core no c (.drainNarrow f) f Fmt.narrow)

/-- DRAIN of kind WIDE. -/
def execDrainWide (core : Nat) (c : Cmn) (f : DrainF) (s : State) : Out :=
  .next (s.issue core c (.drainWide f) 4 fun no s =>
    s.issueEdgeDrain core no c (.drainWide f) f fun x => x.wide?.isSome)

/-- Bytes of the chain descriptor at `a` (R169). -/
def descBytes (l : Mem) (a : Nat) : Nat := 192 + 8 * min 8 (l.readNat (a + 8) 1)

/-- Read a chain for an entry, and its anchor; a descriptor that runs past the larder's end raises OPERAND_ALIGN (R239).
-/
def State.readChainFor (s : State) (core a : Nat) (drain : Bool) (mg qp kp : Nat) : Except Code (Chain × Int) :=
  let l := (s.core core).larder
  if a % 32 = 0 ∧ ¬ inLarder a (descBytes l a) then .error .operandAlign else
  match readChain l a with
  | none => .error .badChain
  | some ch =>
    match chainFault ch drain mg qp kp with
    | some x => .error x
    | none => .ok (ch, s.fgetS .ANCHOR_VALUE core ch.anchorReg)

/-- DRAIN of kind VECTOR; the tile is the entry's, whatever Base the chain's S0 gives. (DEDUCED, assumption 80.) -/
def execDrainVector (core : Nat) (c : Cmn) (f : DrainF) (s : State) : Out :=
  .next (s.issue core c (.drainVector f) 4 fun no s =>
    match s.readChainFor core f.target true 0 0 0 with
    | .error x => s.halt x core no
    | .ok (ch, a) =>
      s.issueDrain core no f.tile c (.drainVector f) (some ch) a)

/-- DRAIN of kind FULL (R156). -/
def execDrainFull (core : Nat) (c : Cmn) (f : DrainFullF) (s : State) : Out :=
  .next (s.issue core c (.drainFull f) 4 fun no s =>
    if !inLarder f.target 65536 || !inLarder f.fdesc 16 then s.halt .operandAlign core no
    else s.issueDrain core no f.tile c (.drainFull f) none 0)

/-- VSTREAM (R165, R218, R236, R237). -/
def execVstream (core : Nat) (c : Cmn) (f : VstreamF) (s : State) : Out :=
  .next (s.issue core c (.vstream f) 4 fun no s =>
    match s.readChainFor core f.chain false f.maskgen f.qpos f.kpos with
    | .error x => s.halt x core no
    | .ok (ch, a) => s.enqueue core 4 { no := no, entry := .vstream f, c := c, anchor := a, chain := some ch })

/-! ### SEND and RECV (R219) -/

/-- SEND: the message leaves its source as it stands at the start. -/
def execSend (core : Nat) (c : Cmn) (f : SendF) (s : State) : Out :=
  .next (s.issue core c (.send f) 5 fun no s =>
    let n := (f.len + 1) * 32
    let a := if f.srcMem then s.effAddr ⟨f.src / 2 ^ 40, f.src % 2 ^ 40⟩ else f.src % 2 ^ 19
    let it : QItem := { no := no, entry := .send f, c := c, sent := true }
    let msg (d : List Byte) : Msg :=
      { srcMod := 0, srcCore := core, channel := f.channel, data := d, dtoken := f.dtoken, dsig := f.dsig }
    if f.srcMem then
      if !mappedRange a n then s.halt .memUnmapped core no
      else s.startNow core 5 it fun s =>
        let (d, s) := s.readMem a n (some core)
        s.route f.loc f.dmod f.dcore (msg d)
    else if !inLarder a n then s.halt .operandAlign core no
    else s.startNow core 5 it fun s => s.route f.loc f.dmod f.dcore (msg ((s.core core).larder.readBytes a n)))

/-- RECV: takes a waiting message, or waits for one. -/
def execRecv (core : Nat) (c : Cmn) (f : RecvF) (s : State) : Out :=
  .next (s.issue core c (.recv f) 5 fun no s =>
    let it : QItem := { no := no, entry := .recv f, c := c }
    s.startNow core 5 it fun s => s.takeHeld core it f)

/-! ### Sequencer entries (R216, R220, R227) -/

/-- WAIT_TOKEN (R201, R220). -/
def execWaitToken (core : Nat) (c : Cmn) (f : WaitF) (s : State) : Out :=
  .next (s.issue core c (.waitToken f) 6 fun _ s =>
    ((s.modCore core fun k => { k with hold := some (.wait f c) }).fset .SEQ_STATUS_WAIT_ON f.token core).fset
      .SEQ_STATUS_WAITING 1 core)

/-- SIGNAL (R220): sent once the earlier entries of its units have completed. (DEDUCED, assumption 25.) -/
def execSignal (core : Nat) (c : Cmn) (f : SignalF) (s : State) : Out :=
  .next (s.issue core c (.signal f) 6 fun _ s => s.modCore core fun k => { k with hold := some (.signal f c) })

/-- FENCE (R220). -/
def execFence (core : Nat) (c : Cmn) (units : Nat) (s : State) : Out :=
  .next (s.issue core c (.fence units) 6 fun _ s => s.modCore core fun k => { k with hold := some (.fence units c) })

/-- Load an anchor register, or raise BAD_ENTRY where the value leaves 16 bits (R216). -/
def State.setAnchor (s : State) (core no areg : Nat) (c : Cmn) (v : Int) : State :=
  if v < -32768 ∨ 32767 < v then s.halt .badEntry core no
  else (s.fsetS .ANCHOR_VALUE v core areg).csignal core c no

/-- ANCHOR SET (R216). -/
def execAnchorSet (core : Nat) (c : Cmn) (f : AnchorSetF) (s : State) : Out :=
  .next (s.issue core c (.anchorSet f) 6 fun no s => s.setAnchor core no f.areg c (signed 16 f.imm))

/-- ANCHOR SCALES (R216). -/
def execAnchorScales (core : Nat) (c : Cmn) (f : AnchorScalesF) (s : State) : Out :=
  .next (s.issue core c (.anchorScales f) 6 fun no s =>
    if !inLarder f.addr1 (f.cnt1 + 1) || !inLarder f.addr2 (f.cnt2 + 1) then s.halt .operandAlign core no else
    let l := (s.core core).larder
    let nas := (l.readBytes f.addr1 (f.cnt1 + 1) ++ l.readBytes f.addr2 (f.cnt2 + 1)).any (· = 0xFF)
    let s := if nas then s.raise .scaleNas core else s
    s.setAnchor core no f.areg c
      ((maxScale l f.addr1 (f.cnt1 + 1) : Int) + maxScale l f.addr2 (f.cnt2 + 1) + signed 16 f.imm))

/-- ANCHOR DESCS (R216). -/
def execAnchorDescs (core : Nat) (c : Cmn) (f : AnchorDescsF) (s : State) : Out :=
  .next (s.issue core c (.anchorDescs f) 6 fun no s =>
    if !inLarder f.addr1 (16 * (f.cnt1 + 1)) then s.halt .operandAlign core no
    else s.setAnchor core no f.areg c (maxAnchor (s.core core).larder f.addr1 (f.cnt1 + 1) + signed 16 f.imm))

/-- NOP. -/
def execNop (core : Nat) (c : Cmn) (s : State) : Out :=
  .next (s.issue core c .nop 6 fun no s => s.csignal core c no)

/-- COMMIT_POINT (R205, R227). Outside the main section it does nothing: no loaded plan holds it there (R224).
(DEDUCED, assumption 38.) -/
def execCommitPoint (core : Nat) (c : Cmn) (s : State) : Out :=
  .next (s.issue core c .commitPoint 6 fun _ s =>
    if s.seqState core = 1 then s.modCore core fun k => { k with hold := some (.point c) } else s)

/-! ### Completion (R199) -/

/-- What the checkers found as an entry completed (R159, R193, R353). -/
def State.applyChecks (s : State) (core : Nat) (ck : Checks) : State :=
  let s := if ck.residueProduct then s.raise .residueProduct core else s
  let s := if ck.residueAccum then s.raise .residueAccum core else s
  let s := if ck.residueVector % 8 ≠ 0 then
      let s := if s.fget .VCHECK_CAUSE core = 0 then s.fset .VCHECK_CAUSE (ck.residueVector % 8) core else s
      s.raise .residueVector core
    else s
  let s := if ck.xfer then s.raise .xferCheck core else s
  match ck.badWord with
  | some w => { s with memBad := if w ∈ s.memBad then s.memBad else s.memBad ++ [w] }.raiseBad [w] (some core)
  | none => s

/-- An entry that has started has nothing left to do. -/
def State.itemDone (s : State) (core : Nat) (it : QItem) : Bool :=
  it.started &&
  match it.entry with
  | .recv _ | .route _ | .ret _ => it.sent
  | .arrayMvm _ =>
    (s.core core).poss.all (fun p => p.2.reqs.all (·.entryNo ≠ it.no) &&
      p.2.holds.all fun h => match h.req with | some r => r.entryNo ≠ it.no | none => true) &&
    (s.core core).fixups.all (·.entryNo ≠ it.no)
  | .arrayWriteFull _ | .arrayWriteDelta _ =>
    (s.core core).arrays.all fun a => a.2.waiting.all (·.entryNo ≠ it.no) &&
      (match a.2.job with | some j => j.entryNo ≠ it.no | none => true)
  | _ => true

/-- ENTRY_COMPLETE: the entry at place `pos` of a unit's queue completes (R199), signals its counter (R206), and lets
what waits for it go on. On a halted core nothing completes, and what the checkers found in the entry is raised all the
same (R160). (DESIGN CHOICE, assumption 24.) -/
def execEntryComplete (core unit pos : Nat) (ck : Checks) (s : State) : Out :=
  s.clocked (.entryComplete core unit pos ck) <|
  .next (
    match ((s.core core).queue unit)[pos]? with
    | none => s
    | some it =>
      if s.halted core then s.applyChecks core ck else
      if !s.itemDone core it then s else
      let s := s.modCore core fun k => k.setQueue unit ((k.queue unit).eraseIdx pos)
      let s := s.applyChecks core ck
      let s := match drainTile it.entry with | some t => s.freeTile core t | none => s
      ((s.engineBusy core).csignal core it.c it.no).advance core)

/-! ### TOKEN_TIMEOUT (R204) -/

/-- Something waits on the core: a WAIT_TOKEN holds issue, or an entry has started and not completed. -/
def Core.waits (k : Core) : Bool :=
  (match k.hold with | some (.wait _ _) => true | _ => false) ||
  (List.range 6).any fun u => (k.queue u).any (·.started)

/-- The entry whose wait a timeout ends: the WAIT_TOKEN that holds issue, or the oldest that has started (R240). -/
def State.waitingEntry (s : State) (c : Nat) : Nat :=
  match (s.core c).hold with
  | some (.wait _ _) => s.lastIssued c
  | _ => (((List.range 6).flatMap fun u => ((s.core c).queue u).filter (·.started)).map (·.no)).foldl min noEntry

/-- TOKEN_TIMEOUT: the core stops its main section and reports (R204); in an epilogue or restore section it halts there
(R506). -/
def execTokenTimeout (core : Nat) (s : State) : Out :=
  s.clocked (.tokenTimeout core) <|
  .next (
    let st := s.seqState core
    if s.tokenTimeout = 0 ∨ ¬ (st = 1 ∨ st = 3 ∨ st = 4) ∨ (st = 1 ∧ s.job.stopped) ∨ !(s.core core).waits then s else
    let no := s.waitingEntry core
    let s := (s.modCore core fun k => { k with hold := none }).fset .SEQ_STATUS_WAITING 0 core
    if st = 1 then (s.raise .tokenTimeout core).report core
    else s.halt .tokenTimeout core no)

end Sys2Proof.Machine
end

