-- ==== Sys2Proof/Machine/Arrays.lean ====
section
/-! DEFINITION. Charge arrays (R67 to R103): geometry and images, ARRAY_MVM and ARRAY_WRITE, slots, codes, fix-ups, bank
writes, and the watch unit (R354 to R356). -/

namespace Sys2Proof.Machine

/-! ### Geometry, images and levels -/

/-- An array of a core: position p of bank b is array p + 4b (R67). -/
def Core.array (k : Core) (a : Nat) : Arr := k.arrays.get a {}

/-- Change an array. -/
def State.modArr (s : State) (c a : Nat) (f : Arr → Arr) : State :=
  s.modCore c fun k => { k with arrays := k.arrays.put a (f (k.array a)) }

/-- An array of a core of the module. -/
def State.array (s : State) (c a : Nat) : Arr := (s.core c).array a

/-- A position of a core. -/
def State.pos (s : State) (c p : Nat) : Pos := (s.core c).poss.get p {}

/-- Change a position. -/
def State.modPos (s : State) (c p : Nat) (f : Pos → Pos) : State :=
  s.modCore c fun k => { k with poss := k.poss.put p (f (k.poss.get p {})) }

/-- Bank state of an array (R90). -/
def State.bankState (s : State) (c a : Nat) : Nat := s.fget .ARRAY_STATUS_STATE c a

/-- Set a bank state. -/
def State.setBank (s : State) (c a st : Nat) : State := s.fset .ARRAY_STATUS_STATE st c a

/-- Weight code of (row, column) in an array image (R70). -/
def State.imgCode (s : State) (img r j : Nat) : Nat :=
  bits (s.mem.read (img + 4096 * (r / 32) + 16 * j + r % 32 / 2)).toNat (4 * (r % 2)) 4

/-- Levels of the reference columns, and 8 elsewhere: the pattern of R69 and R113. -/
def patLevel (r j : Nat) : Nat :=
  if j = 257 then 0 else if j = 258 then 15 else if j = 259 then (if r % 2 = 0 then 4 else 12) else 8

/-- Level that an image gives a cell (R68, R69). -/
def State.target (s : State) (c a img r j : Nat) : Nat :=
  let wl (j : Nat) : Nat := (s.imgCode img r j + 8) % 16
  if j < 256 then wl j
  else if 260 ≤ j ∧ s.fon .SPARE_COL_IN_USE c a (j - 260) then wl (s.fget .SPARE_COL_COLUMN c a (j - 260))
  else patLevel r j

/-- Is a weight column served by a spare (R121)? A spare that is itself marked bad serves none. -/
def State.spared (s : State) (c a j : Nat) : Bool :=
  (List.range 4).any fun n => s.fon .SPARE_COL_IN_USE c a n && s.fget .SPARE_COL_COLUMN c a n = j &&
    !((s.array c a).cols.get (256 + n) {}).bad

/-- The converter that serves the columns of converter `k` of a position: the spare once it has taken over (R122). -/
def State.servConv (s : State) (c p k : Nat) : Nat :=
  if s.fon .CONV_SPARE_IN_USE c p && s.fget .CONV_SPARE_REPLACED c p = k then 64 else k

/-- The column, 0 to 255 or 256 + n for spare n, whose cells and trim serve weight column `j` (R121). -/
def State.servCol (s : State) (c a j : Nat) : Nat :=
  match (List.range 4).find? fun n => s.fon .SPARE_COL_IN_USE c a n && s.fget .SPARE_COL_COLUMN c a n = j with
  | some n => 256 + n
  | none => j

/-- Columns held in the miss log while marked and not replaced, or while the converter that serves them is marked
(R121, R122). -/
def State.heldCols (s : State) (c a : Nat) : List Nat :=
  let cols := (((s.array c a).cols.filter fun x => x.2.bad && x.1 < 256 && !s.spared c a x.1)).map (·.1)
  let bad := (((s.pos c (a % 4)).convs.filter fun x => x.2.bad)).map (·.1)
  let convs := if bad = [] then [] else (List.range 64).filter fun k => s.servConv c (a % 4) k ∈ bad
  cols ++ (convs.flatMap fun k => [4 * k, 4 * k + 1, 4 * k + 2, 4 * k + 3]).filter (· ∉ cols)

/-- Logged segments, numbered 256q + j: held columns first, then missed and gross ones (R86, R121). -/
def State.logged (s : State) (c a : Nat) : List Nat :=
  let held := (s.heldCols c a).flatMap fun j => (List.range 8).map fun q => 256 * q + j
  held ++ (s.array c a).missLog.filter (· ∉ held)

/-- MISS_COUNT follows the log; the 65th segment puts the bank into FAILED and writes a STATUS record (R86, R87).
(DEDUCED, assumption 37.) -/
def State.recount (s : State) (c a : Nat) : State :=
  let n := min 65 (s.logged c a).length
  let s := if s.fget .ARRAY_STATUS_MISS_COUNT c a = n then s else s.fset .ARRAY_STATUS_MISS_COUNT n c a
  if n = 65 ∧ s.bankState c a ≠ 4 ∧ s.bankState c a ≠ 0 then
    let s := (s.setBank c a 4).fset .ARRAY_STATUS_WRITE_FAIL 1 c a
    s.statusRecord .arrayWriteFail (s.locCore c a) (s.arrayStatus c a)
  else s

/-- Enter segments in the miss log (R86). -/
def State.logSegs (s : State) (c a : Nat) (segs : List Nat) : State :=
  if segs = [] then s else
  (s.modArr c a fun x => { x with missLog := segs.foldl (fun l g => if g ∈ l then l else l ++ [g]) x.missLog }).recount c a

/-- Segments of weight columns that cells of a row belong to: a spare's cell belongs to the column it serves. -/
def State.cellSegs (s : State) (c a r : Nat) (cols : List Nat) : List Nat :=
  cols.filterMap fun j =>
    if j < 256 then (if s.spared c a j then none else some (256 * (r / 32) + j))
    else if 260 ≤ j ∧ j < 264 ∧ s.fon .SPARE_COL_IN_USE c a (j - 260) then
      some (256 * (r / 32) + s.fget .SPARE_COL_COLUMN c a (j - 260))
    else none

/-! ### ARRAY_MVM and ARRAY_WRITE at issue (R72, R92, R211, R212) -/

/-- A core and one of its arrays exist. -/
def arrOk (c a : Nat) : Bool := coreOk c && decide (a < 8)

/-- Positions of a mask. -/
def positions (mask : Nat) : List Nat := (List.range 4).filter fun p => bit mask p

/-- A write before entry `no` on the array has not ended. -/
def State.writeBefore (s : State) (c a no : Nat) : Bool :=
  let x := s.array c a
  (x.waiting.any (·.entryNo < no)) || (match x.job with | some j => decide (j.entryNo < no) | none => false)

/-- The first request of each position whose bank holds another tag raises BANK_TAG_MISMATCH (R92). -/
def State.tagCheck (s : State) (c : Nat) : State :=
  let bad := (List.range 4).findSome? fun p => match (s.pos c p).reqs with
    | [] => none
    | r :: _ =>
      let a := p + 4 * r.f.bank
      let st := s.bankState c a
      if (st = 2 ∨ st = 3 ∨ st = 4) ∧ !s.writeBefore c a r.entryNo ∧ s.fget .ARRAY_STATUS_LAYER_TAG c a ≠ r.f.tag
      then some r.entryNo else none
  match bad with
  | some no => if s.halted c then s else s.halt .bankTagMismatch c no
  | none => s

/-- The 8 scales of a slot in the larder (R211). -/
def State.slotScales (s : State) (c p : Nat) (r : SlotReq) : List Nat :=
  ((s.core c).larder.readBytes (r.f.scbase + 32 * r.r + 8 * bits r.f.insel (2 * p) 2) 8).map (·.toNat)

/-- Input format of a slot. -/
def mvmFmt (n : Nat) : Fmt := if n = 0 then .int4 else .e2m1

/-- Every segment of a slot. -/
def slotSegs : List (Nat × Nat) := (List.range 8).flatMap fun q => (List.range 256).map fun j => (q, j)

/-- Some segment that the slot feeds exceeds the tile's anchor, by its scales alone, whatever its inputs (R142, R144). -/
def slotLow (f : Fmt) (anchor : Int) (scales : List Nat) (wsc : Mem) : Bool :=
  slotSegs.any fun g =>
    let sx := scales.getD g.1 0
    let sw := (wsc.read (256 * g.1 + g.2)).toNat
    sx ≠ 255 && sw ≠ 255 && decide (anchor < (sx : Int) + sw + f.u)

/-- The bank's scales are those the entry will consume: no write of it is under way or comes first (R92). -/
def State.bankSettled (s : State) (c a no : Nat) : Bool :=
  let st := s.bankState c a
  !(st = 0 || st = 1 || s.writeBefore c a no || (s.array c a).job.isSome)

/-- R142 at the issue of an ARRAY_MVM: some slot on a bank that holds its weights exceeds the anchor. The slots of a bank
that is still to be written are tested when they are granted. (DEDUCED, assumption 36.) -/
def State.mvmLow (s : State) (c no : Nat) (f : MvmF) (anchor : Int) : Bool :=
  (positions f.posmask).any fun p => s.bankSettled c (p + 4 * f.bank) no &&
    (List.range (f.rpt + 1)).any fun r =>
      slotLow (mvmFmt f.fmt) anchor (s.slotScales c p ⟨no, f, r, anchor⟩) (s.array c (p + 4 * f.bank)).scales

/-- ARRAY_MVM: REPEAT + 1 slots are requested on each position (R211). -/
def execArrayMvm (core : Nat) (c : Cmn) (f : MvmF) (s : State) : Out :=
  .next (s.issue core c (.arrayMvm f) 1 fun no s =>
    let ps := positions f.posmask
    let sel (p : Nat) : Nat := bits f.insel (2 * p) 2
    if 1 < f.fmt then s.halt .badFormat core no
    else if f.inbase % 128 ≠ 0 ∨ f.scbase % 8 ≠ 0 ∨
        ¬ (ps.all fun p => inLarder (f.inbase + 512 * f.rpt + 128 * sel p) 128 && inLarder (f.scbase + 32 * f.rpt + 8 * sel p) 8)
      then s.halt .operandAlign core no
    else
      let anchor := s.fgetS .ANCHOR_VALUE core f.areg
      match s.accumConflict core f.tile f.start anchor 0 with
      | some r => s.conflict core f.tile r no
      | none =>
        if s.mvmLow core no f anchor then s.halt .anchorLow core no else
        s.startNow core 1 { no := no, entry := .arrayMvm f, c := c, anchor := anchor } fun s =>
          let s := s.openTile core f.tile f.start anchor 0
          let reqs : List SlotReq := (List.range (f.rpt + 1)).map fun r => ⟨no, f, r, anchor⟩
          (ps.foldl (fun s p => s.modPos core p fun x => { x with reqs := x.reqs ++ reqs }) s).tagCheck core)

/-- An array image breaks R70: not on a 2,048-byte boundary, or not within one quarter. -/
def imageBad (a : Nat) : Bool := a % 2048 ≠ 0 || a / 2 ^ 38 ≠ (a + 34815) / 2 ^ 38

/-- Queue a bank write on the arrays of a mask. -/
def State.queueWrites (s : State) (c no mask bank tag img old : Nat) (delta : Bool) : State :=
  (positions mask).foldl (fun s p => s.modArr c (p + 4 * bank) fun x =>
    { x with waiting := x.waiting ++ [{ img := img + 34816 * p, oldImg := old + 34816 * p, delta := delta, tag := tag, entryNo := no }] }) s

/-- ARRAY_WRITE in FULL mode (R88, R212). -/
def execArrayWriteFull (core : Nat) (c : Cmn) (f : WriteFullF) (s : State) : Out :=
  .next (s.issue core c (.arrayWriteFull f) 2 fun no s =>
    let a := s.effAddr f.newImg
    let imgs := (positions f.posmask).map fun p => a + 34816 * p
    if imgs.any imageBad then s.halt .arraySrcAlign core no
    else if !(imgs.all fun x => mappedRange x 34816) then s.halt .memUnmapped core no
    else s.startNow core 2 { no := no, entry := .arrayWriteFull f, c := c } fun s =>
      s.queueWrites core no f.posmask f.bank f.tag a 0 false)

/-- ARRAY_WRITE in DELTA mode (R88, R212). -/
def execArrayWriteDelta (core : Nat) (c : Cmn) (f : WriteDeltaF) (s : State) : Out :=
  .next (s.issue core c (.arrayWriteDelta f) 2 fun no s =>
    let a := s.effAddr f.newImg
    let o := s.effAddr f.oldImg
    let imgs := (positions f.posmask).flatMap fun p => [a + 34816 * p, o + 34816 * p]
    if imgs.any imageBad then s.halt .arraySrcAlign core no
    else if !(imgs.all fun x => mappedRange x 34816) then s.halt .memUnmapped core no
    else s.startNow core 2 { no := no, entry := .arrayWriteDelta f, c := c } fun s =>
      s.queueWrites core no f.posmask f.bank f.tag a o true)

/-! ### Bank writes (R85 to R93) -/

/-- The job pulses the cell: every cell in FULL, a cell whose target differs in DELTA. -/
def State.pulses (s : State) (c a : Nat) (j : WriteJob) (r col : Nat) : Bool :=
  !j.delta || s.target c a j.img r col ≠ s.target c a j.oldImg r col

/-- The first row from `r` on that the job writes; 256 when none is left. -/
def State.nextRow (s : State) (c a : Nat) (j : WriteJob) (r : Nat) : Nat :=
  (((List.range 256).drop r).find? fun r => !j.delta || (List.range 264).any fun col => s.pulses c a j r col).getD 256

/-- Reserved spares of marked columns take over at the bank's write (R121): whether any did. -/
def State.takeSpares (s : State) (c a : Nat) : State × Bool :=
  (List.range 4).foldl (fun (x : State × Bool) n =>
    if x.1.fon .SPARE_COL_PENDING c a n then
      let col := x.1.fget .SPARE_COL_COLUMN c a n
      let s := (List.range 4).foldl (fun (s : State) k =>
        if s.fon .SPARE_COL_IN_USE c a k && s.fget .SPARE_COL_COLUMN c a k = col then s.fset .SPARE_COL_IN_USE 0 c a k else s) x.1
      let s := (s.fset .SPARE_COL_PENDING 0 c a n).fset .SPARE_COL_IN_USE 1 c a n
      (s.logWrite recSpare 0xFF 0 (s.locCore c a) 0 0xFFFFFFFF
        (bytesOf 4 (s.fget .SPARE_COL_COLUMN c a n) ++ bytesOf 4 (260 + n)), true)
    else x) (s, false)

/-- BANK_LOADING_START: the bank's first waiting write begins once earlier ARRAY_MVMs on the bank have passed cycle 20
(R92); spares take over (R121), the log and the refresh queues clear (R86, R118), the scale store fills (R71), and a
calibration pass drops the array's measurements and the readings still held (R111); a scan pass goes on at its row group
after the write, with the gross cells it has found (R116, R121). A DELTA write compares the whole of its two images. -/
def execBankLoadingStart (core array : Nat) (s : State) : Out :=
  s.clocked (.bankLoadingStart core array) <|
  .next (
    let x := s.array core array
    match x.waiting, x.job with
    | j :: rest, none =>
      if (s.pos core (array % 4)).reqs.any fun r => r.f.bank = array / 4 ∧ r.entryNo < j.entryNo then s else
      let st := s.bankState core array
      let (s, took) := s.takeSpares core array
      let delta := j.delta && (st = 2 || st = 3) && x.recorded = some j.oldImg && !took
      let j := { j with delta := delta }
      let j := { j with row := s.nextRow core array j 0 }
      let (sc, s) := s.readMem (j.img + 32768) 2048 (some core)
      let s := if delta then s.raiseBad (s.badIn j.img 32768 ++ s.badIn j.oldImg 32768) (some core) else s
      let s := s.modArr core array fun x =>
        { x with waiting := rest, job := some j, img := j.img, missLog := [], urgent := [], routine := [], pulses := [],
                 scales := Mem.writeBytes [] 0 sc, lastTag := j.tag
                 recorded := none, scanRow := 32 * (x.scanRow / 32) }
      let s := (s.setBank core array 1).fset .ARRAY_STATUS_LAYER_TAG j.tag core array
      let s := s.fset .ARRAY_STATUS_REFRESH_DUE 0 core array
      let s := s.modPos core (array % 4) fun p =>
        { p with cal := p.cal.map fun q => if array < 4 then { q with colsA := [] } else { q with colsB := [] }
                 holds := p.holds.filter fun h => h.calArray ≠ some array }
      s.recount core array
    | _, _ => s)

/-- ROW_WRITE: one row is written with `pulses` attempts; `missed` are the columns still failing after the third (R85,
R86). The level that a missed cell is left at is a free one (DESIGN CHOICE, assumption 86). -/
def execRowWrite (core array pulses : Nat) (missed : List Nat) (s : State) : Out :=
  s.clocked (.rowWrite core array pulses missed) <|
  .next (
    match (s.array core array).job with
    | none => s
    | some j =>
      if 256 ≤ j.row ∨ pulses = 0 ∨ 3 < pulses then s else
      let miss := if pulses = 3 then missed.filter fun col => s.pulses core array j j.row col else []
      let cells := (List.range 264).filter fun col => s.pulses core array j j.row col && col ∉ miss
      let lv := cells.foldl (fun m col => m.put (264 * j.row + col) (s.target core array j.img j.row col)) (s.array core array).levels
      let (i, s) := s.draw miss.length
      let lv := miss.zipIdx.foldl (fun m x => m.put (264 * j.row + x.1) (Config.freeNat (i + x.2) % 16)) lv
      let nr := s.nextRow core array j (j.row + 1)
      let bad := s.badIn (j.img + 4096 * (j.row / 32)) 4096
      let s := if !j.delta ∧ j.row % 32 = 0 then s.raiseBad bad (some core) else s
      let s := s.modArr core array fun x =>
        { x with levels := lv, job := some { j with row := nr, trimmed := j.trimmed + b2n (1 < pulses) }
                 rowsWritten := x.rowsWritten + 1, rowsTrimmed := x.rowsTrimmed + b2n (1 < pulses) }
      s.logSegs core array (s.cellSegs core array j.row miss))

/-- ARRAY_WRITE_END: the write has passed its last row: READY, or FAILED under R86, with the image's address recorded
unless the bank is FAILED (R88); a FULL write restarts retention (R120). -/
def execArrayWriteEnd (core array : Nat) (s : State) : Out :=
  s.clocked (.arrayWriteEnd core array) <|
  .next (
    match (s.array core array).job with
    | none => s
    | some j =>
      if j.row < 256 then s else
      let failed : Bool := s.bankState core array = 4
      let s := s.modArr core array fun x =>
        { x with job := none, recorded := if failed then none else some j.img, fails16 := (failed :: x.fails16).take 16 }
      let s := if failed then s else s.setBank core array 2
      let s := if j.delta then s
        else (s.fset .RETENTION_DRIFT 0 core array).fset .RETENTION_AGE 0 core array
      (s.recount core array).tagCheck core)

/-! ### Refresh pulses (R117, R118) -/

/-- Queue of an array served first: urgent, then routine. -/
def Arr.refreshRow (x : Arr) : Option (Nat × Bool) :=
  match x.urgent, x.routine with
  | r :: _, _ => some (r, true)
  | [], r :: _ => some (r, false)
  | [], [] => none

/-- REFRESH_DUE follows the urgent queue: it clears when the queue becomes empty (DESIGN CHOICE, assumption 87). -/
def State.refreshDue (s : State) (c a : Nat) : State :=
  s.fset .ARRAY_STATUS_REFRESH_DUE (b2n (!(s.array c a).urgent.isEmpty)) c a

/-- CreepCounts of an array (R126): totals since power-up of routine rows, urgent rows and gross cells. -/
def State.countCreep (s : State) (c a r u g : Nat) : State :=
  let t := s.creepTot.get (8 * c + a) (0, 0, 0)
  let t' := (satAdd 0xFFFFFFFF t.1 r, satAdd 0xFFFFFFFF t.2.1 u, satAdd 0xFFFFFFFF t.2.2 g)
  { s with creepTot := s.creepTot.put (8 * c + a) t' }

/-- One trim pulse and verify on the first queued row; `still` are the columns still outside the window. The row leaves
its queue when none is, or after its third pulse of the scan pass, when they are missed cells (R117). -/
def State.refresh (s : State) (c a : Nat) (still : List Nat) : State :=
  match (s.array c a).refreshRow with
  | none => s
  | some (r, urgent) =>
    let n := (s.array c a).pulses.get r 0 + 1
    if still ≠ [] ∧ n < 3 then s.modArr c a fun x => { x with pulses := x.pulses.put r n }
    else
      let s := s.modArr c a fun x =>
        { x with pulses := x.pulses.put r n, urgent := x.urgent.filter (· ≠ r), routine := x.routine.filter (· ≠ r) }
      let s := s.countCreep c a (b2n (!urgent)) (b2n urgent) 0
      let s := if urgent then s.fcount .CREEP_COUNT_URGENT_ROWS 1 c a else s.fcount .CREEP_COUNT_ROUTINE_ROWS 1 c a
      (s.logSegs c a (s.cellSegs c a r still)).refreshDue c a

/-! ### Slots (R73 to R80, R94 to R96, R100) -/

/-- The connected array of a position: the ACTIVE one. -/
def State.connected (s : State) (c p : Nat) : Option Nat :=
  if s.bankState c p = 3 then some p else if s.bankState c (p + 4) = 3 then some (p + 4) else none

/-- A slot's 256 input codes and 8 scales in the larder (R211). -/
def State.slotInputs (s : State) (c p : Nat) (r : SlotReq) : List Nat × List Nat :=
  ((List.range 256).map fun i => readCode (s.core c).larder .int4
    (r.f.inbase + 512 * r.r + 128 * bits r.f.insel (2 * p) 2) i, s.slotScales c p r)

/-- A row group's inputs are all zero (R74). -/
def groupZero (f : Fmt) (inputs : List Nat) (q : Nat) : Bool :=
  ((inputs.drop (32 * q)).take 32).all fun c => intForm f c = some 0

/-- Exact block product of a row group's inputs with segment (q, j) of an image, in integer forms (R128). -/
def State.segProduct (s : State) (img : Nat) (f : Fmt) (inputs : List Nat) (q j : Nat) : Int :=
  ((List.range 32).map fun k =>
    ((intForm f (inputs.getD (32 * q + k) 0)).getD 0) * signed 4 (s.imgCode img (32 * q + k) j)).foldl (· + ·) 0

/-- Tile element that column j of a slot feeds (R211). -/
def slotElem (f : MvmF) (p r j : Nat) : Nat :=
  let step := match f.rstep with | 0 => 0 | 1 => 64 | 2 => 256 | _ => 1024
  (64 * f.row + 256 * bits f.out (2 * p) 2 + j + r * step) % 4096

/-- Segments of a slot's driven row groups. -/
def drivenSegs (f : Fmt) (inputs : List Nat) : List (Nat × Nat) :=
  ((List.range 8).filter fun q => !groupZero f inputs q).flatMap fun q => (List.range 256).map fun j => (q, j)

/-- Count in a layer statistic of the arrays; the layer is the bank's tag (DESIGN CHOICE, assumption 13). -/
def State.arrStat (s : State) (f : Stats → Stats) : State := { s with stats := f s.stats }

/-- A slot computed digitally from the image, no row group skipped: reference mode and FAILED banks (R87, R100). A scale
of 0xFF counts for every segment, whatever its inputs (DESIGN CHOICE, assumption 88). -/
def State.digitalSlot (s : State) (c p : Nat) (r : SlotReq) (inputs scales : List Nat) : State :=
  let a := p + 4 * r.f.bank
  let x := s.array c a
  let f := mvmFmt r.f.fmt
  let segs := slotSegs
  let nas := segs.any fun g => scales.getD g.1 0 = 255 || x.scales.read (256 * g.1 + g.2) = 255
  let ts : List Term := segs.map fun g =>
    let sx := scales.getD g.1 0
    let sw := (x.scales.read (256 * g.1 + g.2)).toNat
    ⟨slotElem r.f p r.r g.2, if sx = 255 ∨ sw = 255 then 0 else s.segProduct x.img f inputs g.1 g.2, (sx : Int) + sw - 254 + f.u⟩
  let bad := s.badIn x.img 32768
  let s := s.addTerms c r.f.tile r.anchor (layerOfEntry c r.entryNo) ts
  let s := s.raiseBad bad (some c)
  if nas then s.raise .scaleNas c else s

/-- A slot's part of the wide reference (R63): each segment's inputs times the masters behind its cells, or the cells
themselves where the image is none of a tensor's. -/
def State.wideSlot (s : State) (c p : Nat) (r : SlotReq) (img : Nat) (inputs scales : List Nat) : State :=
  if s.plan.nwRate = 0 then s else
  let f := mvmFmt r.f.fmt
  let wsc := (s.array c (p + 4 * r.f.bank)).scales
  s.addWide c r.f.tile (slotSegs.map fun g =>
    (slotElem r.f p r.r g.2, ((List.range 32).map fun k =>
      Dy.mul ((exactElem f (inputs.getD (32 * g.1 + k) 0) (scales.getD g.1 0)).getD Dy.zero)
        ((s.masterAt (img + 4096 * g.1 + 16 * g.2) k).getD
          ((exactElem .int4 (s.imgCode img (32 * g.1 + k) g.2) (wsc.read (256 * g.1 + g.2)).toNat).getD Dy.zero))).foldl
      Dy.add Dy.zero)) true

/-- Outcome of offering a slot to the requests of a position. -/
inductive Grant where
  | granted (s : State)
  | waits (s : State)
  | none (s : State)

/-- Offer the slot to the first request (R94, row 2): zero slots are skipped at once (R74); the named bank is connected
(R91); the slot integrates into a free hold set, or is computed digitally. A digital slot does not count in ArraySlots
(R103; DESIGN CHOICE, assumption 89). (DEDUCED, assumption 36.) -/
def State.offer (s : State) (c p : Nat) : Nat → Grant
  | 0 => .none s
  | fuel + 1 =>
    match (s.pos c p).reqs with
    | [] => .none s
    | r :: rest =>
      let a := p + 4 * r.f.bank
      let st := s.bankState c a
      let x := s.array c a
      if s.halted c ∨ !s.bankSettled c a r.entryNo then .none s
      else if s.fget .ARRAY_STATUS_LAYER_TAG c a ≠ r.f.tag then .granted (s.halt .bankTagMismatch c r.entryNo)
      else
        let f := mvmFmt r.f.fmt
        let (inputs, scales) := s.slotInputs c p r
        let digital : Bool := st = 4 || s.plan.refMode
        let pop (s : State) : State := (s.modPos c p fun x => { x with reqs := rest }).wideSlot c p r x.img inputs scales
        if slotLow f r.anchor scales x.scales then .granted (s.halt .anchorLow c r.entryNo)
        else if !digital && (List.range 8).all (groupZero f inputs) then
          let s := (pop s).fcount .ARRAY_COUNT_ZERO_SKIP_CNT 1 c a
          State.offer (s.arrStat fun t => { t with zeroSkip := layerCount t.zeroSkip r.f.tag 1 }) c p fuel
        else
          let k := s.job.watchRate
          let sampled : Bool := (x.slotNo + s.job.stepCounter + 1) % 2 ^ k = 0
          let held := ((List.range 4).map fun p =>
            ((s.pos c p).holds.filter fun h => h.sampled && h.codes.isNone).length).foldl (· + ·) 0
          if !digital && 2 ≤ (s.pos c p).holds.length then .waits (s.fcount .ARRAY_ARB_STALL_SLOTS 1 c p)
          else if !digital && sampled && 4 ≤ (s.core c).watch.length + held then .waits (s.fcount .WATCH_COUNT_STALL 1 c)
          else
            let other := if a < 4 then a + 4 else a - 4
            let s := if s.bankState c other = 3 then s.setBank c other 2 else s
            let s := if st = 2 then s.setBank c a 3 else s
            let s := pop s
            if digital then .granted ((s.digitalSlot c p r inputs scales).advance c)
            else
              let h : Hold := { req := some r, inputs := inputs, scales := scales, img := x.img, wsc := x.scales
                                logged := s.logged c a, sampled := sampled, array := a }
              let s := s.modPos c p fun x => { x with holds := x.holds ++ [h] }
              let s := s.modArr c a fun x => { x with slotNo := x.slotNo + 1 }
              .granted (s.arrStat fun t => { t with
                arraySlots := layerCount t.arraySlots r.f.tag 1
                zeroGroups := layerCount t.zeroGroups r.f.tag ((List.range 8).filter (groupZero f inputs)).length })

/-- What the running calibration pass of a position measures next (R109): 8 for the converters, an array, or nothing.
Granted slots that are still to be converted count. -/
def State.calNext (s : State) (c p : Nat) (q : CalPass) : Option Nat :=
  let ready (a : Nat) : Bool := s.bankState c a = 2 || s.bankState c a = 3
  let slots (a : Nat) (done : List (List CalRead)) : Nat :=
    done.length + ((s.pos c p).holds.filter fun h => h.calArray = some a).length
  if slots 8 q.convs < 16 then some 8
  else if slots p q.colsA < 128 && ready p then some p
  else if slots (p + 4) q.colsB < 128 && ready (p + 4) then some (p + 4)
  else none

end Sys2Proof.Machine
end

