-- ==== Sys2Proof/Machine/Readout.lean ====
section
/-! DEFINITION. The readout (R75 to R83): conversions, code terms, fix-ups; the watch unit (R354 to R356); calibration
passes, trims and spares (R104 to R113, R121 to R123); the creep scan, refresh and retention (R114 to R120). -/

namespace Sys2Proof.Machine

/-! ### Conversion of a slot (R76 to R78, R83, R86, R105) -/

/-- Is e, the exact product over the step, at least `n` steps? The step is 2^(4 − G) units and a unit 2^u integer
forms. -/
def atLeast (v : Int) (f : Fmt) (g : Nat) (n : Int) : Bool := decide (n * 2 ^ (4 - g) * 2 ^ (-f.u).toNat ≤ v)

/-- e is above `n` steps. -/
def above (v : Int) (f : Fmt) (g : Nat) (n : Int) : Bool := decide (n * 2 ^ (4 - g) * 2 ^ (-f.u).toNat < v)

/-- The over-range flag of R78: certain, impossible, or free. -/
def overFlag (v : Int) (f : Fmt) (g : Nat) (free : Bool) : Bool :=
  if atLeast v f g 128 || !above v f g (-129) then true
  else if atLeast v f g 126 || !above v f g (-127) then free else false

/-- A raw reading of column `j` through its trims, in 2^-20 step (R105): raw × (1 + (gain_c + gain_k + bias_p) × 2^-10) +
(offset_c + offset_k) ÷ 32, `raw` in 2^-10 step. The trims are those of the column or spare and of the converter that
serve it. -/
def State.corrected (s : State) (c a j : Nat) (raw : Int) : Int :=
  let p := a % 4
  let col := s.servCol c a j
  let k := s.servConv c p (j / 4)
  raw * (1024 + s.fgetS .COL_TRIM_GAIN_NOW c a col + s.fgetS .CONV_TRIM_GAIN_NOW c p k + s.fgetS .REF_BIAS_BIAS c p) +
    (s.fgetS .COL_TRIM_OFFSET_NOW c a col + s.fgetS .CONV_TRIM_OFFSET_NOW c p k) * 2 ^ 15

/-- The code that stands for a number of steps, in offset binary within its range (R76). -/
def codeOf (steps : Int) : Nat := (max 0 (min 255 (steps + 128))).toNat

/-- The conditions of R97: the die within 25 to 85 °C, the bank READY or ACTIVE, one calibration pass since power-up, refresh
enabled at its defaults. (DEDUCED, assumption 9.) -/
def State.bandHolds (s : State) (c a : Nat) : Bool :=
  let st := s.bankState c a
  !s.dieOob c && (st = 2 || st = 3) && (s.pos c (a % 4)).passed && s.fon .ARRAY_CTRL_REFRESH_EN c &&
  s.fon .ARRAY_CTRL_URGENT_BORROW c && decide (s.dval 0x5202 2 35 = 35 ∧ s.dval 0x5202 3 48 = 48 ∧ s.dval 0x5202 4 96 = 96)

/-- A code inside the error band of R97, for an exact product of `v` with `d` units to the step: a reading of `x` steps is
held within 1.5 steps of v ÷ d, but for a share of at most 0.27 % of the codes (`tail`), and towards v ÷ d while the mean
error lies beyond 0.25 step. (DESIGN CHOICE, assumption 9.) -/
def Band.hold (b : Band) (d : Nat) (v x : Int) (tail : Bool) : Nat × Band :=
  let out : Bool := tail && decide (10000 * (b.tails + 1) ≤ 27 * (b.codes + 1))
  let lo : Int := if b.sum < -(8 * (b.codes : Int)) then -(-v / d) else -((3 * d - 2 * v) / (2 * d))
  let hi : Int := if 8 * (b.codes : Int) < b.sum then v / d else (2 * v + 3 * d) / (2 * d)
  let code := codeOf (if out then x else max lo (min hi x))
  (code, { codes := b.codes + 1, tails := b.tails + b2n out
           sum := b.sum + (((code : Int) - 128) * d - v) * (32 / (d : Int)) })

/-- Units of an exact product in integer forms to one converter step: 2^(4 − G) × 2^-u (R77, R128). -/
def stepUnits (f : Fmt) (g : Nat) : Nat := 2 ^ (4 - g) * 2 ^ (-f.u).toNat

/-- Codes of segments of a slot (R76 to R78, R97, R105): each reading is a free value, corrected by its trims; without a flag
and under the conditions of R97 its code lies in the band, with one it is whatever it is; a logged segment is fixed up as
well (R86). (DESIGN CHOICE, assumption 9.) -/
def State.codesFrom (s : State) (c : Nat) (h : Hold) (r : SlotReq) (p : Nat) : List (Nat × Nat) → Nat → Band → List SegCode × Band
  | [], _, b => ([], b)
  | g :: gs, n, b =>
    let f := mvmFmt r.f.fmt
    let gain := bits r.f.gain (2 * p) 2
    let v := s.segProduct h.img f h.inputs g.1 g.2
    let miss := decide (256 * g.1 + g.2 ∈ h.logged)
    let fix := overFlag v f gain (Config.analogFlag (2 * n)) || miss
    let x := (s.corrected c h.array g.2 (Config.analogRaw n) + 2 ^ 19) / 2 ^ 20
    let (code, b) := if fix || !s.bandHolds c h.array then (codeOf x, b)
      else b.hold (stepUnits f gain) v x (Config.analogFlag (2 * n + 1))
    let (cs, b) := State.codesFrom s c h r p gs (n + 1) b
    (⟨g.1, g.2, code, fix, miss⟩ :: cs, b)

/-- Codes of a slot's driven segments. -/
def State.slotCodes (s : State) (c : Nat) (h : Hold) (r : SlotReq) (p i : Nat) : List SegCode × Band :=
  s.codesFrom c h r p (drivenSegs (mvmFmt r.f.fmt) h.inputs) i s.band

/-- Replace the first hold set that satisfies a test. -/
def setHold (p : Hold → Bool) (f : Hold → Option Hold) : List Hold → List Hold
  | [] => []
  | h :: r => if p h then (match f h with | some x => x :: r | none => r) else h :: setHold p f r

/-! ### Calibration measurements (R109, R112, R121, R122) -/

/-- The least change of a target that R112 still accepts: limits of a gain and an offset against the last accepted
ones. -/
def trimOk (gain offset oldG oldO : Int) (accepted : Bool) : Bool :=
  decide (-96 ≤ gain ∧ gain ≤ 96 ∧ -96 ≤ offset ∧ offset ≤ 95) &&
  (!accepted || decide ((gain - oldG).natAbs ≤ 10 ∧ (offset - oldO).natAbs ≤ 16))

/-- Plausibility of a column's measurement (R112); REF3 linearity counts while the drift is below 0.1 level. -/
def colOk (m : Meas) (oldG oldO : Int) (accepted : Bool) (drift : Nat) : Bool :=
  trimOk m.gain m.offset oldG oldO accepted && decide (m.scatter ≤ 512) && decide (m.spread ≤ 4096) &&
  decide (m.ratioErr ≤ 10) && !m.flagged && (decide (103 ≤ drift) || decide (m.linErr ≤ 512))

/-- The pattern of slot `n` of an array's part of a pass (R109), in the order of the rule: at gain ×8, 16 slots each of 0 REF0,
1 REF1, 2 REF2, 3 REF3 even rows, 4 REF3 odd rows; then 6 slots each of 5 + 2G REF1 and 6 + 2G REF2 at gain G. -/
def calPattern (n : Nat) : Nat := if n < 80 then n / 16 else 5 + (n - 80) / 6

/-- Block product that a pattern drives (R109): REF1 at D = 12 and REF2 at D = 14 on 4 × 2^(3 − G) rows, REF3 on four rows at
D = 14. -/
def patProduct (t : Nat) : Int :=
  match t with
  | 0 => 0 | 1 => -192 | 2 => 196 | 3 => -112 | 4 => 112
  | n => (if n % 2 = 1 then -192 else 196) * 2 ^ (3 - (n - 5) / 2)

/-- Readings of column or converter `j` over some slots. -/
def readsOf (rs : List (List CalRead)) (j : Nat) : List Int := rs.map fun slot => (slot.getD j {}).value

/-- The mean of readings. -/
def meanOf (xs : List Int) : Int := if xs = [] then 0 else xs.foldl (· + ·) 0 / xs.length

/-- The slots of an array's part that drove pattern `t`. -/
def patReads (rs : List (List CalRead)) (t : Nat) : List (List CalRead) :=
  (rs.zipIdx.filter fun x => calPattern x.2 = t).map (·.1)

/-- Standard deviation of readings, rounded up (R112). -/
def stdDev (xs : List Int) : Nat :=
  let n := xs.length
  let y := ((n : Int) * (xs.map fun x => x * x).foldl (· + ·) 0 - (xs.foldl (· + ·) 0) ^ 2).toNat
  if n = 0 then 0 else ceilDiv (isqrt y + b2n (isqrt y * isqrt y ≠ y)) n

/-- A number put into its place of a rising list. -/
def insertInt (x : Int) : List Int → List Int
  | [] => [x]
  | y :: r => if x ≤ y then x :: y :: r else y :: insertInt x r

/-- Twice the median of a list. -/
def median2 (xs : List Int) : Int :=
  let ys := xs.foldr insertInt []
  ys.getD ((ys.length - 1) / 2) 0 + ys.getD (ys.length / 2) 0

/-- Distance of two readings, a difference given twice, rounded up. -/
def halfUp (x : Int) : Nat := ceilDiv x.natAbs 2

/-- a ÷ b to the nearest whole number; far beyond every limit of R112 where b is not positive. -/
def nearDiv (a b : Int) : Int := if b ≤ 0 then 4096 else (2 * a + b) / (2 * b)

/-- The gain trim that brings the span of two readings to `steps` steps, and the offset trim that brings the first one's
zero to 0 (R105, R109). (DEDUCED, assumption 90.) -/
def trimsFor (zero span steps : Int) : Int × Int :=
  let g := nearDiv (1024 * (steps * 1024)) span - 1024
  (g, nearDiv (-(zero * (1024 + g))) 32768)

/-- Two readings of like size at successive gains, each less the zero reading: the gains' ratio against 2, in 1/1,000 of 2,
rounded up (R109, R112). -/
def ratioErr (zero lo hi : Int) : Nat :=
  if lo = zero then 1000 else ceilDiv ((hi - lo).natAbs * 1000) (lo - zero).natAbs

/-- What the 128 slots of an array's part measured of its 260 columns (R109, R112): each value the mean of its repeats.
(DEDUCED, assumption 90.) -/
def colMeasures (rs : List (List CalRead)) : List Meas :=
  let pats := (List.range 13).map (patReads rs)
  let mean (t j : Nat) : Int := meanOf (readsOf (pats.getD t []) j)
  let med (t : Nat) : Int := median2 ((List.range 260).map (mean t))
  let m1 := med 1
  let m2 := med 2
  (List.range 260).map fun j =>
    let z := mean 0 j
    let (g, o) := trimsFor z (mean 2 j - mean 1 j) 194
    { gain := g, offset := o
      scatter := (pats.map fun x => stdDev (readsOf x j)).foldl max 0
      spread := max (halfUp (2 * mean 1 j - m1)) (halfUp (2 * mean 2 j - m2))
      ratioErr := ([5, 6, 7, 8, 9, 10].map fun t => ratioErr z (mean t j) (mean (t + 2) j)).foldl max 0
      flagged := rs.any fun slot => (slot.getD j {}).flagged
      linErr := halfUp (mean 3 j + mean 4 j - 2 * z) }

/-- What the 16 slots of the converters measured of the 65 (R109): 8 with the zero charge, then 8 with the full-scale charge,
which is 127 steps; a converter's trim comes on top of the bias. (DEDUCED, assumption 90.) -/
def convMeasures (bias : Int) (rs : List (List CalRead)) : List Meas :=
  (List.range 65).map fun k =>
    let z := meanOf (readsOf (rs.take 8) k)
    let (g, o) := trimsFor z (meanOf (readsOf (rs.drop 8) k) - z) 127
    { gain := g - bias, offset := o, flagged := rs.any fun slot => (slot.getD k {}).flagged }

/-- Mean drift of REF3's cells in 1/1,024 level (R120): the midpoint of its even and odd readings against REF0, with the span
of REF1 and REF2, 194 steps, as the scale and 14 steps to a level; none without a span. (DEDUCED, assumption 90.) -/
def driftOf (rs : List (List CalRead)) : Option Nat :=
  let sum (t : Nat) : Int := ((List.range 260).map fun j => meanOf (readsOf (patReads rs t) j)).foldl (· + ·) 0
  let span := sum 2 - sum 1
  if span ≤ 0 then none else some (min 4095 ((sum 3 + sum 4 - 2 * sum 0).natAbs * 198656 / (28 * span.natAbs)))

/-- A rejected measurement is counted (R112). -/
def State.calReject (s : State) (c p : Nat) : State :=
  ((s.fcount .CAL_STATUS_REJECTS 1 c p).countD 0x5203 3 1).countCode .calReject

/-- Lowest free working spare column of an array. -/
def State.freeSpare (s : State) (c a : Nat) : Option Nat :=
  (List.range 4).find? fun n => !s.fon .SPARE_COL_IN_USE c a n && !s.fon .SPARE_COL_PENDING c a n &&
    !((s.array c a).cols.get (256 + n) {}).bad

/-- A free spare is reserved for weight column `col`, or SPARE_EXHAUSTED is raised (R121, R123). (DEDUCED, assumption 78.) -/
def State.reserveSpare (s : State) (c a col : Nat) : State :=
  match s.freeSpare c a with
  | some n => (s.fset .SPARE_COL_COLUMN col c a n).fset .SPARE_COL_PENDING 1 c a n
  | none => s.statusRecord .spareExhausted (s.locCore c a) (s.arrayStatus c a) recSpare

/-- Mark a column bad (R121): its segments are held in the log, and a spare is reserved for it. Columns 256 to 259 are the
spares themselves: one that serves a column, or is reserved for one, hands it to another free spare. -/
def State.markColumn (s : State) (c a j : Nat) : State :=
  let m := (s.array c a).cols.get j {}
  if m.bad then s else
  let s := s.modArr c a fun x => { x with cols := x.cols.put j { m with bad := true } }
  if j < 256 then (s.recount c a).reserveSpare c a j
  else
    let col := s.fget .SPARE_COL_COLUMN c a (j - 256)
    if s.fon .SPARE_COL_IN_USE c a (j - 256) then (s.recount c a).reserveSpare c a col
    else if s.fon .SPARE_COL_PENDING c a (j - 256) then (s.fset .SPARE_COL_PENDING 0 c a (j - 256)).reserveSpare c a col
    else s

/-- No spare converter is left for a marked one: SPARE_EXHAUSTED, as for a column (R123; DESIGN CHOICE, assumption 91). -/
def State.convExhausted (s : State) (c p : Nat) : State :=
  s.statusRecord .spareExhausted (s.locCore c p) (s.rword .array c (0xA0 + 4 * p)) recSpare

/-- Mark a converter bad (R122): its columns are held in both arrays' logs until the spare takes over; where the spare serves
already, is reserved or is itself marked, they stay. A marked spare that serves leaves its columns in the logs too, and one
that was only reserved is released. -/
def State.markConv (s : State) (c p k : Nat) : State :=
  let m := (s.pos c p).convs.get k {}
  if m.bad then s else
  let s := s.modPos c p fun x => { x with convs := x.convs.put k { m with bad := true } }
  let s := (s.recount c p).recount c (p + 4)
  if k = 64 then
    if s.fon .CONV_SPARE_PENDING c p then (s.fset .CONV_SPARE_PENDING 0 c p).convExhausted c p
    else if s.fon .CONV_SPARE_IN_USE c p then s.convExhausted c p else s
  else if s.fon .CONV_SPARE_IN_USE c p || s.fon .CONV_SPARE_PENDING c p || ((s.pos c p).convs.get 64 {}).bad then s.convExhausted c p
  else (s.fset .CONV_SPARE_REPLACED k c p).fset .CONV_SPARE_PENDING 1 c p

/-- STALE of an array: a column's own trim, or that of the converter that serves it, is off its target (R107). -/
def State.staleOf (s : State) (c a : Nat) : Bool :=
  let off (w : Nat) : Bool := w % 65536 ≠ w / 65536
  ((List.range 260).any fun j => off (s.rword .array c (0x1000 + 0x800 * a + 4 * j))) ||
  ((List.range 64).any fun k => off (s.rword .array c (0x5000 + 0x200 * (a % 4) + 4 * s.servConv c (a % 4) k)))

/-- STALE bits of the two arrays of a position. -/
def State.restale (s : State) (c a : Nat) : State :=
  let v := b2n (s.staleOf c a)
  if s.fget .ARRAY_STATUS_STALE c a = v then s else s.fset .ARRAY_STATUS_STALE v c a

/-- One column's outcome of a pass: a new target, or a rejection (R112, R121). REF3 linearity is judged by the DRIFT held
before the pass, `drift` (DESIGN CHOICE, assumption 92). -/
def State.colMeas (s : State) (c a drift j : Nat) (m : Meas) : State :=
  let k := (s.array c a).cols.get j {}
  let og := s.fgetS .COL_TRIM_GAIN_TARGET c a j
  let oo := s.fgetS .COL_TRIM_OFFSET_TARGET c a j
  if colOk m og oo k.accepted drift then
    let s := (s.fsetS .COL_TRIM_GAIN_TARGET m.gain c a j).fsetS .COL_TRIM_OFFSET_TARGET m.offset c a j
    s.modArr c a fun x => { x with cols := x.cols.put j { k with fails := 0, accepted := true } }
  else
    let s := (s.calReject c (a % 4)).modArr c a fun x => { x with cols := x.cols.put j { k with fails := k.fails + 1 } }
    if 3 ≤ k.fails + 1 then s.markColumn c a j else s

/-- One converter's outcome of a pass. -/
def State.convMeas (s : State) (c p k : Nat) (m : Meas) : State :=
  let q := (s.pos c p).convs.get k {}
  let og := s.fgetS .CONV_TRIM_GAIN_TARGET c p k
  let oo := s.fgetS .CONV_TRIM_OFFSET_TARGET c p k
  if trimOk m.gain m.offset og oo q.accepted && !m.flagged then
    let s := (s.fsetS .CONV_TRIM_GAIN_TARGET m.gain c p k).fsetS .CONV_TRIM_OFFSET_TARGET m.offset c p k
    s.modPos c p fun x => { x with convs := x.convs.put k { q with fails := 0, accepted := true } }
  else
    let s := (s.calReject c p).modPos c p fun x => { x with convs := x.convs.put k { q with fails := q.fails + 1 } }
    if 3 ≤ q.fails + 1 then s.markConv c p k else s

/-- The published retention rate follows DRIFT and AGE once AGE is at least 600 s (R120). -/
def State.rerate (s : State) (c a : Nat) : State :=
  let age := s.fget .RETENTION_AGE c a
  if age < 600 then s
  else s.modArr c a fun x => { x with rate := min 0xFFFF (s.fget .RETENTION_DRIFT c a * 4 * 3600 / age) }

/-- REF3 is rewritten alone once its drift reaches 0.25 level (R120). -/
def State.ref3 (s : State) (c a : Nat) : State :=
  if 256 ≤ s.fget .RETENTION_DRIFT c a then (s.fset .RETENTION_DRIFT 0 c a).fset .RETENTION_AGE 0 c a else s

/-- The drift of REF3, its rate and its rewriting as a pass leaves them (R120), whatever the temperature. -/
def State.retain (s : State) (c a : Nat) (rs : List (List CalRead)) : State :=
  match driftOf rs with
  | some d => ((s.fset .RETENTION_DRIFT d c a).rerate c a).ref3 c a
  | none => s

/-- Columns 4k to 4k + 3 all fail R112 in both banks' measurements of a pass (R122). -/
def State.fourFail (s : State) (c p : Nat) (ma mb : List Meas) (drift : Nat → Nat) (k : Nat) : Bool :=
  ma ≠ [] && mb ≠ [] && (List.range 4).all fun i =>
    [(p, ma), (p + 4, mb)].all fun b =>
      match b.2[4 * k + i]? with
      | some m => !colOk m (s.fgetS .COL_TRIM_GAIN_TARGET c b.1 (4 * k + i)) (s.fgetS .COL_TRIM_OFFSET_TARGET c b.1 (4 * k + i))
          ((s.array c b.1).cols.get (4 * k + i) {}).accepted (drift b.1)
      | none => false

/-- A finished pass (R112, R120): the retention figures follow it, and plausible targets are written unless the die is out of
its temperature range. -/
def State.passDone (s : State) (c p : Nat) (q : CalPass) : State :=
  let oob : Bool := s.dieOob c
  let s := s.modPos c p fun x => { x with cal := none, calStop := false, passed := true }
  let s := (s.fset .CAL_STATUS_RUNNING 0 c p).fset .CAL_STATUS_STARVED 0 c p
  let s := s.fset .CAL_STATUS_PASS_COUNT ((s.fget .CAL_STATUS_PASS_COUNT c p + 1) % 65536) c p
  let s := s.setDval 0x5203 2 ((s.dval 0x5203 2 0 + 1) % 2 ^ 32)
  let da := s.fget .RETENTION_DRIFT c p
  let db := s.fget .RETENTION_DRIFT c (p + 4)
  let s := (s.retain c p q.colsA).retain c (p + 4) q.colsB
  if oob then s else
  let ma := if q.colsA = [] then [] else colMeasures q.colsA
  let mb := if q.colsB = [] then [] else colMeasures q.colsB
  let dead := ((List.range 64).filter (s.fourFail c p ma mb fun a => if a < 4 then da else db)).map (s.servConv c p)
  let s := (convMeasures (s.fgetS .REF_BIAS_BIAS c p) q.convs).zipIdx.foldl (fun s m => s.convMeas c p m.2 m.1) s
  let s := ma.zipIdx.foldl (fun s m => s.colMeas c p da m.2 m.1) s
  let s := mb.zipIdx.foldl (fun s m => s.colMeas c (p + 4) db m.2 m.1) s
  let s := dead.foldl (fun s k => s.markConv c p k) s
  (s.restale c p).restale c (p + 4)

/-- The pass is complete: converters measured, and each array measured or skipped (R110). -/
def State.passComplete (s : State) (c p : Nat) (q : CalPass) : Bool :=
  let skip (a : Nat) : Bool := s.bankState c a = 0 || s.bankState c a = 4
  decide (16 ≤ q.convs.length) && (decide (128 ≤ q.colsA.length) || skip p) && (decide (128 ≤ q.colsB.length) || skip (p + 4))

/-- LEVEL counts the samples held; a recomputation is in progress while there are any (R377). (DEDUCED, assumption 93.) -/
def State.watchLevel (s : State) (c : Nat) : State :=
  let n := (s.core c).watch.length
  (s.fset .WATCH_STATUS_LEVEL n c).fset .WATCH_STATUS_BUSY (b2n (n ≠ 0)) c

/-- The array's over-range flags of a slot: those of segments that are not logged (R83, R86; DESIGN CHOICE, assumption 94). -/
def State.overRange (s : State) (c a tag n : Nat) : State :=
  if n = 0 then s else
  let s := ((s.fset .ARRAY_STATUS_OVER_RANGE_SEEN 1 c a).fcount .ARRAY_COUNT_OVER_RANGE_CNT n c a).countCode .overRange n
  s.arrStat fun t => { t with overRange := layerCount t.overRange tag n }

/-- READOUT_CONVERSION: the oldest unconverted hold set of a position is converted: a slot into codes and flags, a
calibration slot into the readings `reads` of its part of the pass, by converter or by column. -/
def execReadoutConversion (core pos : Nat) (reads : List CalRead) (s : State) : Out :=
  s.clocked (.readoutConversion core pos reads) <|
  .next (
    match (s.pos core pos).holds.find? (·.codes.isNone) with
    | none => s
    | some h =>
      match h.req, h.calArray with
      | some r, _ =>
        let (i, s) := s.draw 2048
        let (cs, b) := s.slotCodes core h r pos i
        let s := { s with band := b }
        let s := s.modPos core pos fun x =>
          { x with holds := setHold (·.codes.isNone) (fun h => some { h with codes := some cs }) x.holds }
        let s := s.overRange core h.array r.f.tag (cs.filter fun x => x.fix && !x.miss).length
        if h.sampled then
          let w : WatchSample := ⟨h.array, h.inputs, h.scales, r.f.fmt, bits r.f.gain (2 * pos) 2, h.img, cs⟩
          (s.modCore core fun k => { k with watch := k.watch ++ [w] }).watchLevel core
        else s
      | none, some a =>
        let s := s.modPos core pos fun x => { x with holds := setHold (·.codes.isNone) (fun _ => none) x.holds }
        match (s.pos core pos).cal with
        | none => s
        | some q =>
          let q :=
            if a = 8 then { q with convs := q.convs ++ [reads] }
            else if a < 4 then { q with colsA := q.colsA ++ [reads] }
            else { q with colsB := q.colsB ++ [reads] }
          let s := s.modPos core pos fun x => { x with cal := some q }
          if s.passComplete core pos q then s.passDone core pos q else s
      | none, none => s)

/-! ### Code terms and fix-ups (R79 to R82, R86) -/

/-- FIXUP_LEVEL follows the queue. -/
def State.fixLevel (s : State) (c : Nat) : State := s.fset .ENGINE_STATUS_FIXUP_LEVEL (s.core c).fixups.length c

/-- Codes of a hold set that can move on: all, or those before the first fix-up that finds the queue full (R82). -/
def takeCodes : Nat → List SegCode → List SegCode × List SegCode
  | _, [] => ([], [])
  | room, g :: r =>
    if g.fix then
      match room with
      | 0 => ([], g :: r)
      | n + 1 => let (a, b) := takeCodes n r; (g :: a, b)
    else let (a, b) := takeCodes room r; (g :: a, b)

/-- CODE_TERM_ADD: the oldest converted hold set of a position: codes become terms (R79), fixed segments join the fix-up
queue (R81); what finds the queue full stays in the hold set (R82). A 0xFF scale of a driven segment gives zero and
SCALE_NAS (R80; of an undriven one nothing: DESIGN CHOICE, assumption 88). -/
def execCodeTermAdd (core pos : Nat) (s : State) : Out :=
  s.clocked (.codeTermAdd core pos) <|
  .next (
    match (s.pos core pos).holds.find? (·.codes.isSome) with
    | none => s
    | some h =>
      match h.req, h.codes with
      | some r, some cs =>
        let nasOf (g : SegCode) : Bool := h.scales.getD g.q 0 = 255 || h.wsc.read (256 * g.q + g.col) = 255
        let live := cs.filter fun g => !nasOf g
        let (go, rest) := takeCodes (1024 - (s.core core).fixups.length) live
        let sx (g : SegCode) : Nat := h.scales.getD g.q 0
        let sw (g : SegCode) : Nat := (h.wsc.read (256 * g.q + g.col)).toNat
        let G := bits r.f.gain (2 * pos) 2
        let ts : List Term := (go.filter fun g => !g.fix).map fun g =>
          ⟨slotElem r.f pos r.r g.col, (g.code : Int) - 128, (sx g : Int) + sw g - 254 + 4 - G⟩
        let fx : List Fixup := (go.filter (·.fix)).map fun g =>
          ⟨h.array, g.q, g.col, (h.inputs.drop (32 * g.q)).take 32, r.f.fmt, sx g, sw g, h.img, r.f.tag, r.f.tile,
           slotElem r.f pos r.r g.col, r.entryNo, r.anchor, g.miss⟩
        let s := s.addTerms core r.f.tile r.anchor (layerOfEntry core r.entryNo) ts
        let s := if cs.any nasOf then s.raise .scaleNas core else s
        let s := s.modPos core pos fun x =>
          { x with holds := setHold (·.codes.isSome) (fun h => if rest = [] then none else some { h with codes := some rest }) x.holds }
        (s.modCore core fun k => { k with fixups := k.fixups ++ fx }).fixLevel core
      | _, _ => s.modPos core pos fun x => { x with holds := setHold (·.codes.isSome) (fun _ => none) x.holds })

/-- FIXUP: the oldest fix-up adds the segment's exact block product (R81). -/
def execFixup (core : Nat) (s : State) : Out :=
  s.clocked (.fixup core) <|
  .next (
    match (s.core core).fixups with
    | [] => s
    | x :: rest =>
      let f := mvmFmt x.fmt
      let v := ((List.range 32).map fun k =>
        ((intForm f (x.inputs.getD k 0)).getD 0) * signed 4 (s.imgCode x.img (32 * x.q + k) x.col)).foldl (· + ·) 0
      let bad := s.badIn (x.img + 4096 * x.q + 16 * x.col) 16
      let s := s.addTerms core x.tile x.anchor (layerOfEntry core x.entryNo)
        [⟨x.elem, v, (x.sx : Int) + x.sw - 254 + f.u⟩]
      let s := s.raiseBad bad (some core)
      let s := if x.miss then s.arrStat fun t => { t with missFix := layerCount t.missFix x.tag 1 } else s
      ((s.modCore core fun k => { k with fixups := rest }).fixLevel core).advance core)

/-! ### The watch unit (R355, R356) -/

/-- Distance of a code from e in integer-form units, times nothing: |(code − 128) × step − v|, and the step. -/
def codeDist (f : Fmt) (g code : Nat) (v : Int) : Nat × Nat :=
  let step : Nat := stepUnits f g
  ((((code : Int) - 128) * step - v).natAbs, step)

/-- WATCH_RECOMPUTE: the oldest sample is recomputed and compared (R99, R356). -/
def execWatchRecompute (core : Nat) (s : State) : Out :=
  s.clocked (.watchRecompute core) <|
  .next (
    match (s.core core).watch with
    | [] => s
    | w :: rest =>
      let f := mvmFmt w.fmt
      let ds := (w.codes.filter fun g => !g.fix).map fun g => codeDist f w.gain g.code (s.segProduct w.img f w.inputs g.q g.col)
      let worst := (ds.map fun d => d.1 / d.2).foldl max 0
      let bad := ds.any fun d => 4 * d.2 < d.1
      let words := s.badIn w.img 32768
      let s := s.modCore core fun k => { k with watch := rest }
      let s := (s.watchLevel core).fcount .WATCH_COUNT_SAMPLES 1 core
      let s := s.fset .WATCH_STATUS_WORST (min 255 (max worst (s.fget .WATCH_STATUS_WORST core))) core
      let s := s.raiseBad words (some core)
      let s := if bad then
          let s := if (s.core core).watchFound then s else
            (s.fset .WATCH_STATUS_ARRAY w.array core).modCore core fun k => { k with watchFound := true }
          s.raise .watchMismatch core w.array
        else s
      s.advance core)

/-! ### The slot boundary (R94) -/

/-- Row 4: one conversion of a running pass, while a hold set is free. A pass that has nothing left to measure, since an
array turned FAILED, is complete (R110). -/
def State.calGrant (s : State) (c p : Nat) : State :=
  match (s.pos c p).cal with
  | none => s
  | some q =>
    match s.calNext c p q, decide ((s.pos c p).holds.length < 2) with
    | some a, true =>
      (s.modPos c p fun x => { x with holds := x.holds ++ [{ req := none, calArray := some a }] }).fcount
        .ARRAY_ARB_CAL_SLOTS 1 c p
    | none, _ => if s.passComplete c p q then s.passDone c p q else s
    | _, _ => s

/-- A pass that a write of 0 to CAL_EN stops ends at the slot boundary, its measurements discarded (R110). -/
def State.calStopped (s : State) (c p : Nat) : State :=
  if !(s.pos c p).calStop then s else
  let s := s.modPos c p fun x => { x with cal := none, calStop := false, holds := x.holds.filter fun h => h.calArray.isNone }
  (s.fset .CAL_STATUS_RUNNING 0 c p).fset .CAL_STATUS_STARVED 0 c p

/-- SLOT_GRANT: the position grants its slot by R94: urgent refresh of the connected bank, an ARRAY_MVM, other refresh,
calibration, or nobody. `still` are the columns a refresh pulse leaves outside the window. -/
def execSlotGrant (core pos : Nat) (still : List Nat) (s : State) : Out :=
  s.clocked (.slotGrant core pos still) <|
  .next (
    if !coreOk core ∨ 4 ≤ pos then s else
    let s := s.calStopped core pos
    let since := (s.pos core pos).sinceBorrow
    let s := s.modPos core pos fun x => { x with sinceBorrow := min 15 (x.sinceBorrow + 1) }
    let on := s.fon .ARRAY_CTRL_REFRESH_EN core
    let conn := s.connected core pos
    let due : Bool := match conn with | some a => !(s.array core a).urgent.isEmpty | none => false
    match conn, on && s.fon .ARRAY_CTRL_URGENT_BORROW core && decide (15 ≤ since) && due with
    | some a, true =>
      ((s.fcount .ARRAY_ARB_BORROWED 1 core pos).modPos core pos fun x => { x with sinceBorrow := 0 }).refresh core a still
    | _, _ =>
      match s.offer core pos ((s.pos core pos).reqs.length + 1) with
      | .granted s | .waits s => s
      | .none s =>
        if !(s.pos core pos).reqs.isEmpty then s else
        match conn with
        | some a => if on && (s.array core a).refreshRow.isSome then s.refresh core a still else s.calGrant core pos
        | none => s.calGrant core pos)

/-! ### Calibration scheduling (R110) -/

/-- CALIBRATION_PASS_START: a position starts a pass when none runs and CAL_EN is 1. A pass that a write to CAL_EN has
stopped runs until its slot boundary. -/
def execCalibrationPassStart (core pos : Nat) (s : State) : Out :=
  s.clocked (.calibrationPassStart core pos) <|
  .next (
    if (s.pos core pos).cal.isSome ∨ ¬ s.fon .ARRAY_CTRL_CAL_EN core ∨ 4 ≤ pos ∨ !coreOk core then s
    else (s.modPos core pos fun x => { x with cal := some {} }).fset .CAL_STATUS_RUNNING 1 core pos)

/-- CAL_STARVED: the running pass is older than 10 periods. -/
def execCalStarved (core pos : Nat) (s : State) : Out :=
  s.clocked (.calStarved core pos) <|
  .next (if (s.pos core pos).cal.isSome ∧ coreOk core ∧ pos < 4 then s.fset .CAL_STATUS_STARVED 1 core pos else s)

/-- A write of 0 to CAL_EN: the running passes end at their positions' next slot boundary, whatever is written after
(R110). -/
def State.stopPasses (s : State) (c : Nat) : State :=
  s.modCore c fun k => { k with poss := k.poss.map fun x => (x.1, { x.2 with calStop := x.2.calStop || x.2.cal.isSome }) }

/-- CAL_EN_CLEAR: a write of 0 to CAL_EN. -/
def execCalEnClear (core : Nat) (s : State) : Out :=
  s.clocked (.calEnClear core) <|
  .next (if coreOk core then (s.fset .ARRAY_CTRL_CAL_EN 0 core).stopPasses core else s)

/-! ### Trim boundaries (R106 to R108, R122, R124) -/

/-- One unit towards a target. -/
def toward (v t : Int) : Int := if v < t then v + 1 else if t < v then v - 1 else v

/-- A trim register with its in-force values one unit nearer their targets. -/
def rampWord (w : Nat) : Nat :=
  let g := toward (signed 8 (bits w 0 8)) (signed 8 (bits w 16 8))
  let o := toward (signed 8 (bits w 8 8)) (signed 8 (bits w 24 8))
  setBits (setBits w 0 8 (wrap 8 g)) 8 8 (wrap 8 o)

/-- Is a register key a trim of the array section? -/
def isTrimKey (key : Nat) : Bool := key / 65536 / 4096 = secNo .array && 0x1000 ≤ key % 65536 && key % 65536 < 0x5800

/-- Cores that have a listed array register. -/
def State.arrayCores (s : State) : List Nat :=
  ((s.regs.filter fun r => r.1 / 65536 / 4096 = secNo .array).map fun r => r.1 / 65536 % 4096).eraseDups

/-- A bias move of the margin re-plan takes effect (R124): the mean of the position's converter gain targets goes into
the reference bias, held within its range, and out of every converter's target and in-force gain. A gain that this takes
beyond its signed 8 bits wraps (DESIGN CHOICE, assumption 95). (DEDUCED, assumption 73.) -/
def State.biasMove (s : State) (c p : Nat) : State :=
  let gs := (List.range 65).map fun k => s.fgetS .CONV_TRIM_GAIN_TARGET c p k
  let sum := gs.foldl (· + ·) 0
  let mean := (rneShiftInt sum 65)
  let b := s.fgetS .REF_BIAS_BIAS c p
  let nb := max (-256) (min 255 (b + mean))
  let d := nb - b
  let s := s.fsetS .REF_BIAS_BIAS nb c p
  let s := (List.range 65).foldl (fun s k =>
    (s.fsetS .CONV_TRIM_GAIN_TARGET (s.fgetS .CONV_TRIM_GAIN_TARGET c p k - d) c p k).fsetS .CONV_TRIM_GAIN_NOW
      (s.fgetS .CONV_TRIM_GAIN_NOW c p k - d) c p k) s
  s.modPos c p fun x => { x with biasDue := false }
where
  /-- Integer division rounded to nearest, ties to even. -/
  rneShiftInt (v : Int) (n : Int) : Int :=
    let q := v / n
    let r := v % n
    if 2 * r < n then q else if n < 2 * r then q + 1 else if q % 2 = 0 then q else q + 1

/-- The spare converter takes over at a trim boundary (R122). -/
def State.spareConv (s : State) (c p : Nat) : State :=
  if s.fon .CONV_SPARE_PENDING c p then
    let s := (s.fset .CONV_SPARE_PENDING 0 c p).fset .CONV_SPARE_IN_USE 1 c p
    let s := (s.recount c p).recount c (p + 4)
    s.logWrite recSpare 0xFF 0 (s.locCore c p) 0 0xFFFFFFFF (bytesOf 4 (s.fget .CONV_SPARE_REPLACED c p) ++ bytesOf 4 64)
  else s

/-- A trim boundary (R106): every in-force trim that differs from its target moves one unit towards it; a die whose
clock is stopped holds its state (R458).
(DEDUCED, assumption 73.) -/
def State.trimBoundary (s : State) : State :=
  let s : State := { s with bounds := s.bounds + 1
                            regs := s.regs.map fun r => if isTrimKey r.1 ∧ s.clockOn (r.1 / 65536 % 4096) true then (r.1, word (rampWord r.2.toNat)) else r }
  let s := (s.arrayCores.filter (s.clockOn · true)).foldl (fun s c =>
    let s := (List.range 4).foldl (fun s p => s.spareConv c p) s
    (List.range 8).foldl (fun s a => s.restale c a) s) s
  (s.cores.keys.filter (s.clockOn · true)).foldl (fun s c => (List.range 4).foldl (fun s p => if (s.pos c p).biasDue then s.biasMove c p else s) s) s

/-- TRIM_BOUNDARY: the boundary that comes every 1 ms while no attempt is in progress (R106). Those of a commit and of a
refusal belong to the commands that decide. -/
def execTrimBoundary (s : State) : Out := .next (if s.job.current.isSome then s else s.trimBoundary)

/-! ### Creep scan (R114 to R119) -/

/-- A scan pass is in progress: it ends at the eighth trim boundary after its start at the latest (R116). Rows that the
commands have not read by then stay unread (DESIGN CHOICE, assumption 96). -/
def State.scans (s : State) (c a : Nat) : Bool :=
  (s.array c a).scanning && decide (s.bounds < (s.array c a).scanStart + 8)

/-- CREEP_SCAN_PASS: a pass starts on an array in READY or ACTIVE that runs none. -/
def execCreepScanPass (core array : Nat) (s : State) : Out :=
  s.clocked (.creepScanPass core array) <|
  .next (
    let st := s.bankState core array
    if !arrOk core array ∨ s.scans core array ∨ ¬ (st = 2 ∨ st = 3) then s
    else s.modArr core array fun x =>
      { x with scanning := true, scanStart := s.bounds, scanRow := 0, gross := [], pulses := [] })

/-- Thresholds in force (R126). -/
def State.creepThr (s : State) : Nat × Nat × Nat := (s.dval 0x5202 2 35, s.dval 0x5202 3 48, s.dval 0x5202 4 96)

/-- Deviation of a cell from its target in 1/64 level (R114, R115): the level it was written to, plus what its charge has
crept since, less the level that the image gives it now. -/
def State.deviation (s : State) (c a r : Nat) (creep : List (Nat × Int)) (j : Nat) : Int :=
  64 * ((((s.array c a).levels.get (264 * r + j) (patLevel r j) : Nat) : Int) - s.target c a (s.array c a).img r j) +
    ((creep.find? (·.1 = j)).map (·.2)).getD 0

/-- CREEP_ROW_READ: the next row of the scan is read; `creep` gives its cells' creep in 1/64 level (R115). A row that an
urgent verdict finds in the routine queue moves to the urgent one (R118). While the queue its verdict needs is full, the
scan waits (R118). REF3, column 259, is never refreshed (R120). A column is marked when cells of two of its row groups are
gross in one pass (R121). (DEDUCED, assumption 97.) -/
def execCreepRowRead (core array : Nat) (creep : List (Nat × Int)) (s : State) : Out :=
  s.clocked (.creepRowRead core array creep) <|
  .next (
    let x := s.array core array
    let st := s.bankState core array
    if !s.scans core array ∨ ¬ (st = 2 ∨ st = 3) ∨ 256 ≤ x.scanRow then s else
    let (tr, tu, tg) := s.creepThr
    let r := x.scanRow
    let ds := (List.range 264).map fun j => (j, (s.deviation core array r creep j).natAbs)
    let gross := (ds.filter fun d => tg < d.2).map (·.1)
    let urgent := ds.any fun d => d.1 ≠ 259 && tu < d.2 && d.2 ≤ tg
    let routine := ds.any fun d => d.1 ≠ 259 && tr < d.2 && d.2 ≤ tu
    let on := s.fon .ARRAY_CTRL_REFRESH_EN core
    let needU : Bool := on && urgent && r ∉ x.urgent
    let needR : Bool := on && !urgent && routine && r ∉ x.urgent && r ∉ x.routine
    if (needU ∧ 16 ≤ x.urgent.length) ∨ (needR ∧ 64 ≤ x.routine.length) then s else
    let cells := gross.map fun j => 264 * (r / 32) + j
    let bad := gross.filter fun j => (j < 256 ∨ 260 ≤ j) ∧ x.gross.any fun g => g % 264 = j ∧ g / 264 ≠ r / 32
    let words := if r % 32 = 0 then s.badIn (x.img + 4096 * (r / 32)) 4096 else []
    let s := s.modArr core array fun x =>
      { x with urgent := if needU then x.urgent ++ [r] else x.urgent
               routine := if needU then x.routine.filter (· ≠ r) else if needR then x.routine ++ [r] else x.routine
               gross := x.gross ++ cells.filter (· ∉ x.gross), scanRow := r + 1, scanning := decide (r + 1 < 256) }
    let s := (s.fcount .CREEP_COUNT_GROSS_CELLS gross.length core array).countCreep core array 0 0 gross.length
    let s := (s.logSegs core array (s.cellSegs core array r gross)).refreshDue core array
    let s := bad.foldl (fun s j => s.markColumn core array (if j < 256 then j else j - 4)) s
    s.raiseBad words (some core))

/-- REFRESH_PULSE: one pulse on the first queued row of a bank that is not connected (R117). -/
def execRefreshPulse (core array : Nat) (still : List Nat) (s : State) : Out :=
  s.clocked (.refreshPulse core array still) <|
  .next (
    if !arrOk core array ∨ s.bankState core array ≠ 2 ∨ (s.array core array).job.isSome ∨ ¬ s.fon .ARRAY_CTRL_REFRESH_EN core then s
    else s.refresh core array still)

/-- RETENTION_AGE_TICK: one second more since REF3 was written (R120). -/
def execRetentionAgeTick (core array : Nat) (s : State) : Out :=
  s.clocked (.retentionAgeTick core array) <|
  .next (if arrOk core array then ((s.fcount .RETENTION_AGE 1 core array).rerate core array).ref3 core array else s)

end Sys2Proof.Machine
end

