-- ==== Sys2Proof/Machine/Update.lean ====
section
/-! DEFINITION. The update engines (R251 to R269): per-step controls, constants of
the groups, the thirteen instructions, final blocks, the hold area, the write map and completion signals. -/

namespace Sys2Proof.Machine

/-! ### Ledger layout (R244, R280, R288) -/

/-- Tensor and block of exchange block `x`, among tensors numbered from `i` (R280). -/
def locateIn : List Tensor → Nat → Nat → Option (Nat × Tensor × Nat)
  | [], _, _ => none
  | t :: r, i, x =>
    if t.isStatic then locateIn r (i + 1) x
    else if x < t.blocks then some (i, t, x) else locateIn r (i + 1) (x - t.blocks)

/-- Tensor and block of an exchange block. -/
def State.locate (s : State) (x : Nat) : Option (Nat × Tensor × Nat) := locateIn s.ledger.tensors 0 x

/-- Blocks of the non-STATIC tensors (R288). -/
def exchangeBlocks (ts : List Tensor) : Nat :=
  ((ts.filter fun t => !t.isStatic).map Tensor.blocks).foldl (· + ·) 0

/-- Bit number of a tensor's block 0 in the write map (R244). -/
def mapBase (ts : List Tensor) (i : Nat) : Nat := ((ts.take i).map Tensor.blocks).foldl (· + ·) 0

/-- A tensor of the table, by its place. -/
def State.tensor (s : State) (i : Nat) : Option Tensor := s.ledger.tensors[i]?

/-! ### Per-step controls (R259, R260, R278) -/

/-- Default GroupControl record (R260). -/
def groupDefault : List Byte := List.flatten [bytesOf 4 0x3F800000, bytesOf 4 0, [0, 1, 0, 0], bytesOf 4 0]

/-- A GroupControl record (R260). -/
structure GroupCtl where
  lrScale : Word
  decay : Word
  r : Int
  program : Nat
  origin : Nat
  deriving DecidableEq, Repr

/-- The number at bytes `a` to `a + n - 1` of a record. -/
def fieldAt (b : List Byte) (a n : Nat) : Nat := natOf ((b.drop a).take n)

/-- Read a GroupControl record. -/
def readGroup (b : List Byte) : GroupCtl :=
  { lrScale := word (fieldAt b 0 4), decay := word (fieldAt b 4 4), r := signed 8 (fieldAt b 8 1)
    program := fieldAt b 9 1, origin := fieldAt b 12 4 }

/-- An instruction word of the update engines (R254). -/
def uenc (op dst a b c kidx ksel sub : Nat) : List Byte :=
  bytesOf 4 (op + dst * 2 ^ 4 + a * 2 ^ 7 + b * 2 ^ 10 + c * 2 ^ 13 + kidx * 2 ^ 16 + ksel * 2 ^ 20 + sub * 2 ^ 22)

/-- The fields of an instruction word beside its OP (R254). -/
def udec (w : Nat) : Nat × UpdF :=
  (bits w 0 4, ⟨bits w 4 3, bits w 7 3, bits w 10 3, bits w 13 3, bits w 16 4, bits w 20 2, bits w 22 3⟩)

/-- An UpdateProgram record (R278) from its parts. -/
def progRecord (b1 b2 : Nat) (ks : List Nat) (code : List (List Byte)) : List Byte :=
  padTo 152 0 (List.flatten [bytesOf 4 code.length, bytesOf 4 b1, bytesOf 4 b2,
    padTo 44 0 (ks.flatMap (bytesOf 4)), code.flatten])

/-- ADAPT (R263). -/
def progAdapt : List Byte :=
  progRecord 0x3F666666 0x3F733333 [0x3F666666, 0x3DCCCCCD, 0x3F733333, 0x3D4CCCCD, 0x322BCC77]
   [uenc 0 0 0 0 0 0 0 0, uenc 5 0 0 0 0 1 1 0, uenc 2 1 0 0 0 0 0 0, uenc 5 1 1 0 0 6 1 0, uenc 6 1 0 0 1 7 1 0,
    uenc 11 0 1 0 0 0 0 0, uenc 2 2 0 0 0 0 0 1, uenc 5 2 2 0 0 8 1 0, uenc 5 3 0 0 0 0 0 0, uenc 6 2 3 0 2 9 1 0,
    uenc 11 0 2 0 0 0 0 1, uenc 7 3 2 0 0 0 0 0, uenc 5 3 3 0 0 4 1 0, uenc 3 3 3 0 0 10 1 0, uenc 7 3 3 0 0 0 0 1,
    uenc 5 3 3 1 0 0 0 0, uenc 5 3 3 0 0 3 1 0, uenc 1 4 0 0 0 0 0 0, uenc 5 5 4 0 0 5 1 0, uenc 4 4 4 5 0 0 0 0,
    uenc 4 4 4 3 0 0 0 0, uenc 10 0 4 0 0 0 0 0, uenc 12 0 4 0 0 0 0 0]

/-- MOMENTUM (R263). -/
def progMomentum : List Byte :=
  progRecord 0 0 [0x3F666666]
   [uenc 0 0 0 0 0 0 0 0, uenc 5 0 0 0 0 1 1 0, uenc 2 1 0 0 0 0 0 0, uenc 6 1 1 0 0 6 1 0, uenc 11 0 1 0 0 0 0 0,
    uenc 5 2 1 0 0 3 1 0, uenc 1 3 0 0 0 0 0 0, uenc 5 4 3 0 0 5 1 0, uenc 4 3 3 4 0 0 0 0, uenc 4 3 3 2 0 0 0 0,
    uenc 10 0 3 0 0 0 0 0, uenc 12 0 3 0 0 0 0 0]

/-- SIGNED (R263). -/
def progSigned : List Byte :=
  progRecord 0 0 [0x3F666666, 0x3DCCCCCD, 0x3F7D70A4, 0x3C23D70A]
   [uenc 0 0 0 0 0 0 0 0, uenc 5 0 0 0 0 1 1 0, uenc 2 1 0 0 0 0 0 0, uenc 5 2 1 0 0 6 1 0, uenc 6 2 0 0 2 7 1 0,
    uenc 7 2 2 0 0 0 0 4, uenc 5 2 2 0 0 0 1 0, uenc 5 3 1 0 0 8 1 0, uenc 6 3 0 0 3 9 1 0, uenc 11 0 3 0 0 0 0 0,
    uenc 1 4 0 0 0 0 0 0, uenc 5 5 4 0 0 5 1 0, uenc 4 4 4 5 0 0 0 0, uenc 4 4 4 2 0 0 0 0, uenc 10 0 4 0 0 0 0 0,
    uenc 12 0 4 0 0 0 0 0]

/-- UpdateProgram `i` at power-up (R263). -/
def programDefault (i : Nat) : List Byte :=
  if i = 1 then progAdapt else if i = 2 then progMomentum else if i = 3 then progSigned else List.replicate 152 0

/-- The record of a DOMAIN entry, or the default given. -/
def State.dom (s : State) (index sub : Nat) (dflt : List Byte) : List Byte := (s.doms.find? (dkey index sub)).getD dflt

/-- The controls now in the dictionary, as a doorbell latches them (R259). -/
def State.currentControls (s : State) : Controls :=
  { stepSize := s.dval 0x3100 1 0, clipThreshold := s.dval 0x3100 3 0x3F800000
    groups := (List.range 64).map fun g => s.dom 0x3101 (g + 1) groupDefault
    programs := (List.range 15).map fun i => s.dom 0x2301 (i + 1) (programDefault (i + 1))
    updateMode := s.dval 0x2302 1 0, clipMode := s.dval 0x2302 2 0 }

/-- The latched record of group `g`. -/
def State.group (s : State) (g : Nat) : GroupCtl := readGroup ((s.job.controls.groups[g]?).getD groupDefault)

/-- The latched program `p`. -/
def State.program (s : State) (p : Nat) : List Byte := (s.job.controls.programs[p - 1]?).getD (programDefault p)

/-- The instruction words of a program record. -/
def progCode (b : List Byte) : List Nat := (List.range (min 24 (fieldAt b 0 1))).map fun i => fieldAt b (56 + 4 * i) 4

/-- 1.0 as a lane. -/
def one32 : Word := 0x3F800000

/-- b^t by squaring, every product rounded (R261): over the `k` low bits of t, the most significant first. -/
def powBits (b : Word) (t : Nat) : Nat → Word → Word
  | 0, p => p
  | k + 1, p =>
    let p := (fMul p p).1
    powBits b t k (if bit t k then (fMul p b).1 else p)

/-- pw of R261. -/
def pw (b : Word) (t : Nat) : Word := powBits b t (Nat.log2 t + 1) one32

/-- 2^k as a lane. -/
def pow2 (k : Int) : Word := toLane (.fin false 1 k)

/-- K0 to K15 of a group in this attempt (R261, R266). -/
def State.constants (s : State) (g : Nat) : List Word :=
  let c := s.group g
  let p := s.program c.program
  let t := max 1 (s.job.stepCounter + 1 - c.origin)
  let b1 := (fRcp (fSub one32 (pw (word (fieldAt p 4 4)) t)).1).1
  let b2 := (fRcp (fSqrt (fSub one32 (pw (word (fieldAt p 8 4)) t)).1).1).1
  let k0 := (fMul (word s.job.controls.stepSize) c.lrScale).1
  let k2 := pow2 (-c.r)
  [k0, if s.job.controls.clipMode = 2 then word s.job.clipFactor else one32, k2, (fMul (fMul k0 b1).1 k2).1,
   (fMul b2 k2).1, (fMul c.decay k0).1] ++ (List.range 10).map fun i => word (fieldAt p (12 + 4 * i) 4)

/-! ### Engines -/

/-- An update engine. -/
def State.eng (s : State) (e : Nat) : Eng := s.upd.engines.get e {}

/-- Change an engine. -/
def State.modEng (s : State) (e : Nat) (f : Eng → Eng) : State :=
  { s with upd := { s.upd with engines := s.upd.engines.put e (f (s.eng e)) } }

/-- An engine that can take a block: active and idle (R275). -/
def State.engIdle (s : State) (e : Nat) : Bool := e < 33 && s.fget .UPD_STATUS_STATE 0 e = 0

/-- A block register of an engine. (DESIGN CHOICE, assumption 3.) -/
def Eng.reg (x : Eng) (i : Nat) : List Word := ((x.v)[i]?).getD (List.replicate 32 0)

/-- Write a block register. -/
def Eng.setReg (x : Eng) (i : Nat) (v : List Word) : Eng := { x with v := setAt (padTo 8 (List.replicate 32 0) x.v) i v }

/-- Operands B and C of an instruction, with the constant that KSEL puts in their place (R254). -/
def Eng.opB (x : Eng) (f : UpdF) : List Word :=
  if f.ksel = 1 then List.replicate 32 ((x.k[f.kidx]?).getD 0) else x.reg f.b
def Eng.opC (x : Eng) (f : UpdF) : List Word :=
  if f.ksel = 2 then List.replicate 32 ((x.k[f.kidx]?).getD 0) else x.reg f.c

/-- A hub unit's read of module memory. -/
def State.hubRead (s : State) (a n : Nat) : List Byte × State := s.readMem a n none

/-- The MomentShift of a group in a page (R244). -/
def State.momentShift (s : State) (base g : Nat) : Int := signed 8 (s.loadNat (base + 64 + g) 1)

/-- The exact value of a dyadic number times 2^k as a lane, rounded once. -/
def dyLane (d : Dy) (k : Int) : Word := (roundLane (.fin (d.m < 0) d.m.natAbs (d.e + k))).1

/-- Reduced element of a block: q × 2^(s − 158) (R284); a block with scale 0xFF reads as zero (R31). -/
def UBlock.elem (b : UBlock) (i : Nat) : Dy :=
  if b.scale = 255 then Dy.zero else ⟨(b.ints[i]?).getD 0, (b.scale : Int) - 158⟩

/-- Clamp to ±t (R255). -/
def clampDy (t d : Dy) : Dy := if t.lt d then t else if d.lt t.neg then t.neg else d

/-- Thirty-two lanes of a two-operand or three-operand function. -/
def lanes32 (f : Word → Word → Word → Word) (a b c : List Word) : List Word :=
  (List.range 32).map fun i => f (a.getD i 0) (b.getD i 0) (c.getD i 0)

/-- SIGN of R255. -/
def fSign (a : Word) : Word :=
  match lane a with
  | .nan _ => qnan
  | v => if v.isZero then 0 else if v.sign then 0xBF800000 else one32

/-- FUNC of the update engines (R255). -/
def ufunc (sub : Nat) (a : Word) : Word :=
  match sub with
  | 0 => (fSqrt a).1
  | 1 => (fRcp a).1
  | 2 => (fRsqrt a).1
  | 3 => fAbs a
  | _ => fSign a

/-- Just-in-time scale of a block (R257). -/
def jitScale (f : Fmt) (xs : List XVal) : Nat :=
  match peakOf xs with
  | none => 127
  | some p =>
    let s : Int := 127 + p - f.top
    let thr : Int := match f with | .int4 => 15 | .int8 => 255 | _ => 511
    let big : Bool := xs.any fun x => match x with
      | .fin _ m e => !(Dy.lt ⟨(m : Int) * 2, e + 127 - s⟩ ⟨thr, 0⟩)
      | _ => false
    (max 0 (min 254 (if big then s + 1 else s))).toNat

/-- A block converted just in time: codes and scale (R257). -/
def jitBlock (f : Fmt) (ws : List Word) : List Nat × Nat :=
  let xs := ws.map lane
  let sc := jitScale f xs
  (xs.map fun x => (toNarrow f sc x).code, sc)

/-- Any lane that is no finite number (R258). -/
def anyNonFinite (ws : List Word) : Bool := ws.any fun w => (lane w).isNan || (lane w).isInf

/-- A write of the uncommitted page by an update engine. -/
def State.pageWrite (s : State) (off : Nat) (bs : List Byte) : State := s.writeMem (s.uncommitted + off) bs none

/-- Two 4-bit codes to a byte, the first in the low half (R39). -/
def packNibbles : List Nat → List Byte
  | a :: b :: r => BitVec.ofNat 8 (a % 16 + b % 16 * 16) :: packNibbles r
  | [a] => [BitVec.ofNat 8 (a % 16)]
  | [] => []

/-- Count in a group's statistics (R277). -/
def State.groupStat (s : State) (g : Nat) (f : GroupStat → GroupStat) : State :=
  { s with upd := { s.upd with stats := s.upd.stats.modify g {} f } }

/-- Write a block's cell image (R246, R257). -/
def State.writeCells (s : State) (base : Nat) (t : Tensor) (b : Nat) (ws : List Word) : State :=
  let (cs, sc) := jitBlock .int4 ws
  (s.writeMem (base + t.cellAt b) (packNibbles cs) none).writeMem (base + t.cellScaleAt b) (bytesOf 1 sc) none

/-- One instruction of an update engine on the block it holds (R255); an engine that holds no block does nothing.
(DESIGN CHOICE, assumption 39.) -/
def State.ustep (s : State) (e op : Nat) (f : UpdF) : State :=
  let x := s.eng e
  match (x.blk).bind fun b => (s.tensor b.tensor).map fun t => (b, t) with
  | none => s
  | some (b, t) =>
    let put (s : State) (v : List Word) : State := s.modEng e (·.setReg f.dst v)
    let a := x.reg f.a
    let ew (g : Word → Word → Word → Word) : State := put s (lanes32 g a (x.opB f) (x.opC f))
    let r := (s.group t.group).r
    match op with
    | 0 =>
      let thr := (lane (word s.job.controls.clipThreshold)).toDy
      let s := if b.scale = 255 then s.raiseEng .scaleNas e else s
      put s ((List.range 32).map fun i =>
        let v := b.elem i
        dyLane (if s.job.controls.clipMode = 1 then clampDy thr v else v) r)
    | 1 =>
      let (m, s) := s.hubRead (s.committed + t.master + 128 * b.block) 128
      put s ((List.range 32).map fun i => word (fieldAt m (4 * i) 4))
    | 2 =>
      let (m, s) := s.hubRead (s.committed + t.momentAt f.sub b.block) 32
      let (c, s) := s.hubRead (s.committed + t.momentScaleAt f.sub b.block) 1
      let sc := natOf c
      let s := if sc = 255 then s.raiseEng .scaleNas e else s
      let k := r - s.momentShift s.committed t.group + ((sc : Int) - 127)
      put s ((List.range 32).map fun i =>
        if sc = 255 then 0 else dyLane (narrowDecode (momentFmt f.sub) (fieldAt m i 1)).toDy k)
    | 3 => ew fun a b _ => (fAdd a b).1
    | 4 => ew fun a b _ => (fSub a b).1
    | 5 => ew fun a b _ => (fMul a b).1
    | 6 => ew fun a b c => (fFma a b c).1
    | 7 => put s (a.map (ufunc f.sub))
    | 8 => ew fun a b _ => (fMax a b).1
    | 9 => ew fun a b _ => (fMin a b).1
    | 10 =>
      let s := if anyNonFinite a then s.raiseEng .updateInvalid e else s
      s.pageWrite (t.master + 128 * b.block) (a.flatMap fun w => bytesOf 4 w.toNat)
    | 11 =>
      let s := if anyNonFinite a then s.raiseEng .updateInvalid e else s
      let (cs, sc) := jitBlock (momentFmt f.sub) a
      let neg := if f.sub = 1 then (a.filter fun w => !(lane w).isNan && (lane w).sign && !(lane w).isZero).length else 0
      let zeros := b2n (cs.all (· = 0) && a.any fun w => !(lane w).isZero)
      let s := s.groupStat t.group fun q => { q with
        negMoments := satAdd 0xFFFFFFFF q.negMoments neg, zeroMoments := satAdd 0xFFFFFFFF q.zeroMoments zeros }
      let s := s.modEng e fun x => { x with stored := f.sub :: x.stored }
      (s.pageWrite (t.momentAt f.sub b.block) (cs.flatMap (bytesOf 1))).pageWrite
        (t.momentScaleAt f.sub b.block) (bytesOf 1 sc)
    | 12 => s.writeCells s.uncommitted t b.block a
    | _ => s

def execLdg (eng : Nat) (f : UpdF) (s : State) : Out :=
  s.clocked (.ldg eng f) <|
  .next (s.ustep eng 0 f)
def execLdw (eng : Nat) (f : UpdF) (s : State) : Out :=
  s.clocked (.ldw eng f) <|
  .next (s.ustep eng 1 f)
def execLdm (eng : Nat) (f : UpdF) (s : State) : Out :=
  s.clocked (.ldm eng f) <|
  .next (s.ustep eng 2 f)
def execUpdAdd (eng : Nat) (f : UpdF) (s : State) : Out :=
  s.clocked (.updAdd eng f) <|
  .next (s.ustep eng 3 f)
def execUpdSub (eng : Nat) (f : UpdF) (s : State) : Out :=
  s.clocked (.updSub eng f) <|
  .next (s.ustep eng 4 f)
def execUpdMul (eng : Nat) (f : UpdF) (s : State) : Out :=
  s.clocked (.updMul eng f) <|
  .next (s.ustep eng 5 f)
def execUpdFma (eng : Nat) (f : UpdF) (s : State) : Out :=
  s.clocked (.updFma eng f) <|
  .next (s.ustep eng 6 f)
def execUpdFunc (eng : Nat) (f : UpdF) (s : State) : Out :=
  s.clocked (.updFunc eng f) <|
  .next (s.ustep eng 7 f)
def execUpdMax (eng : Nat) (f : UpdF) (s : State) : Out :=
  s.clocked (.updMax eng f) <|
  .next (s.ustep eng 8 f)
def execUpdMin (eng : Nat) (f : UpdF) (s : State) : Out :=
  s.clocked (.updMin eng f) <|
  .next (s.ustep eng 9 f)
def execStw (eng : Nat) (f : UpdF) (s : State) : Out :=
  s.clocked (.stw eng f) <|
  .next (s.ustep eng 10 f)
def execStm (eng : Nat) (f : UpdF) (s : State) : Out :=
  s.clocked (.stm eng f) <|
  .next (s.ustep eng 11 f)
def execSti (eng : Nat) (f : UpdF) (s : State) : Out :=
  s.clocked (.sti eng f) <|
  .next (s.ustep eng 12 f)

/-! ### Write map and completion signals (R244, R269, R270) -/

/-- Bit number of a block in the write map. -/
def State.mapBit (s : State) (tensor block : Nat) : Nat := mapBase s.ledger.tensors tensor + block

/-- The block has been written in this attempt. -/
def State.blockWritten (s : State) (tensor block : Nat) : Bool :=
  let i := s.mapBit tensor block
  s.upd.mapClear && bit (s.mem.read (s.uncommitted + s.ledger.wmapOff + i / 8)).toNat (i % 8)

/-- Clear the uncommitted page's write map, once in an attempt (R271): at the start of a replay, otherwise at the first
block written, since the page is not written before phase 4 (R27, R249). -/
def State.clearMap (s : State) : State :=
  if s.upd.mapClear then s else
  let n := ceilDiv (mapBase s.ledger.tensors s.ledger.tensors.length) 8
  let s := s.pageWrite s.ledger.wmapOff (List.replicate n 0)
  { s with upd := { s.upd with mapClear := true } }

/-- Completion entries that the last written block has completed (R269), each signalled once. -/
def State.signalDone (s : State) : State :=
  s.upd.completions.zipIdx.foldl (fun s x =>
    let ((id, core, token, first, count), i) := x
    let ti := s.ledger.tensors.findIdx fun t => t.id = id
    if i ∉ s.upd.signalled ∧ (List.range count).all (fun k => s.blockWritten ti (first + k)) then
      { s with upd := { s.upd with signalled := i :: s.upd.signalled } }.signalCore core token 1
    else s) s

/-- A block of the uncommitted page is written: map bit, LEDGER_DUPLICATE, BLOCKS, completion signals. -/
def State.blockDone (s : State) (e : Nat) (b : UBlock) : State :=
  let s := if s.blockWritten b.tensor b.block then s.raiseIn .ledgerDuplicate none else s
  let i := s.mapBit b.tensor b.block
  let a := s.ledger.wmapOff + i / 8
  let s := s.pageWrite a (bytesOf 1 (setBits (s.mem.read (s.uncommitted + a)).toNat (i % 8) 1 1))
  let s := { s with upd := { s.upd with written := s.upd.written + 1 } }
  let n := (s.eng e).blocks + 1
  let s := s.modEng e fun x => { x with blocks := n % 1024 }
  (if n = 1024 then s.fcount .UPD_COUNT_BLOCKS 1 0 e else s).signalDone

/-- The peak byte of a final block enters the uncommitted page's exchange history (R288). -/
def State.writePeak (s : State) (b : UBlock) : State :=
  s.pageWrite (s.ledger.exHistOff + 64 + b.xblock) (bytesOf 1 b.peak)

/-- What a final block adds to the statistics of its group (R277) and to the dormant watch (R60). -/
def State.noteFinal (s : State) (b : UBlock) (t : Tensor) : State :=
  let big := ((b.ints.map Int.natAbs).foldl max 0)
  let layer := Config.layerOfTensor t.id
  let s := { s with upd := { s.upd with
    seenLayers := if layer ∈ s.upd.seenLayers ∨ (s.group t.group).program = 0 then s.upd.seenLayers
      else layer :: s.upd.seenLayers } }
  if big = 0 ∨ b.scale = 255 then s else
  let e : Int := (Nat.log2 big : Int) + b.scale - 158
  let s := s.groupStat t.group fun q => { q with
    maxExp := some (match q.maxExp with | none => e | some m => max m e) }
  { s with upd := { s.upd with
      nonZeroLayers := if layer ∈ s.upd.nonZeroLayers then s.upd.nonZeroLayers else layer :: s.upd.nonZeroLayers } }

/-! ### Blocks for the engines (R251, R252, R266 to R268) -/

/-- Record `x` of the hold area as a block (R252): 32 INT32 and the scale byte. -/
def State.heldBlock (s : State) (x : Nat) : Option (UBlock × State) :=
  (s.locate x).map fun (i, _, b) =>
    let (m, s') := s.hubRead (s.dval 0x2300 7 0 + 129 * x) 129
    ({ tensor := i, block := b, xblock := x, ints := (List.range 32).map fun k => signed 32 (fieldAt m (4 * k) 4)
       scale := fieldAt m 128 1, peak := 0, skew := false }, s')

/-- The update mode is HELD. -/
def State.isHeld (s : State) : Bool := s.job.controls.updateMode = 1

/-- The block that the next idle engine runs or copies: in STREAM mode the first final block, in HELD mode the hold
area's next in ledger order, once the clip factor is known (R266). -/
def State.nextBlock (s : State) : Option (UBlock × State) :=
  if s.isHeld then
    if !s.job.clipKnown then none else
    match ((List.range (s.exch.blocks - s.upd.heldNext)).map (· + s.upd.heldNext)).find? (· ∉ s.upd.heldSkew) with
    | some x => (s.heldBlock x).map fun (b, t) => (b, { t with upd := { t.upd with heldNext := x + 1 } })
    | none => none
  else match s.upd.final with
    | b :: r => some (b, { s with upd := { s.upd with final := r } })
    | [] => none

/-- Engine `e` takes the next block: a bucket of another step is not run (R268). (DEDUCED, assumption 40.) -/
def State.takeBlock (s : State) (e : Nat) (run : UBlock → Tensor → State → Option State) : State :=
  if !s.running || !s.engIdle e then s else
  match s.nextBlock with
  | none => s
  | some (b, s') =>
    match s.tensor b.tensor with
    | none => s
    | some t =>
      if b.skew then s'.raiseEng .stepSkew e
      else (run b t s').getD s

/-- Run the instructions of a program on the block that engine `e` holds. -/
def State.runProgram (s : State) (e : Nat) (code : List Nat) : State :=
  code.foldl (fun s w => s.ustep e (udec w).1 (udec w).2) s

/-- A moment that the program does not store becomes 32 zero codes with scale 127 (R256). -/
def State.zeroMoments (s : State) (e : Nat) (t : Tensor) (b : Nat) : State :=
  [0, 1].foldl (fun s m => if m ∈ (s.eng e).stored then s
    else (s.pageWrite (t.momentAt m b) (List.replicate 32 0)).pageWrite (t.momentScaleAt m b) (bytesOf 1 127)) s

/-- UPDATE_PROGRAM_RUN (R251, R255 to R258, R288): the engine runs its group's program on one final block.
`residue`, `xfer`: what the engine's and its paths' checkers find (R257, R353). -/
def execUpdateProgramRun (eng : Nat) (residue xfer : Bool) (s : State) : Out :=
  s.clocked (.updateProgramRun eng residue xfer) <|
  .next <| s.takeBlock eng fun b t s =>
    let g := s.group t.group
    if g.program = 0 then none else
    let s := if s.isHeld then s else (s.noteFinal b t)
    let s := s.clearMap
    let s := s.modEng eng fun x => { v := [], k := s.constants t.group, blk := some b, stored := [], blocks := x.blocks }
    let s := s.runProgram eng (progCode (s.program g.program))
    let s := s.zeroMoments eng t b.block
    let s := (if residue then s.raiseEng .residueUpdate eng else s).pathCheck xfer
    let s := if s.isHeld then s else s.writePeak b
    some (s.blockDone eng b)

/-- Copy `n` bytes of the committed page to the uncommitted page. -/
def State.pageCopy (s : State) (off n : Nat) : State :=
  let (m, s) := s.hubRead (s.committed + off) n
  s.pageWrite off m

/-- A block of a page: master, moments, moment scales, cell image and its scale (R246). -/
def Tensor.areasOf (t : Tensor) (b : Nat) : List (Nat × Nat) :=
  [(t.master + 128 * b, 128), (t.momentAt 0 b, 32), (t.momentAt 1 b, 32), (t.mscale + 2 * b, 2), (t.cellAt b, 16),
   (t.cellScaleAt b, 1)]

/-- NONE_GROUP_COPY (R267): a block of a NONE group is copied bit for bit, its gradient discarded. (DEDUCED, assumption 40.) -/
def execNoneGroupCopy (eng : Nat) (xfer : Bool) (s : State) : Out :=
  s.clocked (.noneGroupCopy eng xfer) <|
  .next <| s.takeBlock eng fun b t s =>
    if (s.group t.group).program ≠ 0 then none else
    let s := if s.isHeld then s else (s.noteFinal b t)
    let s := s.clearMap
    let s := ((t.areasOf b.block).foldl (fun s a => s.pageCopy a.1 a.2) s).pathCheck xfer
    let s := if s.isHeld then s else s.writePeak b
    some (s.blockDone eng b)

/-! ### HELD mode (R252, R265, R266) -/

/-- The clip factor from the total S, in units of 2^-600 (R266). -/
def State.takeNorm (s : State) (total : Nat) : State :=
  if s.job.controls.clipMode ≠ 2 then { s with job := { s.job with clipKnown := true } } else
  let sq := (roundLane (.fin false total (-600))).1
  let gn := (fSqrt sq).1
  if (lane sq).isInf then
    let s := (s.fset .COMMIT_STATUS_CLIP_INF 1).countCode .clipInf
    { s with job := { s.job with clipKnown := true, gradNorm := gn.toNat, clipFactor := 0 } }
  else
    let c := if (lane gn).isZero then one32 else
      let q := (fDiv (word s.job.controls.clipThreshold) gn).1
      if (lane q).cmpLt (lane one32) then q else one32
    { s with job := { s.job with clipKnown := true, gradNorm := gn.toNat, clipFactor := c.toNat } }

/-- Children of the vote tree (R331). -/
def State.voteChildren (s : State) : List Nat :=
  let b := s.dom 0x6006 2 []
  (List.range (b.length / 2)).map fun i => fieldAt b (2 * i) 2

/-- Parent in the vote tree; none at the root. -/
def State.voteParent (s : State) : Option Nat := let p := s.dval 0x6006 1 0xFFFF; if p = 0xFFFF then none else some p

/-- Queue a message for another module. -/
def State.post (s : State) (dest : Nat) (m : OutMsg) : State := { s with netOut := s.netOut ++ [(dest, m)] }

/-- Pass a message to every child of the vote tree. -/
def State.toChildren (s : State) (kind : Nat) (v : VoteMsg) : State :=
  s.voteChildren.foldl (fun s c => s.post c (.vote kind v)) s

/-- The UP votes of a kind that the children have sent for this attempt (R332). -/
def State.childVotes (s : State) (kind : Nat) : List VoteMsg :=
  s.voteChildren.filterMap fun c => (s.job.ups.find? fun u =>
    u.1 = kind && u.2.1 = c && u.2.2.step = s.job.stepCounter + 1 && u.2.2.attempt = s.job.attempt).map fun u => u.2.2

/-- Every child's UP vote is in. -/
def State.childrenIn (s : State) (kind : Nat) : Bool := (s.childVotes kind).length = s.voteChildren.length

/-- A program as the control digest covers it: an empty one as 152 zero bytes (R385). -/
def digestProgram (p : List Byte) : List Byte := if fieldAt p 0 1 = 0 then List.replicate 152 0 else padTo 152 0 p

/-- The control digest (R270, R385): the check value over the latched controls. -/
def State.controlDigest (s : State) : Nat :=
  let c := s.job.controls
  crc c32 (List.flatten [bytesOf 4 c.stepSize, bytesOf 4 c.clipThreshold, c.groups.flatMap (padTo 16 0),
    c.programs.flatMap digestProgram, bytesOf 1 c.updateMode, bytesOf 1 c.clipMode])

/-- A module's vote folded with those of its children (R332). -/
def foldVote (own : VoteMsg) (ups : List VoteMsg) : VoteMsg :=
  { own with
    pass := own.pass && ups.all VoteMsg.pass
    digestDiffer := own.digestDiffer || ups.any fun u => u.digestDiffer || u.digest ≠ own.digest
    voters := own.voters + (ups.map VoteMsg.voters).foldl (· + ·) 0
    sum := (own.sum + (ups.map VoteMsg.sum).foldl (· + ·) 0) % 2 ^ 1024 }

/-- The root's check of Voters (R332): a wrong count clears PASS and raises VOTE_TREE. -/
def State.rootCheck (s : State) (v : VoteMsg) : VoteMsg × State :=
  if v.voters = s.dval 0x6006 3 1 then (v, s) else ({ v with pass := false }, s.raiseIn .voteTree none)

/-- Every final block is held, and every bucket final: the norm vote goes up once every child's is in (R265, R332). -/
def State.normVote (s : State) : State :=
  if !s.isHeld || s.upd.normSent || !s.running || !s.exch.started || s.job.normLost || s.upd.held < s.exch.blocks
      || !s.childrenIn 2 then s else
  let v := foldVote { pass := true, digestDiffer := false, voters := 1, digest := s.controlDigest
                      step := s.job.stepCounter + 1, attempt := s.job.attempt, sum := s.upd.normSum } (s.childVotes 2)
  let s := { s with upd := { s.upd with normSent := true } }
  match s.voteParent with
  | some p => s.post p (.vote 2 v)
  | none =>
    let (v, s) := s.rootCheck v
    (s.toChildren 3 v).takeNorm v.sum

/-- HOLD_AREA_WRITE (R252, R265): a final block is written to the hold area and counted into the sum of squares. -/
def execHoldAreaWrite (eng : Nat) (xfer : Bool) (s : State) : Out :=
  s.clocked (.holdAreaWrite eng xfer) <|
  .next <|
    if !s.isHeld || !s.running || !s.engIdle eng then s else
    match s.upd.final with
    | [] => s
    | b :: r =>
      match s.tensor b.tensor with
      | none => s
      | some t =>
        let s := { s with upd := { s.upd with final := r } }.pathCheck xfer
        if b.skew then
          ({ s with upd := { s.upd with held := s.upd.held + 1, heldSkew := b.xblock :: s.upd.heldSkew } }.raiseEng
            .stepSkew eng).normVote else
        let s := (s.noteFinal b t).writePeak b
        let s := s.writeMem (s.dval 0x2300 7 0 + 129 * b.xblock)
          ((b.ints.flatMap fun q => bytesOf 4 (wrap 32 q)) ++ bytesOf 1 b.scale) none
        let sq := if b.block % t.replicas = t.rank ∧ b.scale ≠ 255 then
            ((b.ints.map fun q => q.natAbs * q.natAbs).foldl (· + ·) 0) * 2 ^ (2 * b.scale + 284) else 0
        { s with upd := { s.upd with held := s.upd.held + 1, normSum := s.upd.normSum + sq } }.normVote

end Sys2Proof.Machine
end

