-- ==== Sys2Proof/Machine/Exchange.lean ====
section
/-! DEFINITION. The exact gradient exchange (R279 to R308): conversion of contributions, crossings, second and shadow
crossings, peak crossings of a cold attempt, and the exchange's timeout. -/

namespace Sys2Proof.Machine

/-! ### Contributions (R282, R285, R286) -/

/-- An element of a contribution: raw integer, weight of bit 0, tag. -/
structure CElem where
  raw : Int
  w : Int
  tag : Bool
  deriving DecidableEq, Repr

/-- Rows and halves of a contribution that feed exchange block `x`. -/
def Contrib.feeds (k : Contrib) (x : Nat) : List (Nat × Nat) :=
  (List.range k.rows).flatMap fun i =>
    ((List.range (k.cols / 32)).filter fun h => k.first + k.stride * i + h = x).map fun h => (i, h)

/-- The 32 elements that a row half of a contribution holds, and the state after its reads. -/
def State.contribElems (s : State) (k : Contrib) (i h : Nat) : List CElem × State :=
  let n := if k.mwrec then 8 * k.words else 16
  let (m, s) := s.hubRead (k.record + n * (64 * i + 32 * h)) (32 * n)
  let (d, s) := s.hubRead k.desc 16
  let tags := bit (fieldAt d 3 1) 0
  let w : Int := signed 16 (fieldAt d 0 2) - 342 - (if k.mwrec then 64 * (k.words : Int) - 160 else 0)
  let cap : Int := 2 ^ (8 * n - 1) - 1
  ((List.range 32).map fun j =>
    let v := signed (8 * n) (fieldAt m (n * j) n)
    ⟨v, w, tags && (v = cap || v = -cap)⟩, s)

/-- The elements of an exchange block; none where no contribution, or more than one, covers it (R285). -/
def State.blockElems (s : State) (x : Nat) : Option (List CElem × State) :=
  match s.exch.contribs.flatMap fun k => (k.feeds x).map fun ih => (k, ih) with
  | [(k, i, h)] => some (s.contribElems k i h)
  | _ => none

/-- Peak byte of a block (R286). -/
def peakByte (es : List CElem) : Nat :=
  match peakOf (es.map fun e => if e.tag then .fin false 0 0 else .fin (e.raw < 0) e.raw.natAbs e.w) with
  | none => 255
  | some p => (max 0 (min 254 (p + 127))).toNat

/-- Peak bytes combine by maximum, 0xFF below every other (R286). -/
def peakMax (a b : Nat) : Nat := if a = 255 then b else if b = 255 then a else max a b

/-- One element as an exchange integer (R285): the integer, RECROSS, whether it counts as zeroed or as tagged. -/
def convertElem (c scale : Nat) (e : CElem) : Int × Bool × Nat × Nat :=
  let bound : Int := 2 ^ (31 - c) - 1
  if e.tag then (if e.raw < 0 then -bound else bound, false, 0, 1) else
  if e.raw = 0 then (0, false, 0, 0) else
  let q := (rneInt e.raw.natAbs (e.w - ((scale : Int) - 158)) (e.raw < 0)).1
  let r : Int := if bound < q then bound else if q < -bound then -bound else q
  (r, r != q, b2n (q = 0), 0)

/-- Scale of a first crossing from a peak byte (R287). -/
def firstScale (c h : Nat) : Nat := if h = 255 then 0 else min 254 (h + c + 2)

/-- Scale of a second crossing (R299). -/
def secondScale (c s1 p : Nat) : Nat := max (s1 + 1) (min 254 (p + c + 2))

/-! ### Buckets, groups and rings (R291 to R293, R330) -/

/-- A bucket's progress. -/
def State.buck (s : State) (gb : Nat) : XBuck := s.exch.bucks.get gb {}

/-- Change a bucket's progress. -/
def State.modBuck (s : State) (gb : Nat) (f : XBuck → XBuck) : State :=
  { s with exch := { s.exch with bucks := s.exch.bucks.put gb (f (s.buck gb)) } }

/-- A bucket record. -/
def State.bucketRec (s : State) (gb : Nat) : BucketRec := (s.exch.buckets[gb]?).getD ⟨0, 0, 0, 0, 0⟩

/-- A group record. -/
def State.rgroup (s : State) (g : Nat) : RGroup := (s.exch.groups[g]?).getD ⟨1, 0, 0⟩

/-- c of a group: ceil(log2 N) (R284). -/
def RGroup.c (g : RGroup) : Nat := ceilLog2 g.members

/-- The ring of a bucket (R292, R293); a group of one member has this module alone. -/
def State.ringOf (s : State) (gb : Nat) : Ring :=
  let b := s.bucketRec gb
  let g := s.rgroup b.group
  if g.members = 1 then ⟨[s.address], 0⟩ else ((s.rings.rings)[g.firstRing + b.no % max 1 g.ringCount]?).getD ⟨[s.address], 0⟩

/-- Place i of bucket u is sampled in this step (R301). -/
def sampled (rate step u i : Nat) : Bool := rate ≠ 0 && (i + u + step) % 2 ^ rate = 0

/-- The places that a crossing carries: pass 0 peak, 1 first, 2 second; its shadow carries the sampled ones (R299, R301). -/
def State.places (s : State) (gb pass : Nat) (shadow : Bool) : List Nat :=
  let b := s.bucketRec gb
  let all := if pass = 2 then (s.buck gb).second else List.range b.count
  if shadow then all.filter (sampled s.exch.rate (s.job.stepCounter + 1) b.no) else all

/-- The module's body of a crossing for some places, in order. -/
def State.ownBody (s : State) (gb pass : Nat) (shadow : Bool) : List XBlk :=
  let k := s.buck gb
  let own := k.own.get pass []
  let all := s.places gb pass false
  if shadow then (all.zip own).filterMap fun x => if x.1 ∈ s.places gb pass true then some x.2 else none else own

/-- Two bodies combined (R296): exact addition, maximum, OR. -/
def addBody (a b : List XBlk) : List XBlk :=
  (a.zip b).map fun x => ⟨(x.1.ints.zip x.2.ints).map fun y => y.1 + y.2, peakMax x.1.peak x.2.peak,
    x.1.recross || x.2.recross⟩

/-- Send a bucket message to the next member, or the previous one for a shadow (R295, R296, R301). -/
def State.sendBucket (s : State) (gb pass : Nat) (shadow skew fin : Bool) (hops step : Nat) (body : List XBlk) : State :=
  let b := s.bucketRec gb
  let r := s.ringOf gb
  let n := r.members.length
  let dest := (r.members[if shadow then (r.pos + n - 1) % n else (r.pos + 1) % n]?).getD 0
  s.post dest (.bucket
    { kind := (if pass = 0 then 2 else 0) + b2n fin, second := pass = 2, shadow := shadow, skewSeen := skew
      group := b.group, ring := b.no % max 1 (s.rgroup b.group).ringCount, bucket := b.no, step := step
      attempt := s.job.attempt, blockCount := body.length, hops := hops, originPos := b.origin
      ints := if pass = 0 then [] else body.map XBlk.ints, peaks := body.map XBlk.peak
      recross := if pass = 0 then [] else body.map XBlk.recross })

/-! ### Conversion -/

/-- A fault of class T in the exchange unit (R285, R351, R359): the unit halts and the attempt stops early. -/
def State.haltExchange (s : State) (c : Code) : State :=
  let s := s.raiseIn c none
  { s.fset .RECOVERY_STATUS_EARLY_STOP 1 with
    exch := { s.exch with stopped := true }, job := { s.job with stopped := true } }

/-- Count zeroed and tagged elements (R306, R308). (DEDUCED, assumption 42.) -/
def State.countLoss (s : State) (zeroed tagged : Nat) : State :=
  let x := s.exch
  let z := x.zeroedRem + zeroed
  let s := (s.fcount .EXCH_LOSS_ZEROED_ELEMS (z / 1024)).fcount .EXCH_LOSS_TAGGED_ELEMS tagged
  { s with exch := { s.exch with zeroed := satAdd 0xFFFFFFFF x.zeroed zeroed, zeroedRem := z % 1024,
                                 tagged := satAdd 0xFFFFFFFF x.tagged tagged } }

/-- History peak byte of an exchange block in the committed page (R288). -/
def State.historyPeak (s : State) (x : Nat) : Nat × State :=
  let (b, s) := s.hubRead (s.committed + s.ledger.exHistOff + 64 + x) 1
  (fieldAt b 0 1, s)

/-- The scale of place `i` of a bucket in a pass (R287, R290, R299); `cold` takes the agreed peaks. A read of the history raises
what its uncorrectable words raise (R353). -/
def State.placeScale (s : State) (gb pass i : Nat) : Nat × State :=
  let b := s.bucketRec gb
  let k := s.buck gb
  let c := (s.rgroup b.group).c
  if pass = 0 then (0, s)
  else if pass = 1 then
    if s.fon .EXCH_STATUS_COLD then (firstScale c ((((k.done.get 0 ([], false)).1)[i]?.map XBlk.peak).getD 255), s)
    else let (h, s) := s.historyPeak (b.first + i); (firstScale c h, s)
  else (secondScale c ((k.s1[i]?).getD 0) ((((k.done.get 2 ([], false)).1)[i]?.map XBlk.peak).getD 255), s)

/-- Convert the module's contribution to a bucket for a pass: none where coverage fails. -/
def State.convertPlaces (s : State) (gb pass : Nat) : List Nat → Option (List (XBlk × Nat) × State)
  | [] => some ([], s)
  | i :: r =>
    match s.blockElems ((s.bucketRec gb).first + i) with
    | none => none
    | some (es, s') =>
      let (sc, s') := s'.placeScale gb pass i
      let qs := es.map (convertElem (s'.rgroup (s'.bucketRec gb).group).c sc)
      let blk : XBlk := if pass = 0 then { peak := peakByte es }
        else ⟨qs.map (·.1), peakByte es, qs.any fun q => q.2.1⟩
      let s' := if pass = 0 then s' else
        s'.countLoss ((qs.map fun q => q.2.2.1).foldl (· + ·) 0) ((qs.map fun q => q.2.2.2).foldl (· + ·) 0)
      match s'.convertPlaces gb pass r with
      | none => none
      | some (bs, s'') => some ((blk, sc) :: bs, s'')

/-! ### Crossings (R296 to R302) -/

/-- A block becomes final and waits for an update engine (R298). -/
def State.finalBlock (s : State) (gb i : Nat) (b : XBlk) (scale : Nat) (skew : Bool) : State :=
  let x := (s.bucketRec gb).first + i
  let s := { s with exch := { s.exch with nfinal := s.exch.nfinal + 1 } }
  match s.locate x with
  | none => s
  | some (t, _, k) =>
    { s with upd := { s.upd with final := s.upd.final ++
        [{ tensor := t, block := k, xblock := x, ints := b.ints, scale := scale, peak := b.peak, skew := skew }] } }

/-- Comparison of a crossing with its shadow once both are complete (R302). -/
def State.compareShadow (s : State) (gb pass : Nat) : State :=
  let k := s.buck gb
  match k.done.find? (2 * pass), k.done.find? (2 * pass + 1) with
  | some (m, _), some (h, _) =>
    let smp := s.places gb pass true
    let mine := ((s.places gb pass false).zip m).filterMap fun x => if x.1 ∈ smp then some x.2 else none
    let s := if mine = h then s else s.raiseIn .reduceMismatch none
    let s := s.fcount .EXCH_COUNT_SHADOW_BLOCKS h.length
    { s with exch := { s.exch with shadows := satAdd 0xFFFFFFFF s.exch.shadows h.length } }
  | _, _ => s

/-- A pass of a bucket has every comparison it needs. -/
def State.compared (s : State) (gb pass : Nat) : Bool :=
  (s.places gb pass true).isEmpty || ((s.buck gb).done.find? (2 * pass + 1)).isSome

/-- Every block of the attempt is final and every comparison done (R303, R306): phase DONE. -/
def State.exchangeProgress (s : State) : State :=
  let all := List.range s.exch.buckets.length
  let cold := s.fon .EXCH_STATUS_COLD
  let s := if s.fget .EXCH_STATUS_PHASE = 2 ∧ all.all (fun g => ((s.buck g).done.find? 0).isSome)
    then s.fset .EXCH_STATUS_PHASE 3 else s
  if s.exch.blocks ≤ s.exch.nfinal ∧ all.all (fun g =>
      (!cold || s.compared g 0) && s.compared g 1 && ((s.buck g).second.isEmpty || s.compared g 2))
  then s.fset .EXCH_STATUS_PHASE 4 else s

/-- What happens to a bucket: its own contribution is converted, a message is taken, a crossing completes. -/
inductive XEv where
  | convert (pass : Nat)
  | msg (pass : Nat) (fin : Bool) (m : BucketMsg)
  | complete (pass : Nat) (shadow skew : Bool) (body : List XBlk)
  deriving DecidableEq, Repr

/-- The body of a message. -/
def msgBody (pass : Nat) (m : BucketMsg) : List XBlk :=
  m.peaks.zipIdx.map fun x =>
    ⟨if pass = 0 then [] else (m.ints[x.2]?).getD [], x.1, pass ≠ 0 && (m.recross[x.2]?).getD false⟩

/-- The pass of a message (R295). -/
def passOf (peak : Bool) (m : BucketMsg) : Nat := if peak then 0 else if m.second then 2 else 1

/-- One event of bucket `gb` with what follows from it. Each nested event belongs to a later pass or a later stage of
one, so twelve levels suffice. (DEDUCED, assumption 41.) -/
def exchEvent (gb : Nat) : Nat → XEv → State → State
  | 0, _, s => s
  | fuel + 1, ev, s =>
    if s.exch.stopped then s else
    let b := s.bucketRec gb
    let r := s.ringOf gb
    let n := r.members.length
    match ev with
    | .convert pass =>
      match s.convertPlaces gb pass (s.places gb pass false) with
      | none => s.haltExchange .reduceCoverage
      | some (bs, s) =>
        let s := s.modBuck gb fun k => { k with
          own := k.own.put pass (bs.map (·.1))
          s1 := if pass = 1 then bs.map (·.2) else k.s1
          s2 := if pass = 2 then bs.map (·.2) else k.s2 }
        let s := if r.pos ≠ b.origin then s else
          [false, true].foldl (fun s sh =>
            let body := s.ownBody gb pass sh
            if body.isEmpty then s
            else if n ≤ 1 then exchEvent gb fuel (.complete pass sh false body) s
            else s.sendBucket gb pass sh false false 1 (s.job.stepCounter + 1) body) s
        let mine := (s.buck gb).waiting.filter fun m => passOf (2 ≤ m.kind) m = pass
        let s := s.modBuck gb fun k => { k with waiting := k.waiting.filter fun m => passOf (2 ≤ m.kind) m ≠ pass }
        mine.foldl (fun s m => exchEvent gb fuel (.msg pass (m.kind % 2 = 1) m) s) s
    | .msg pass fin m =>
      let shape : Bool := m.originPos ≠ b.origin || m.blockCount ≠ (s.places gb pass m.shadow).length
      if pass = 2 ∧ ((s.buck gb).done.find? 2).isSome ∧ (s.buck gb).second.isEmpty then s.raiseIn .bucketShape none
      else if ((s.buck gb).own.find? pass).isNone then
        s.modBuck gb fun k => { k with waiting := k.waiting ++ [m] }
      else if shape then s.raiseIn .bucketShape none
      else
        let skew : Bool := m.skewSeen || decide (m.step ≠ s.job.stepCounter + 1)
        let body := msgBody pass m
        if fin then
          let last := if m.shadow then (b.origin + 2) % n else (b.origin + 2 * n - 2) % n
          let s := if r.pos = last then s else s.sendBucket gb pass m.shadow skew true m.hops m.step body
          exchEvent gb fuel (.complete pass m.shadow skew body) s
        else
          let body := addBody body (s.ownBody gb pass m.shadow)
          let s := s.sendBucket gb pass m.shadow skew (n ≤ m.hops + 1) (m.hops + 1) m.step body
          if n ≤ m.hops + 1 then exchEvent gb fuel (.complete pass m.shadow skew body) s else s
    | .complete pass shadow skew body =>
      if ((s.buck gb).done.find? (2 * pass + b2n shadow)).isSome then s else
      let s := s.modBuck gb fun k => { k with done := k.done.put (2 * pass + b2n shadow) (body, skew) }
      let s := if shadow then s else match pass with
        | 0 => exchEvent gb fuel (.convert 1) s
        | 1 =>
          let k := s.buck gb
          let rows := body.zipIdx.map fun x => (x.2, x.1, (k.s1[x.2]?).getD 0)
          let again := rows.filter fun x => x.2.1.recross && x.2.2 < 254
          let s := rows.foldl (fun s x =>
            if x.2.1.recross && x.2.2 < 254 then s else
            let s := if x.2.1.recross then s.raiseIn .exchangeRange none else s
            s.finalBlock gb x.1 x.2.1 x.2.2 skew) s
          if again.isEmpty then
            let late := k.waiting.filter fun m => passOf (2 ≤ m.kind) m = 2
            let s := s.modBuck gb fun k => { k with waiting := k.waiting.filter fun m => passOf (2 ≤ m.kind) m ≠ 2 }
            (if late.isEmpty then s else s.raiseIn .bucketShape none).fcount .EXCH_PROGRESS_BUCKETS_FINAL 1
          else
          let s := s.modBuck gb fun k => { k with second := again.map (·.1) }
          let s := s.fcount .EXCH_COUNT_RECROSS_BLOCKS again.length
          let s := { s with exch := { s.exch with
            recross := satAdd 0xFFFFFFFF s.exch.recross again.length, seconds := satAdd 0xFFFFFFFF s.exch.seconds 1 } }
          exchEvent gb fuel (.convert 2) s
        | _ =>
          let k := s.buck gb
          let rows := (k.second.zip body).zipIdx.map fun x => (x.1.1, x.1.2, (k.s2[x.2]?).getD 0)
          let s := rows.foldl (fun s x =>
            let s := if x.2.1.recross then s.raiseIn .exchangeRange none else s
            s.finalBlock gb x.1 x.2.1 x.2.2 skew) s
          s.fcount .EXCH_PROGRESS_BUCKETS_FINAL 1
      (s.compareShadow gb pass).exchangeProgress

/-- EXCHANGE_START (R283, R290): every ready word has arrived; each bucket's contribution is converted, in a cold attempt
for its peaks alone. `xfer`: a path checker failed in the unit's transfers (R353). -/
def execExchangeStart (xfer : Bool) (s : State) : Out :=
  s.clocked (.exchangeStart xfer) <|
  .next <|
    let x := s.exch
    if !x.loaded || x.started || x.stopped || !s.running || x.ready.length < x.readyCount then s else
    let cold := s.fon .EXCH_STATUS_COLD
    let s := { s.fset .EXCH_STATUS_PHASE (if cold then 2 else 3) with exch := { x with started := true } }
    let s := s.pathCheck xfer
    (List.range x.buckets.length).foldl (fun s g => exchEvent g 12 (.convert (if cold then 0 else 1)) s) s

/-- Order of attempts (R319): by step number, then by attempt number. -/
def laterKey (a b : Nat × Nat) : Bool := b.1 < a.1 || (a.1 = b.1 && b.2 < a.2)

/-- The current attempt of R319. -/
def State.curKey (s : State) : Nat × Nat := (s.job.curStep, s.job.curAttempt)

/-- A message of a class bound to an attempt is discarded (R203, R319). -/
def State.stale (s : State) : State := s.fcount .FABRIC_COUNT1_STALE_MSGS 1

/-- The bucket a message names, by group and number (R293). -/
def State.findBucket (s : State) (m : BucketMsg) : Option Nat :=
  let i := s.exch.buckets.findIdx fun b => b.group = m.group ∧ b.no = m.bucket
  if i < s.exch.buckets.length then some i else none

/-- A bucket message arrives (R296, R297, R319): while the attempt's exchange runs, the same attempt number is taken,
another is older and discarded, or later and held for its attempt. A message whose check value fails as its attempt is
current is lost (R295, R384). (DEDUCED, assumption 41.) -/
def State.takeBucket (s : State) (peak fin : Bool) (m : BucketMsg) : State :=
  let m := { m with kind := (if peak then 2 else 0) + b2n fin, second := m.second && !peak }
  if s.running ∧ m.attempt = s.job.attempt ∧ s.fget .EXCH_STATUS_PHASE ≠ 4 then
    if !m.checkOk then s.raiseIn .frameLoss none else
    match s.findBucket m with
    | some gb => exchEvent gb 12 (.msg (passOf peak m) fin m) s
    | none => s.raiseIn .bucketShape none
  else if laterKey (m.step, m.attempt) s.curKey then
    { s with exch := { s.exch with early := s.exch.early ++ [m] } }
  else s.stale

/-- BUCKET_PEAK_REDUCE (R290, R296). -/
def execBucketPeakReduce (m : BucketMsg) (s : State) : Out :=
  s.clocked (.bucketPeakReduce m) <|
  .next (s.takeBucket true false m)

/-- BUCKET_PEAK_FINAL (R290, R296). -/
def execBucketPeakFinal (m : BucketMsg) (s : State) : Out :=
  s.clocked (.bucketPeakFinal m) <|
  .next (s.takeBucket true true m)

/-- BUCKET_REDUCE (R296 to R302). -/
def execBucketReduce (m : BucketMsg) (s : State) : Out :=
  s.clocked (.bucketReduce m) <|
  .next (s.takeBucket false false m)

/-- BUCKET_FINAL (R296 to R302). -/
def execBucketFinal (m : BucketMsg) (s : State) : Out :=
  s.clocked (.bucketFinal m) <|
  .next (s.takeBucket false true m)

/-- EXCHANGE_TIMEOUT (R303): TokenTimeout after its start the exchange is not finished. Messages of the attempt are still
taken and forwarded. -/
def execExchangeTimeout (s : State) : Out :=
  s.clocked .exchangeTimeout <|
  .next <|
    if !s.running || !s.exch.started || s.exch.stopped || s.job.exchTimedOut || s.tokenTimeout = 0 || s.fget .EXCH_STATUS_PHASE = 4 then s else
    { s.raiseIn .exchangeTimeout none with job := { s.job with exchTimedOut := true } }

/-- Messages of a later attempt that were held are taken when the attempt starts (R319). -/
def State.takeEarly (s : State) : State :=
  let ms := s.exch.early
  ms.foldl (fun s m => s.takeBucket (2 ≤ m.kind) (m.kind % 2 = 1) m) { s with exch := { s.exch with early := [] } }

end Sys2Proof.Machine
end

