-- ==== Sys2Proof/Machine/Loads.lean ====
section
/-! DEFINITION. The loads (R221 to R225, R243 to R248, R291 to R294, R322, R330, R333): what each tests, in the order of
its status table, and what it puts in force; and the start of epilogue and restore sections (R226). -/

namespace Sys2Proof.Machine

/-- The first status code whose test fails; none when every test passes. -/
def firstFail : List (Nat × Bool) → Option Nat
  | [] => none
  | (c, bad) :: r => if bad then some c else firstFail r

/-- Bytes `a` to `a + n - 1` of a record are zero. -/
def zeroAt (b : List Byte) (a n : Nat) : Bool := ((b.drop a).take n).all (· = 0)

/-- Two numbers of a list are equal. -/
def hasDup : List Nat → Bool
  | [] => false
  | a :: r => r.contains a || hasDup r

/-- Records of `n` bytes. -/
def State.records (s : State) (base n count : Nat) : List (List Byte) :=
  (List.range count).map fun i => s.load (base + n * i) n

/-! ### Sections (R226, R227) -/

/-- A core's units and queues, and its cellar (R27), are empty at the start of a section. (DEDUCED, assumption 46.) -/
def Core.idle (k : Core) : Core :=
  { k with qMover := [], qArray := [], qWrite := [], qEngine := [], qVector := [], qNet := [], hold := none, fixups := [],
           watch := [], holding := [], backlog := [], vpipe := {}, stash := [], cellarUsed := 0, chunks := [], chunkUsed := 0
           poss := k.poss.map fun x => (x.1, { x.2 with reqs := [], holds := [] }) }

/-- Every core of the plan starts its epilogue (3) or restore (4) section; an empty section ends at once. -/
def State.startSections (s : State) (st : Nat) : State :=
  s.planCores.foldl (fun s c =>
    match (s.core c).hdr with
    | none => s
    | some h =>
      let first := if st = 3 then h.epilogue else h.restore
      let stop := if st = 3 then h.restore else h.entryCount
      let s := ((s.modCore c Core.idle).fset .SEQ_ENTRY_NEXT first c).fset .SEQ_STATUS_WAITING 0 c
      let s := (s.fset .ENGINE_STATUS_HALTED 0 c).engineBusy c
      let s := (((s.fset .ENGINE_STATUS_FIXUP_LEVEL 0 c).fset .WATCH_STATUS_LEVEL 0 c).fset .WATCH_STATUS_BUSY 0 c).fset
        .CELLAR_USE_CHUNKS 0 c
      if first < stop then
        { s.fset .SEQ_STATUS_STATE st c with job := { s.job with epilogue := s.job.epilogue ++ [c] } }
      else s.fset .SEQ_STATUS_STATE 0 c) { s with job := { s.job with epilogue := [] } }

/-! ### Timetable plans (R221 to R225) -/

/-- The outlier list records of a header (R223). -/
def listRecord (b : List Byte) : Nat × Nat × Nat × Nat × Nat :=
  (fieldAt b 0 2, fieldAt b 2 1, fieldAt b 4 4, fieldAt b 8 4, fieldAt b 16 8)

/-- A core header as read (R222). -/
def readHeader (addr : Nat) (b : List Byte) (lists : List (List Byte)) : CoreHdr :=
  { addr := addr, entryCount := fieldAt b 8 4, epilogue := fieldAt b 12 4, restore := fieldAt b 16 4
    cellarBase := fieldAt b 24 8, cellarKib := fieldAt b 32 4, innToken := fieldAt b 36 1, returnToken := fieldAt b 37 1
    innBase := fieldAt b 40 8, innHalf := fieldAt b 48 4, returnHalf := fieldAt b 52 4, returnBase := fieldAt b 56 8
    olists := lists.map listRecord }

/-- A token field of a header: a counter, or 0xFF. -/
def tokenField (n : Nat) : Bool := n ≤ 63 || n = 255

/-- Bytes of a core's header, entries and outlier list table. -/
def coreBytes (entries lists : Nat) : Nat := 128 + 16 * entries + 24 * lists

/-- The plan that stands at a directory (R221 to R223), or the status code of its first failed test (R224): what cannot
be read first, then the tests in the table's order. With the plan go its cores' headers and the memory it occupies. -/
def State.readPlan (s : State) (d : Nat) : Except Nat (Plan × List CoreHdr × List (Nat × Nat)) :=
  let b := s.load d 64
  let addrs := (List.range 4096).map fun c => s.loadNat (d + 64 + 8 * c) 8
  let coldBase := fieldAt b 32 8
  let coldN := fieldAt b 40 4
  let heads := addrs.map fun a => (a, s.load a 128)
  let size (h : Nat × List Byte) : Nat := coreBytes (fieldAt h.2 8 4) (fieldAt h.2 38 2)
  if !mappedRange d 32832 || !mappedRange coldBase (4 * coldN) || !(addrs.all fun a => mappedRange a 128)
      || !(heads.all fun h => mappedRange h.1 (size h)) then .error 0x14 else
  let cold := (List.range coldN).map fun i => s.loadNat (coldBase + 4 * i) 4
  let recs (h : Nat × List Byte) : List (List Byte) :=
    s.records (h.1 + 128 + 16 * fieldAt h.2 8 4) 24 (fieldAt h.2 38 2)
  let ratios := heads.flatMap fun h => (recs h).map fun r => (fieldAt r 0 2, fieldAt r 12 2)
  let n62 := fieldAt b 44 1
  let badDir : Bool := fieldAt b 0 4 ≠ 0x74740001 || fieldAt b 4 2 ≠ 1 || !zeroAt b 6 2 || !zeroAt b 45 19
    || fieldAt b 16 8 % 2 ^ 26 ≠ 0 || fieldAt b 24 8 % 2 ^ 26 ≠ 0 || 4096 < fieldAt b 12 4
    || !(n62 = 0 || (6 ≤ n62 && n62 ≤ 16)) || cold.any (1048575 < ·)
  let badHeader : Bool := (heads.zipIdx.any fun (h, c) =>
      fieldAt h.2 0 4 ≠ 0x74740002 || fieldAt h.2 4 2 ≠ 1 || fieldAt h.2 6 2 ≠ c || !zeroAt h.2 64 64
      || fieldAt h.2 8 4 = 0 || 2 ^ 26 < fieldAt h.2 8 4 || 511 < fieldAt h.2 38 2
      || fieldAt h.2 24 8 % 4096 ≠ 0 || fieldAt h.2 32 4 < 128 || !tokenField (fieldAt h.2 36 1)
      || !tokenField (fieldAt h.2 37 1)
      || (recs h).any fun r => !zeroAt r 3 1 || !zeroAt r 14 2 || fieldAt r 8 4 = 0 || fieldAt r 12 2 = 0)
    || ratios.any fun x => ratios.any fun y => x.1 = y.1 && x.2 ≠ y.2
  let badCheck : Bool := heads.any fun h => crc c32 (s.load (h.1 + 24) (size h - 24)) ≠ fieldAt h.2 20 4
  let op (h : Nat × List Byte) (e : Nat) : Nat := s.loadNat (h.1 + 128 + 16 * e) 1
  let badSections : Bool := heads.any fun h =>
    let ep := fieldAt h.2 12 4
    let rs := fieldAt h.2 16 4
    ep = 0 || rs < ep || fieldAt h.2 8 4 < rs
      || (List.range (fieldAt h.2 8 4)).any fun e => decide (op h e = 0x3F) != decide (e + 1 = ep)
  let badRegion : Bool := !mappedRange (fieldAt b 16 8) (fieldAt b 24 8) || heads.any fun h =>
    !mappedRange (fieldAt h.2 24 8) (1024 * fieldAt h.2 32 4)
      || (fieldAt h.2 36 1 ≠ 255 && !mappedRange (fieldAt h.2 40 8) (2 * fieldAt h.2 48 4))
      || (fieldAt h.2 37 1 ≠ 255 && !mappedRange (fieldAt h.2 56 8) (2 * fieldAt h.2 52 4 + 131072))
      || (recs h).any fun r => !mappedRange (fieldAt r 16 8) (8 * fieldAt r 4 4)
  match firstFail [(0x10, badDir), (0x11, badHeader), (0x12, badCheck), (0x13, badSections), (0x14, badRegion)] with
  | some c => .error c
  | none =>
    .ok ({ loaded := true, id := fieldAt b 8 4, dir := d, routingCores := fieldAt b 12 4, ovBase := fieldAt b 16 8
           ovSize := fieldAt b 24 8, nwReserve := n62, cold := cold, ratios := ratios.eraseDups },
         heads.map fun h => readHeader h.1 h.2 (recs h),
         (d, 32832) :: (coldBase, 4 * coldN) :: heads.map fun h => (h.1, size h))

/-- The sampling rate in force (R62): the less frequent of the dictionary's and the plan's, off when either is off. -/
def rateInForce (k reserve : Nat) : Nat := if k = 0 ∨ reserve = 0 then 0 else max k reserve

/-- Put a plan in force (R225). The restore sections run at once when a ledger is loaded, otherwise after the first
ledger load (R248). -/
def State.applyPlan (s : State) (p : Plan) (hs : List CoreHdr) (spans : List (Nat × Nat)) : State :=
  let cold := s.plan.cold.filter fun c => c ∉ p.cold
  let p : Plan := { p with
    cold := cold ++ p.cold, refMode := s.dval 0x2100 1 0 ≠ 0, nwRate := rateInForce (s.dval 0x4002 1 12) p.nwReserve
    restoreDue := !s.ledger.loaded }
  let s := { s with plan := p, tables := s.tables.put 0 spans }
  let s := hs.zipIdx.foldl (fun s x =>
    (s.modCore x.2 fun k => { k with hdr := some x.1 }).fset .ARRAY_CTRL_REF_MODE (b2n p.refMode) x.2) s
  let s := s.setDval 0x2200 4 p.id
  if s.ledger.loaded then s.startSections 4 else s

/-- TIMETABLE_LOAD (R224): between doorbell and commit the load is latched; otherwise it starts, and the status shows
PENDING until it ends. -/
def State.timetableLoad (s : State) : State :=
  let s := s.setDval 0x2200 3 2
  if s.inStep then { s with plan := { s.plan with latched := true } }
  else { s with plan := { s.plan with loading := true } }

/-- A plan load ends (R224, R225): it reads the directory named now. -/
def State.timetableDone (s : State) : State :=
  if !s.plan.loading || s.inStep || !s.job.epilogue.isEmpty then s else
  let s := { s with plan := { s.plan with loading := false } }
  match s.readPlan (s.dval 0x2200 1 0) with
  | .error c => s.setDval 0x2200 3 c
  | .ok (p, hs, spans) => (s.setDval 0x2200 3 1).applyPlan p hs spans

/-- TIMETABLE_LOAD_COMPLETE (R224, R225). -/
def execTimetableLoadComplete (s : State) : Out :=
  s.clocked .timetableLoadComplete <|
  .next s.timetableDone

/-! ### The ledger (R243 to R248) -/

/-- A tensor table entry as read (R245). -/
def readTensor (b : List Byte) : Tensor :=
  { id := fieldAt b 0 2, group := fieldAt b 2 1, kind := fieldAt b 3 1, elements := fieldAt b 8 8, master := fieldAt b 16 8
    m1 := fieldAt b 24 8, m2 := fieldAt b 32 8, cell := fieldAt b 40 8, mscale := fieldAt b 48 8
    replicas := fieldAt b 56 2, rank := fieldAt b 58 2 }

/-- Array images of an ARRAY tensor (R246). -/
def Tensor.images (t : Tensor) : Nat := ceilDiv t.blocks 2048

/-- Bytes of a tensor's cell image. -/
def Tensor.cellBytes (t : Tensor) : Nat := if t.kind = 1 then 34816 * t.images else 17 * t.blocks

/-- Areas of a tensor in a page: offset and size. -/
def Tensor.areas (t : Tensor) : List (Nat × Nat) :=
  [(t.master, 128 * t.blocks), (t.m1, 32 * t.blocks), (t.m2, 32 * t.blocks), (t.mscale, 2 * t.blocks),
   (t.cell, t.cellBytes)]

/-- Two areas of a list overlap. -/
def anyOverlap : List (Nat × Nat) → Bool
  | [] => false
  | a :: r => (a.2 ≠ 0 && r.any fun b => b.2 ≠ 0 && a.1 < b.1 + b.2 && b.1 < a.1 + a.2) || anyOverlap r

/-- The ledger that page `page` holds, with the bases given, or the status code of its first failed test (R248).
(DEDUCED, assumption 81.) -/
def State.readLedger (s : State) (page b0 b1 : Nat) : Except Nat Ledger :=
  let base := if page = 0 then b0 else b1
  let h := s.load base 256
  let n := fieldAt h 18 2
  let tab := fieldAt h 24 8
  if !mappedRange base 256 || !mappedRange (base + tab) (64 * n) then .error 0x13 else
  let recs := s.records (base + tab) 64 n
  let ts := recs.map readTensor
  let badHeader : Bool := fieldAt h 0 4 ≠ 0x74740010 || fieldAt h 4 2 ≠ 1 || fieldAt h 6 1 ≠ page || fieldAt h 7 1 ≠ 1
    || n = 0 || !zeroAt h 20 4 || !zeroAt h 132 124
    || recs.any (fun r => !zeroAt r 4 4 || !zeroAt r 60 4)
    || ts.any (fun t => 63 < t.group || 2 < t.kind || t.elements % 32 ≠ 0 || t.replicas = 0 || 16384 < t.replicas
        || t.replicas ≤ t.rank)
    || hasDup (ts.map Tensor.id)
  let badCheck : Bool := crc c32 (h.take 128) ≠ fieldAt h 128 4
  let sh := fieldAt h 32 8
  let eh := fieldAt h 40 8
  let wm := fieldAt h 48 8
  let head : List (Nat × Nat) :=
    [(tab, 64 * n), (sh, 2 ^ 25), (eh, 64 + exchangeBlocks ts), (wm, ceilDiv (mapBase ts ts.length) 8)]
  let areas := (0, 256) :: head ++ ts.flatMap Tensor.areas
  let span := (areas.map fun a => a.1 + a.2).foldl max 0
  let images (base : Nat) : List Nat := (ts.filter (·.kind = 1)).flatMap fun t =>
    (List.range t.images).map fun i => base + t.cell + 34816 * i
  let badLayout : Bool := head.any (fun a => a.1 % 4096 ≠ 0) || ts.any (fun t => t.kind = 1 && t.cell % 2048 ≠ 0)
    || b0 % 2 ^ 26 ≠ 0 || b1 % 2 ^ 26 ≠ 0 || anyOverlap areas || (b0 < b1 + span && b1 < b0 + span)
    || (images b0 ++ images b1).any fun a => a / 2 ^ 38 ≠ (a + 34815) / 2 ^ 38
  let badRegion : Bool := areas.any fun a => !mappedRange (b0 + a.1) a.2 || !mappedRange (b1 + a.1) a.2
  match firstFail [(0x10, badHeader), (0x11, badCheck), (0x12, badLayout), (0x13, badRegion)] with
  | some c => .error c
  | none => .ok { loaded := true, page := page, base0 := b0, base1 := b1, span := span, tableOff := tab, histOff := sh
                  exHistOff := eh, wmapOff := wm, tensors := ts }

/-- LEDGER_LOAD (R248): BUSY between doorbell and commit; otherwise the page is checked and the load runs. -/
def State.ledgerLoad (s : State) (mode : Nat) : State :=
  if s.inStep then s.setDval 0x2300 5 0x14 else
  let page := s.dval 0x2300 4 0
  let b0 := s.dval 0x2300 1 0
  let b1 := s.dval 0x2300 2 0
  match s.readLedger page b0 b1 with
  | .error c => s.setDval 0x2300 5 c
  | .ok _ => { s.setDval 0x2300 5 2 with ledger := { s.ledger with loading := some (mode, page, b0, b1) } }

/-- Rebuild a tensor's cell image in the page at `base` (R248, R257). -/
def State.rebuildCells (s : State) (base : Nat) (t : Tensor) : State :=
  (List.range t.blocks).foldl (fun s b =>
    let (m, s) := s.hubRead (base + t.master + 128 * b) 128
    s.writeCells base t b ((List.range 32).map fun i => word (fieldAt m (4 * i) 4))) s

/-- FRESH zeroes a tensor's moments in the page at `base` (R248). -/
def State.freshMoments (s : State) (base : Nat) (t : Tensor) : State :=
  let s := s.writeMem (base + t.m1) (List.replicate (32 * t.blocks) 0) none
  let s := s.writeMem (base + t.m2) (List.replicate (32 * t.blocks) 0) none
  s.writeMem (base + t.mscale) (List.replicate (2 * t.blocks) 127) none

/-- FRESH sets every MomentShift to the group's RangeShift and renews the header's check value (R248). -/
def State.freshHeader (s : State) (base : Nat) : State :=
  let s := s.writeMem (base + 64) ((List.range 64).flatMap fun g =>
    ((s.dom 0x3101 (g + 1) groupDefault).drop 8).take 1) none
  s.writeMem (base + 128) (bytesOf 4 (crc c32 (s.load base 128))) none

/-- Copy `n` bytes at an offset from the page at `src` to the page at `dst`. -/
def State.copyArea (s : State) (src dst off n : Nat) : State :=
  let (m, s) := s.hubRead (src + off) n
  s.writeMem (dst + off) m none

/-- A cold record (R49, R53). -/
def coldRecord : List Byte :=
  List.flatten [[255, 0, 0, 0], List.replicate 16 255, bytesOf 2 0x8000, List.replicate 10 0]

/-- A scale-history table at `a` that nothing has written since memory was cleared holds cold records (R53). -/
def State.fillCold (s : State) (a : Nat) : State :=
  if s.mem.any fun x => a ≤ x.1 && x.1 < a + 2 ^ 25 then s
  else (List.range (2 ^ 20)).foldl (fun s i => s.store (a + 32 * i) coldRecord) s

/-- A ledger load ends (R248): cells and moments by the mode, header, tensor table and STATIC areas into the other page,
the loaded page committed, the counters set, and the restore sections if a plan is loaded. (DEDUCED, assumption 82.) -/
def State.ledgerDone (s : State) : State :=
  match s.ledger.loading with
  | none => s
  | some (mode, page, b0, b1) =>
    if s.inStep || !s.job.epilogue.isEmpty then s else
    let s := { s with ledger := { s.ledger with loading := none } }
    match s.readLedger page b0 b1 with
    | .error c => s.setDval 0x2300 5 c
    | .ok l =>
      let base := if page = 0 then b0 else b1
      let other := if page = 0 then b1 else b0
      let s := if 2 ≤ mode then l.tensors.foldl (fun s t => s.rebuildCells base t) s else s
      let s := if mode = 3 then (l.tensors.foldl (fun s t => s.freshMoments base t) s).freshHeader base else s
      let h := s.load base 256
      let s := s.writeMem other (setAt (setAt h 6 (BitVec.ofNat 8 (1 - page))) 7 0) none
      let s := s.copyArea base other l.tableOff (64 * l.tensors.length)
      let s := (l.tensors.filter Tensor.isStatic).foldl (fun s t =>
        t.areas.foldl (fun s a => s.copyArea base other a.1 a.2) s) s
      let s := s.fillCold (base + l.histOff)
      let n := fieldAt h 8 8
      let s := s.setDval 0x2300 5 1
      let s := (s.fset .COMMIT_STATUS_ATTEMPT 0)
      let s := { s with
        ledger := { l with firstDoorbell := true }
        exch := { s.exch with coldLoad := 2 ≤ mode }
        job := { s.job with stepCounter := n, attempt := 0, curStep := n, curAttempt := 0 } }
      if s.plan.loaded then { s with plan := { s.plan with restoreDue := false } }.startSections 4 else s

/-- LEDGER_LOAD_COMPLETE (R248). -/
def execLedgerLoadComplete (s : State) : Out :=
  s.clocked .ledgerLoadComplete <|
  .next s.ledgerDone

/-! ### Reduction plans (R282, R291 to R294) -/

/-- A contribution table entry as read (R282). -/
def readContrib (b : List Byte) : Contrib :=
  { record := fieldAt b 0 8, desc := fieldAt b 8 8, first := fieldAt b 16 8, stride := fieldAt b 24 4, rows := fieldAt b 28 1
    cols := fieldAt b 29 1, mwrec := fieldAt b 30 1 = 1, words := fieldAt b 31 1 }

/-- Number bucket records within their groups, in table order (R293). -/
def numberBuckets (recs : List (List Byte)) : List BucketRec :=
  (recs.foldl (fun (x : List BucketRec × SMap Nat) r =>
    let g := fieldAt r 10 1
    let k := x.2.get g 0
    ({ group := g, no := k, first := fieldAt r 0 8, count := fieldAt r 8 2, origin := fieldAt r 12 2 } :: x.1,
     x.2.put g (k + 1))) ([], [])).1.reverse

/-- Blocks are covered exactly once, ranges in rising order from `at'` on. -/
def covers : List (Nat × Nat) → Nat → Nat → Bool
  | [], p, total => p = total
  | (a, n) :: r, p, total => a = p && covers r (p + n) total

/-- Insert a range by its start. -/
def insertRange (x : Nat × Nat) : List (Nat × Nat) → List (Nat × Nat)
  | [] => [x]
  | y :: r => if x.1 ≤ y.1 then x :: y :: r else y :: insertRange x r

/-- The reduction plan at an address, or the status code of its first failed test (R294). -/
def State.readReduction (s : State) (a : Nat) : Except Nat (Exch × List (Nat × Nat)) :=
  let h := s.load a 64
  let ng := fieldAt h 6 1
  let nb := fieldAt h 12 4
  let nc := fieldAt h 16 4
  let bt := fieldAt h 40 8
  let ct := fieldAt h 48 8
  if !mappedRange a 64 || !mappedRange (a + 64) (16 * ng) || !mappedRange (a + bt) (16 * nb)
      || !mappedRange (a + ct) (32 * nc) then .error 0x13 else
  let gs := s.records (a + 64) 16 ng
  let bs := s.records (a + bt) 16 nb
  let cs := s.records (a + ct) 32 nc
  let groups := gs.map fun g => (⟨fieldAt g 0 2, fieldAt g 2 1, fieldAt g 4 2⟩ : RGroup)
  let badHeader : Bool := fieldAt h 0 4 ≠ 0x74740020 || fieldAt h 4 2 ≠ 1 || !zeroAt h 7 1 || !zeroAt h 60 4
    || ng = 0 || 64 < ng || nb = 0 || 2 ^ 24 < nb || nc = 0 || 2 ^ 24 < nc || fieldAt h 20 4 = 0 || 4096 < fieldAt h 20 4
    || fieldAt h 32 8 % 4096 ≠ 0 || bt % 16 ≠ 0 || ct % 32 ≠ 0
    || gs.any (fun g => fieldAt g 0 2 = 0 || 16384 < fieldAt g 0 2 || !zeroAt g 3 1 || !zeroAt g 6 10
        || (if fieldAt g 0 2 = 1 then fieldAt g 2 1 ≠ 0 else fieldAt g 2 1 = 0 || 10 < fieldAt g 2 1))
    || bs.any (fun b => fieldAt b 8 2 = 0 || 4096 < fieldAt b 8 2 || ng ≤ fieldAt b 10 1 || !zeroAt b 11 1 || !zeroAt b 14 2
        || (match groups[fieldAt b 10 1]? with | some g => decide (g.members ≤ fieldAt b 12 2) | none => true))
    || cs.any (fun c => fieldAt c 28 1 = 0 || 64 < fieldAt c 28 1 || !(fieldAt c 29 1 = 32 || fieldAt c 29 1 = 64)
        || 1 < fieldAt c 30 1 || fieldAt c 0 8 % 32 ≠ 0 || fieldAt c 8 8 % 16 ≠ 0
        || (if fieldAt c 30 1 = 1 then fieldAt c 31 1 < 4 || 8 < fieldAt c 31 1 else fieldAt c 31 1 ≠ 0))
  let badCheck : Bool := crc c32 (s.load (a + 64) (ct + 32 * nc - 64)) ≠ fieldAt h 56 4
  let ranges := (bs.map fun b => (fieldAt b 0 8, fieldAt b 8 2)).foldl (fun l x => insertRange x l) []
  let badPartition : Bool := !covers ranges 0 (fieldAt h 24 8)
  let contribs := cs.map readContrib
  let badRegion : Bool := !mappedRange a (ct + 32 * nc) || !mappedRange (fieldAt h 32 8) 131072
    || contribs.any fun c => !mappedRange c.record (4096 * (if c.mwrec then 8 * c.words else 16)) || !mappedRange c.desc 16
  match firstFail [(0x10, badHeader), (0x11, badCheck), (0x12, badPartition), (0x13, badRegion)] with
  | some c => .error c
  | none =>
    .ok ({ s.exch with loaded := true, id := fieldAt h 8 4, groups := groups, buckets := numberBuckets bs
                       contribs := contribs, readyCount := fieldAt h 20 4, blocks := fieldAt h 24 8
                       readyBase := fieldAt h 32 8, latched := false }, [(a, ct + 32 * nc), (a + bt, 16 * nb)])

/-- Load the reduction plan named now (R294). -/
def State.runReduction (s : State) : State :=
  let s := { s with exch := { s.exch with latched := false } }
  match s.readReduction (s.dval 0x2400 1 0) with
  | .error c => s.setDval 0x2400 3 c
  | .ok (x, spans) =>
    ({ s with exch := x, tables := s.tables.put 1 spans }.setDval 0x2400 3 1).setDval 0x2400 4 x.id

/-- REDUCTION_LOAD (R294). -/
def State.reductionLoad (s : State) : State :=
  if s.inStep then { s.setDval 0x2400 3 2 with exch := { s.exch with latched := true } } else s.runReduction

/-! ### Ring-order tables (R330) -/

/-- The ring-order table at an address, or the status code of its first failed test (R330, R349). -/
def State.readRings (s : State) (a : Nat) : Except Nat (List Ring × List (Nat × Nat)) :=
  let h := s.load a 16
  let n := fieldAt h 6 2
  let recs := s.records (a + 16) 16 n
  if !mappedRange a 16 || !mappedRange (a + 16) (16 * n)
      || recs.any (fun r => !mappedRange (fieldAt r 0 8) (2 * fieldAt r 8 2)) then .error 0x13 else
  let lists := recs.map fun r => s.load (fieldAt r 0 8) (2 * fieldAt r 8 2)
  let rings := (recs.zip lists).map fun x =>
    (⟨(List.range (fieldAt x.1 8 2)).map fun i => fieldAt x.2 (2 * i) 2, fieldAt x.1 10 2⟩ : Ring)
  let badHeader : Bool := fieldAt h 0 4 ≠ 0x74740030 || fieldAt h 4 2 ≠ 1 || n = 0 || !zeroAt h 12 4
    || recs.any fun r => fieldAt r 8 2 < 2 || 16384 < fieldAt r 8 2 || fieldAt r 8 2 ≤ fieldAt r 10 2
        || fieldAt r 0 8 % 2 ≠ 0 || !zeroAt r 12 4
  let badCheck : Bool := crc c32 (recs.flatten ++ lists.flatten) ≠ fieldAt h 8 4
  let badContent : Bool := rings.any fun r => r.members.any (16383 < ·) || hasDup r.members
    || r.members[r.pos]? ≠ some s.address
  match firstFail [(0x10, badHeader), (0x11, badCheck), (0x12, badContent)] with
  | some c => .error c
  | none => .ok (rings, (a, 16 + 16 * n) :: recs.map fun r => (fieldAt r 0 8, 2 * fieldAt r 8 2))

/-- Load the ring-order table named now (R330). -/
def State.runRings (s : State) : State :=
  let s := { s with rings := { s.rings with latched := false } }
  match s.readRings (s.dval 0x6005 1 0) with
  | .error c => s.setDval 0x6005 3 c
  | .ok (rs, spans) =>
    { s with rings := { loaded := true, check := s.loadNat (s.dval 0x6005 1 0 + 8) 4, rings := rs }, tables := s.tables.put 2 spans }.setDval 0x6005 3 1

/-- RING_LOAD (R330). -/
def State.ringLoad (s : State) : State :=
  if s.inStep then { s.setDval 0x6005 3 2 with rings := { s.rings with latched := true } } else s.runRings

/-! ### The itinerary (R333) -/

/-- A layer's expert entry as read: copies within bounds are tested before. -/
def readExpert (b : List Byte) : Expert :=
  { owner := fieldAt b 0 2, capacity := fieldAt b 4 4
    cores := (List.range (min 4 (fieldAt b 2 1))).map fun i => fieldAt b (8 + 2 * i) 2 }

/-- The itinerary at an address, or the status code of its first failed test (R333, R349). A count or offset out of range
is BAD_CONTENT. (DEDUCED, assumption 85.) -/
def State.readItinerary (s : State) (a : Nat) : Except Nat (List ILayer × List (Nat × Nat)) :=
  let h := s.load a 32
  let n := fieldAt h 6 2
  let recs := s.records (a + 32) 16 n
  let experts (r : List Byte) : List (List Byte) := s.records (a + fieldAt r 4 4) 16 (fieldAt r 0 2)
  let members (r : List Byte) : List Nat :=
    (List.range (fieldAt r 12 2)).map fun i => s.loadNat (a + fieldAt r 8 4 + 2 * i) 2
  if !mappedRange a 32 || !mappedRange (a + 32) (16 * n)
      || recs.any (fun r => !mappedRange (a + fieldAt r 4 4) (16 * fieldAt r 0 2)
          || !mappedRange (a + fieldAt r 8 4) (2 * fieldAt r 12 2)) then .error 0x13 else
  let stop := (recs.map fun r => max (if fieldAt r 0 2 = 0 then 0 else fieldAt r 4 4 + 16 * fieldAt r 0 2)
    (fieldAt r 8 4 + 2 * fieldAt r 12 2)).foldl max (32 + 16 * n)
  let badHeader : Bool := fieldAt h 0 4 ≠ 0x74740040 || fieldAt h 4 2 ≠ 1 || !zeroAt h 12 20
    || recs.any (fun r => !zeroAt r 3 1 || !zeroAt r 14 2) || recs.any fun r => (experts r).any fun e => !zeroAt e 3 1
  let badCheck : Bool := crc c32 (s.load (a + 32) (stop - 32)) ≠ fieldAt h 8 4
  let mine (r : List Byte) : List Nat :=
    (((experts r).map readExpert).filter fun e => e.owner = s.address).flatMap Expert.cores
  let badContent : Bool := n = 0 || 256 < n || recs.any fun r =>
    4096 < fieldAt r 0 2 || fieldAt r 2 1 = 0 || 8 < fieldAt r 2 1 || fieldAt r 4 4 % 16 ≠ 0 || fieldAt r 8 4 % 2 ≠ 0
      || fieldAt r 12 2 = 0 || 16384 < fieldAt r 12 2
      || (experts r).any (fun e => fieldAt e 2 1 = 0 || 4 < fieldAt e 2 1 || 2 ^ 20 < fieldAt e 4 4
          || (List.range 4).any fun i =>
              if i < fieldAt e 2 1 then 4095 < fieldAt e (8 + 2 * i) 2 else fieldAt e (8 + 2 * i) 2 ≠ 0xFFFF)
      || hasDup (mine r)
      || (mine r).any (fun c => match (s.core c).hdr with | some h => h.innToken = 255 | none => false)
      || !(members r).contains s.address
  match firstFail [(0x10, badHeader), (0x11, badCheck), (0x12, badContent)] with
  | some c => .error c
  | none =>
    .ok (recs.map fun r => { experts := (experts r).map readExpert, rounds := fieldAt r 2 1, members := members r },
      [(a, stop)])

/-- Load the itinerary named now (R333). -/
def State.runItinerary (s : State) : State :=
  let s := { s with itin := { s.itin with latched := false } }
  match s.readItinerary (s.dval 0x6007 1 0) with
  | .error c => s.setDval 0x6007 3 c
  | .ok (ls, spans) =>
    { s with itin := { loaded := true, check := s.loadNat (s.dval 0x6007 1 0 + 8) 4, layers := ls }, tables := s.tables.put 3 spans }.setDval 0x6007 3 1

/-- ITINERARY_LOAD (R333). -/
def State.itineraryLoad (s : State) : State :=
  if s.inStep then { s.setDval 0x6007 3 2 with itin := { s.itin with latched := true } } else s.runItinerary

/-! ### Routing table and vote tree (R322, R331) -/

/-- The default routing table (R349): no route, and this module for its own address. -/
def routingDefault (own : Nat) : List Byte :=
  (List.range 16384).flatMap fun a => bytesOf 4 (if a = own then 0xFFFE else 0xFFFF)

/-- A table breaks R322: an alternate 0xA to 0xD, a reserved bit, or a wrong own entry. -/
def routingBad (own : Nat) (b : List Byte) : Bool :=
  (List.range (b.length / 4)).any fun a =>
    let e := fieldAt b (4 * a) 4
    e / 2 ^ 26 ≠ 0 || (List.range 4).any (fun k => decide (10 ≤ bits e (4 * k) 4) && decide (bits e (4 * k) 4 ≤ 13))
      || (a = own && (bits e 0 4 ≠ 14 || bits e 16 10 ≠ 0))

/-- Key of a latched entry: RoutingTable or one of the vote tree. -/
def latchDict (s : State) (key : Nat) (b : List Byte) : State :=
  { s with pendingDict := (s.pendingDict.filter (·.1 ≠ key)) ++ [(key, b)] }

/-- Put a routing table in force, or show BAD_CONTENT (R322). -/
def State.applyRouting (s : State) (b : List Byte) : State :=
  if routingBad s.address b then s.setDval 0x6004 2 0x12
  else { s.setDval 0x6004 2 1 with doms := s.doms.put (dkey 0x6004 1) b, fab := { s.fab with ups := [] } }

/-- ROUTING_TABLE_WRITE (R322): checked and applied, or latched until the commit. -/
def State.routingWrite (s : State) (b : List Byte) : State :=
  if s.inStep then latchDict (s.setDval 0x6004 2 2) (dkey 0x6004 1) b else s.applyRouting b

/-- Entries latched in a step take effect (R322, R331). -/
def State.applyPendingDict (s : State) : State :=
  s.pendingDict.foldl (fun s x =>
    if x.1 = dkey 0x6004 1 then s.applyRouting x.2
    else if x.1 = dkey 0x6006 2 then { s with doms := s.doms.put x.1 x.2 }
    else { s with dict := s.dict.put x.1 (natOf x.2) }) { s with pendingDict := [] }

/-- Loads latched in a step run (R224, R294, R330, R333). (DEDUCED, assumption 45.) -/
def State.runLatched (s : State) : State :=
  let s := if s.exch.latched then s.runReduction else s
  let s := if s.rings.latched then s.runRings else s
  let s := if s.plan.latched then { s with plan := { s.plan with latched := false, loading := true } } else s
  if s.itin.latched then s.runItinerary else s

/-- Some load is pending or runs (R399). -/
def State.loadPending (s : State) : Bool :=
  s.plan.latched || s.plan.loading || s.exch.latched || s.rings.latched || s.itin.latched || s.ledger.loading.isSome

end Sys2Proof.Machine
end

