-- ==== Sys2Proof/Machine/Travel.lean ====
section
/-! DEFINITION. Travellers, caravans and inns (R232 to R235, R333 to R343): routing in rounds, acceptance by key, arrival
halves, reuse, returns and the served map. -/

namespace Sys2Proof.Machine

/-- A layer's routing. -/
def State.tlayer (s : State) (l : Nat) : TLayer := s.trav.get l {}

/-- Change a layer's routing. -/
def State.modLayer (s : State) (l : Nat) (f : TLayer → TLayer) : State := { s with trav := s.trav.put l (f (s.tlayer l)) }

/-- A layer record of the itinerary; a layer without one routes nothing and has this module alone. -/
def State.ilayer (s : State) (l : Nat) : ILayer := (s.itin.layers[l]?).getD ⟨[], 1, [s.address]⟩

/-! ### Choices (R232, R334) -/

/-- Expert indices of a choice record, up to its end (R232). -/
def choicesOf (experts : Nat) : List Int → List Nat
  | [] => []
  | v :: r => if 0 ≤ v ∧ v < experts then v.toNat :: choicesOf experts r else []

/-- A choice record in the larder. -/
def readChoices (l : Mem) (a experts : Nat) : List Nat :=
  choicesOf experts ((List.range 8).map fun i => signed 32 (l.readNat (a + 4 * i) 4))

/-- Index of the choice that a traveller tries in a round (R334). -/
def choiceAt (t : Traveller) (round : Nat) : Nat := t.r + round * (t.k + 1)

/-- The expert that a traveller tries in a round; none when it has no choice there. -/
def expertAt (t : Traveller) (rounds round : Nat) : Option Nat :=
  if rounds ≤ round ∨ 7 < choiceAt t round then none else t.choices[choiceAt t round]?

/-- Priority key (R337). -/
def State.travKey (s : State) (t : Traveller) : Nat × Nat × Nat :=
  ((t.srcModule + 16384 - (s.job.stepCounter + 1) % 16384) % 16384, t.token, t.r)

/-- A smaller key wins. -/
def keyLt (a b : Nat × Nat × Nat) : Bool :=
  a.1 < b.1 || (a.1 = b.1 && (a.2.1 < b.2.1 || (a.2.1 = b.2.1 && a.2.2 < b.2.2)))

/-- Insert by key. -/
def State.insertKey (s : State) {α : Type} (f : α → Traveller) (x : α) : List α → List α
  | [] => [x]
  | y :: r => if keyLt (s.travKey (f x)) (s.travKey (f y)) then x :: y :: r else y :: s.insertKey f x r

/-- Order by key. -/
def State.sortKey (s : State) {α : Type} (f : α → Traveller) (xs : List α) : List α :=
  xs.foldl (fun l x => s.insertKey f x l) []

/-- Two travellers are the same one: source module, token and r. -/
def sameTraveller (a b : Traveller) : Bool := a.srcModule = b.srcModule && a.token = b.token && a.r = b.r

/-- A dropped traveller is counted at this module (R343). -/
def State.dropTraveller (s : State) (l : Nat) : State :=
  { s.fcount .TRAVEL_COUNT_DROPPED 1 with
    stats := { s.stats with travDropped := s.stats.travDropped.put l (satAdd 0xFFFFFFFF (s.stats.travDropped.get l 0) 1) } }

/-! ### Caravans (R335, R336) -/

/-- Bytes of a caravan of `n` entries. -/
def caravanSize (n rowWords : Nat) : Nat := 64 + n * (32 + 32 * rowWords)

/-- Row length of a layer's routing in words; 0 while the module has seen no row of it. (DEDUCED, assumption 108.) -/
def TLayer.words (x : TLayer) : Nat := x.rowWords.getD 0

/-- Row length of a layer's returns: as its RETURNs and RETURN caravans give it, else that of its routing.
(DEDUCED, assumption 108.) -/
def TLayer.wordsBack (x : TLayer) : Nat := x.retWords.getD x.words

/-- A traveller in bytes (R334). -/
def travellerBytes (rowWords : Nat) (t : Traveller) : List Byte :=
  List.flatten [bytesOf 2 t.srcModule, bytesOf 2 t.srcCore, bytesOf 4 t.token, bytesOf 1 t.layer, bytesOf 1 (t.r + 4 * t.k),
    bytesOf 1 t.round, [0], bytesOf 4 t.returnRow, (padTo 8 0xFFFF t.choices).flatMap fun c => bytesOf 2 c,
    padTo (32 * rowWords) 0 t.row]

/-- Bytes that the fabric places in one of its pools in module memory (R327, R336). The manual does not say where in the
pool they lie: their place is a free value (DESIGN CHOICE, assumption 109). -/
def State.toPool (s : State) (base size : Nat) (b : List Byte) : State :=
  if size < b.length ∨ !mappedRange base size then s else
  let (i, s) := s.draw 1
  s.store (base + Config.freeNat i % (size - b.length + 1)) b

/-- An OUTBOUND caravan of this module. -/
def State.outCaravan (s : State) (l round : Nat) (fin : Bool) (es : List Traveller) : CaravanOut :=
  { last := fin, reuse := (s.tlayer l).reuse, layer := l, round := round, rowWords := (s.tlayer l).words
    step := s.job.stepCounter + 1, attempt := s.job.attempt, srcModule := s.address, entries := es }

/-- A traveller arrives at acceptance: it takes its place in the pool, if row length and room allow (R336).
(DEDUCED, assumption 49.) -/
def State.poolAdd (s : State) (l rowWords : Nat) (t : Traveller) : State :=
  let x := s.tlayer l
  if x.rowWords.isSome ∧ x.rowWords ≠ some rowWords then s.raiseIn .travelLayout none else
  let here := (x.pool.filter (·.round = t.round)).length
  if s.dval 0x6007 5 0 < (here + 1) * (32 + 32 * rowWords) then s.raiseIn .travelPoolFull none
  else (s.toPool (s.dval 0x6007 4 0) (s.dval 0x6007 5 0) (travellerBytes rowWords t)).modLayer l fun x =>
    { x with pool := x.pool ++ [t], rowWords := some rowWords }

/-- Send a traveller towards an expert: to acceptance here, or into the caravan for its module, which leaves when the
next entry would take it past 1 MiB. -/
def State.sendTraveller (s : State) (l expert : Nat) (t : Traveller) : State :=
  let e := ((s.ilayer l).experts[expert]?).getD ⟨0xFFFF, 0, []⟩
  let w := (s.tlayer l).words
  if e.owner = s.address then s.poolAdd l w t else
  let k := 16 * e.owner + t.round
  let old := (s.tlayer l).building.get k []
  if 2 ^ 20 < caravanSize (old.length + 1) w then
    (s.post e.owner (.caravanOut (s.outCaravan l t.round false old))).modLayer l fun x =>
      { x with building := x.building.put k [t] }
  else s.modLayer l fun x => { x with building := x.building.put k (old ++ [t]) }

/-! ### Acceptance (R338, R339, R234) -/

/-- Inn cores of this module in a layer. -/
def State.innCores (s : State) (l : Nat) : List Nat :=
  ((s.ilayer l).experts.filter fun e => e.owner = s.address).flatMap Expert.cores

/-- This module's decisions of a round (R338): the accepted travellers by expert, and the refused ones. -/
def State.decideRound (s : State) (l j : Nat) : List Accepted × List Traveller :=
  let x := s.tlayer l
  let il := s.ilayer l
  let now := x.pool.filter (·.round = j)
  (il.experts.zipIdx.filter fun e => e.1.owner = s.address).foldl (fun (acc : List Accepted × List Traveller) e =>
    let mine := s.sortKey id (now.filter fun t => expertAt t il.rounds j = some e.2)
    let room := e.1.cores.length * e.1.capacity - (x.accepted.filter (·.expert = e.2)).length
    (acc.1 ++ (mine.take room).map fun t => { t := t, expert := e.2, live := some t }, acc.2 ++ mine.drop room)) ([], [])

/-- Copies and slots by rank (R339). -/
def State.assignSlots (s : State) (l : Nat) (as : List Accepted) : List Accepted :=
  (s.ilayer l).experts.zipIdx.flatMap fun e =>
    (s.sortKey Accepted.t (as.filter (·.expert = e.2))).zipIdx.map fun a =>
      let c := max 1 e.1.cores.length
      { a.1 with copy := a.2 % c, slot := a.2 / c }

/-- Write one inn core's arrival half and signal it (R234): zero bytes in every slot up to the capacity that holds no
traveller; a slot beyond the half raises TRAVEL_LAYOUT (R339). While no row of the layer is known, the whole half is zero.
(DEDUCED, assumption 108.) -/
def State.writeInn (s : State) (l expert copy core capacity : Nat) : State :=
  match (s.core core).hdr with
  | none => s
  | some h =>
    let x := s.tlayer l
    let w := 32 * x.words
    let base := h.innBase + l % 2 * h.innHalf
    let rows := x.accepted.filterMap fun a =>
      if a.expert = expert ∧ a.copy = copy then a.live.map fun t => (a.slot, t.row) else none
    let s := if h.innHalf < capacity * w then s.raiseIn .travelLayout none else s
    let s := s.writeMem base (List.replicate (if w = 0 then h.innHalf else min h.innHalf (capacity * w)) 0) none
    let s := rows.foldl (fun s r => if h.innHalf < (r.1 + 1) * w then s
      else s.writeMem (base + r.1 * w) (padTo w 0 r.2) none) s
    if h.innToken = 255 then s else s.signalCore core h.innToken 1

/-- Acceptance is final: every inn core's arrival half is written. -/
def State.writeInns (s : State) (l : Nat) : State :=
  ((s.ilayer l).experts.zipIdx.filter fun e => e.1.owner = s.address).foldl (fun s e =>
    e.1.cores.zipIdx.foldl (fun s c => s.writeInn l e.2 c.2 c.1 e.1.capacity) s) s

/-! ### Returns (R235, R341, R342) -/

/-- Write a return row at its source core (R235). -/
def State.writeReturn (s : State) (core l row : Nat) (data : List Byte) : State :=
  match (s.core core).hdr with
  | none => s
  | some h => s.writeMem (h.returnBase + l % 2 * h.returnHalf + row * data.length) data none

/-- A byte of the served map (R342). -/
def State.writeServed (s : State) (core l row v : Nat) : State :=
  match (s.core core).hdr with
  | none => s
  | some h => s.writeMem (h.returnBase + 2 * h.returnHalf + 65536 * (l % 2) + row) (bytesOf 1 v) none

/-- A return row reaches its source. -/
def State.takeReturn (s : State) (r : ReturnRow) : State :=
  (s.writeReturn r.srcCore r.layer r.returnRow r.row).modLayer r.layer fun x => { x with
    sent := x.sent.map fun q => if q.t.srcCore = r.srcCore ∧ q.t.returnRow = r.returnRow
      then { q with served := some r.choice } else q }

/-- Every return is back (R341): zero rows, the served map, and ReturnToken on each core that issued a ROUTE. -/
def State.returnsDone (s : State) (l : Nat) : State :=
  let x := s.tlayer l
  if x.returned || !x.isFinal || !(s.ilayer l).members.all (· ∈ x.retEnds) then s else
  let s := x.sent.foldl (fun s q =>
    match q.served with
    | some c => s.writeServed q.t.srcCore l q.t.returnRow c
    | none => (s.writeReturn q.t.srcCore l q.t.returnRow (List.replicate (32 * x.wordsBack) 0)).writeServed q.t.srcCore l
        q.t.returnRow 0xFF) s
  let s := s.modLayer l fun x => { x with returned := true, history := if x.reuse then x.history else x.sent }
  x.routers.foldl (fun s c => match (s.core c).hdr with
    | some h => if h.returnToken = 255 then s else s.signalCore c h.returnToken 1
    | none => s) s

/-- A RETURN caravan of this module: its row length is that of the RETURNs (R235, R335). -/
def State.retCaravan (s : State) (l : Nat) (fin : Bool) (es : List ReturnRow) : CaravanRet :=
  { last := fin, layer := l, step := s.job.stepCounter + 1, attempt := s.job.attempt, srcModule := s.address, entries := es
    rowWords := match es with | r :: _ => r.row.length / 32 | [] => (s.tlayer l).wordsBack }

/-- Every inn core of the module has flushed its returns: END return caravans to the set (R341). -/
def State.endReturns (s : State) (l : Nat) : State :=
  let x := s.tlayer l
  if !x.isFinal || s.address ∈ x.retEnds || !(s.innCores l).all (· ∈ x.innFlush) then s else
  let s := ((s.ilayer l).members.filter (· ≠ s.address)).foldl (fun s m =>
    s.post m (.caravanRet (s.retCaravan l true (x.retBuilding.get m [])))) s
  (s.modLayer l fun x => { x with retBuilding := [], retEnds := s.address :: x.retEnds }).returnsDone l

/-! ### Rounds (R338, R340) -/

/-- End marks of a round: the caravans being built leave, with END to every member of the set. -/
def State.endRound (s : State) (l j : Nat) : State :=
  let x := s.tlayer l
  let ms := (s.ilayer l).members.filter (· ≠ s.address)
  let s := ms.foldl (fun s m => s.post m (.caravanOut (s.outCaravan l j true (x.building.get (16 * m + j) [])))) s
  let s := (x.building.filter fun b => b.1 % 16 = j && !(ms.contains (b.1 / 16))).foldl (fun s b =>
    s.post (b.1 / 16) (.caravanOut (s.outCaravan l j false b.2))) s
  s.modLayer l fun x => { x with
    building := x.building.filter fun b => b.1 % 16 ≠ j, ended := true, ends := (j, s.address) :: x.ends }

/-- Finality of rounds, from the current one on (R338): at most `fuel` rounds become final. -/
def State.finalRounds (l : Nat) : Nat → State → State
  | 0, s => s
  | fuel + 1, s =>
    let x := s.tlayer l
    let il := s.ilayer l
    if x.isFinal || !x.ended || !il.members.all (fun m => (x.round, m) ∈ x.ends) then s else
    if x.reuse then
      let s := s.modLayer l fun x => { x with
        isFinal := true, pool := []
        accepted := x.accepted.map fun a => { a with live := x.pool.find? (sameTraveller a.t) } }
      (s.writeInns l).endReturns l
    else
      let (acc, ref) := s.decideRound l x.round
      let s := { s with stats := { s.stats with
        travAccepted := s.stats.travAccepted.put l (satAdd 0xFFFFFFFF (s.stats.travAccepted.get l 0) acc.length)
        travRefused := s.stats.travRefused.put l (satAdd 0xFFFFFFFF (s.stats.travRefused.get l 0) ref.length) } }
      let j := x.round + 1
      let s := s.modLayer l fun x => { x with
        pool := x.pool.filter (·.round ≠ x.round), accepted := x.accepted ++ acc, round := j, ended := false }
      let s := ref.foldl (fun s t => match expertAt t il.rounds j with
        | some e => s.sendTraveller l e { t with round := j }
        | none => s.dropTraveller l) s
      if il.rounds ≤ j then
        let s := s.modLayer l fun x => { x with isFinal := true, accepted := s.assignSlots l x.accepted }
        (s.writeInns l).endReturns l
      else State.finalRounds l fuel (s.endRound l j)

/-- Take a caravan into the routing in progress, or hold it for the layer's next one (R340). -/
def State.takeCaravan (s : State) (c : CaravanOut) : State :=
  let l := c.layer
  let x := s.tlayer l
  if c.reuse ≠ x.reuse ∨ x.isFinal then s.modLayer l fun x => { x with early := x.early ++ [c] } else
  let s := if x.rowWords = none ∧ c.rowWords ≠ 0 then s.modLayer l fun x => { x with rowWords := some c.rowWords } else s
  let s := c.entries.foldl (fun s t => s.poolAdd l c.rowWords { t with round := c.round }) s
  let s := if c.last then s.modLayer l fun x => { x with ends := (c.round, c.srcModule) :: x.ends } else s
  State.finalRounds l 9 s

/-- A later routing of a layer begins (R340): acceptance and the first routing's travellers are kept. -/
def State.startReuse (s : State) (l : Nat) : State :=
  let x := s.tlayer l
  let s := s.modLayer l fun x => { x with
    reuse := true, flushes := 0, round := 0, ended := false, isFinal := false, pool := [], ends := [], sent := [], routers := []
    early := [], retBuilding := [], retWords := none, innFlush := [], retEnds := [], returned := false
    accepted := x.accepted.map fun a => { a with live := none } }
  x.early.foldl (fun s c => s.takeCaravan c) s

/-- Travellers of a ROUTE (R233, R334). -/
def State.travellers (s : State) (core : Nat) (f : RouteF) : List Traveller :=
  let l := (s.core core).larder
  let w := 32 * (f.roww + 1)
  let n := (s.ilayer f.layer).experts.length
  (List.range (f.ntok + 1)).flatMap fun i =>
    let cs := readChoices l (f.choices + 32 * i) n
    let row := l.readBytes (f.rows + w * i) w
    (List.range (f.k + 1)).map fun r =>
      { srcModule := s.address, srcCore := core, token := f.tokbase + i, layer := f.layer, r := r, k := f.k, round := 0
        returnRow := f.retrow + (f.k + 1) * i + r, choices := cs, row := row }

/-- The hub die takes a ROUTE's travellers (R233, R338, R340). -/
def State.handRoute (s : State) (core : Nat) (f : RouteF) : State :=
  let l := f.layer
  let s := if (s.tlayer l).isFinal then s.startReuse l else s
  let s := s.modLayer l fun x => { x with
    rowWords := some (x.rowWords.getD (f.roww + 1)), routers := if core ∈ x.routers then x.routers else x.routers ++ [core] }
  let s := if (s.tlayer l).rowWords = some (f.roww + 1) then s else s.raiseIn .travelLayout none
  let s := (s.travellers core f).foldl (fun s t =>
    if (s.tlayer l).reuse then
      let old := (s.tlayer l).history.find? fun q => q.t.token = t.token ∧ q.t.r = t.r
      let cs := match old with | some q => q.t.choices | none => []
      let s := s.modLayer l fun x => { x with sent := x.sent ++ [{ t := { t with choices := cs } }] }
      match old.bind SentT.served with
      | some c => match cs[c]? with
        | some e => s.sendTraveller l e { t with choices := cs }
        | none => s
      | none => s
    else
      let s := s.modLayer l fun x => { x with sent := x.sent ++ [{ t := t }] }
      match expertAt t (s.ilayer l).rounds 0 with
      | some e => { s.sendTraveller l e t with stats := { s.stats with
          travSent := s.stats.travSent.put l (satAdd 0xFFFFFFFF (s.stats.travSent.get l 0) 1) } }
      | none => s.dropTraveller l) s
  if !f.flush then s else
  let s := s.modLayer l fun x => { x with flushes := x.flushes + 1 }
  if (s.tlayer l).flushes = s.plan.routingCores then State.finalRounds l 9 (s.endRound l 0) else s

/-- A ROUTE may be taken: the layer's first routing is still open, or every return of the previous one is back. -/
def State.routeReady (s : State) (l : Nat) : Bool := !(s.tlayer l).isFinal || (s.tlayer l).returned

/-- A module none of whose cores routes (RoutingCores 0) has sent all its travellers at once: its END marks of round 0
leave without a ROUTE (R338). (DEDUCED, assumption 83.) -/
def State.openRounds (s : State) : State :=
  if s.plan.routingCores ≠ 0 ∨ !s.itin.loaded then s else
  (List.range s.itin.layers.length).foldl (fun s l =>
    if (s.ilayer l).experts = [] then s else State.finalRounds l 9 (s.endRound l 0)) s

/-- Such a module joins a later routing of a layer when a REUSE caravan of it waits and its returns are back (R340). -/
def State.joinReuse (s : State) (l : Nat) : State :=
  let x := s.tlayer l
  if s.plan.routingCores = 0 ∧ x.isFinal ∧ x.returned ∧ x.early.any (·.reuse) then
    State.finalRounds l 9 ((s.startReuse l).endRound l 0)
  else s

/-- Take the ROUTEs that waited for a layer's returns, in core order (R340). -/
def State.takeWaiting (s : State) (l : Nat) : State :=
  s.planCores.foldl (fun s c =>
    (s.core c).qNet.foldl (fun s it => match it.entry with
      | .route f =>
        if f.layer = l ∧ !it.sent ∧ s.routeReady l then
          (s.modCore c fun k => { k with qNet := k.qNet.map fun x => if x.no = it.no then { x with sent := true } else x }).handRoute c f
        else s
      | _ => s) s) (s.joinReuse l)

/-- ROUTE (R233, R340, R342). -/
def execRoute (core : Nat) (c : Cmn) (f : RouteF) (s : State) : Out :=
  .next (s.issue core c (.route f) 5 fun no s =>
    let rows := f.retrow + (f.k + 1) * (f.ntok + 1)
    let w := 32 * (f.roww + 1)
    let bad : Bool := match (s.core core).hdr with
      | some h => h.returnToken = 255 || 65536 < rows || h.returnHalf < rows * w
      | none => true
    if bad then s.halt .badEntry core no
    else if f.rows % 32 ≠ 0 ∨ !inLarder f.choices (32 * (f.ntok + 1)) ∨ !inLarder f.rows (w * (f.ntok + 1)) then
      s.halt .operandAlign core no
    else
      let ready := s.routeReady f.layer
      s.startNow core 5 { no := no, entry := .route f, c := c, sent := ready } fun s =>
        if ready then (s.handRoute core f).takeWaiting f.layer else s)

/-- Expert and copy of an inn core of this module. -/
def State.innOf (s : State) (l core : Nat) : Option (Nat × Nat) :=
  (s.ilayer l).experts.zipIdx.findSome? fun e =>
    if e.1.owner = s.address then (e.1.cores.zipIdx.find? (·.1 = core)).map fun c => (e.2, c.2) else none

/-- Send a return row to its source (R341). -/
def State.sendReturn (s : State) (l dest : Nat) (r : ReturnRow) : State :=
  if dest = s.address then s.takeReturn r else
  let old := (s.tlayer l).retBuilding.get dest []
  if 2 ^ 20 < caravanSize (old.length + 1) (r.row.length / 32) ∨ old.any (fun o => o.row.length ≠ r.row.length) then
    (s.post dest (.caravanRet (s.retCaravan l false old))).modLayer l fun x => { x with retBuilding := x.retBuilding.put dest [r] }
  else s.modLayer l fun x => { x with retBuilding := x.retBuilding.put dest (old ++ [r]) }

/-- RETURN (R235, R341): rows of empty slots are not sent. -/
def execRet (core : Nat) (c : Cmn) (f : ReturnF) (s : State) : Out :=
  .next (s.issue core c (.ret f) 5 fun no s =>
    let w := 32 * (f.roww + 1)
    let a := s.effAddr f.src
    if !mappedRange a (w * (f.nslot + 1)) then s.halt .memUnmapped core no else
    s.startNow core 5 { no := no, entry := .ret f, c := c, sent := true } fun s =>
      let l := f.layer
      let s := s.modLayer l fun x => { x with retWords := some (f.roww + 1) }
      let s := match s.innOf l core with
        | none => s
        | some (e, cp) =>
          (List.range (f.nslot + 1)).foldl (fun s i =>
            match (s.tlayer l).accepted.find? fun (x : Accepted) => x.expert = e ∧ x.copy = cp ∧ x.slot = f.firstslot + i ∧ x.live.isSome with
            | none => s
            | some x =>
              let t := x.live.getD x.t
              let (row, s) := s.readMem (a + w * i) w (some core)
              s.sendReturn l t.srcModule
                { innModule := s.address, srcCore := t.srcCore, returnRow := t.returnRow, layer := l
                  choice := choiceAt x.t x.t.round, copy := cp, slot := x.slot, row := row }) s
      let s := if f.flush then s.modLayer l fun x => { x with innFlush := core :: x.innFlush } else s
      (s.endReturns l).takeWaiting l)

/-! ### Arrival of caravans (R319, R335) -/

/-- Take a caravan of the current attempt. -/
def State.acceptOut (s : State) (c : CaravanOut) : State := (s.takeCaravan c).takeWaiting c.layer

/-- Take a RETURN caravan of the current attempt. -/
def State.acceptRet (s : State) (c : CaravanRet) : State :=
  let s := if c.rowWords = 0 then s else s.modLayer c.layer fun x => { x with retWords := some c.rowWords }
  let s := c.entries.foldl (fun s r => s.takeReturn { r with layer := c.layer }) s
  let s := if c.last then s.modLayer c.layer fun x => { x with retEnds := c.srcModule :: x.retEnds } else s
  (s.returnsDone c.layer).takeWaiting c.layer

/-- A message bound to an attempt is taken, held for its attempt or discarded (R319). -/
def State.byAttempt (s : State) (src step attempt : Nat) (held : OutMsg) (take : State → State) : State :=
  if (step, attempt) = s.curKey then (if s.running then take s else s)
  else if laterKey (step, attempt) s.curKey then { s with fab := { s.fab with held := s.fab.held ++ [(src, held)] } }
  else s.stale

/-- CARAVAN_OUTBOUND (R335, R336, R338). -/
def execCaravanOutbound (c : CaravanOut) (s : State) : Out :=
  s.clocked (.caravanOutbound c) <|
  .next (s.byAttempt c.srcModule c.step c.attempt (.caravanOut c) fun s =>
    if c.checkOk then s.acceptOut c else s.raiseIn .frameLoss none)

/-- CARAVAN_RETURN (R341). -/
def execCaravanReturn (c : CaravanRet) (s : State) : Out :=
  s.clocked (.caravanReturn c) <|
  .next (s.byAttempt c.srcModule c.step c.attempt (.caravanRet c) fun s =>
    if c.checkOk then s.acceptRet c else s.raiseIn .frameLoss none)

end Sys2Proof.Machine
end

