-- ==== Sys2Proof/Machine/Commit.lean ====
section
/-! DEFINITION. Doorbells, attempts, the commit check, votes, commit, refusal, HOLD and VOTE_LOST (R25 to R27, R50 to R53,
R60, R227, R250, R259, R269 to R272, R358 to R365, R370, R371, R396 to R403, R506). -/

namespace Sys2Proof.Machine

/-! ### Host events (R412, R414) -/

/-- Vector Control of a vector in the MSI-X table: its dword 3, masked after reset (PCI Express; PRESUMED, assumption 6). -/
def State.vectorMasked (s : State) (v : Nat) : Bool := bit (s.host.msix.get (4 * v + 3) 1).toNat 0

/-- Raise a vector once (R412). A masked MSI-X vector is pending in the pending-bit array; with MSI in place of MSI-X every
source uses the one vector (DESIGN CHOICE, assumption 104). It crosses by X11 (R461). -/
def State.raiseVector (s : State) (v : Nat) : State :=
  s.event 25 1 v fun s =>
  if s.host.msi then { s with host := { s.host with vectors := s.host.vectors.modify 0 0 (· + 1) } } else
  { s with host := { s.host with
      vectors := s.host.vectors.modify v 0 (· + 1)
      pba := if s.vectorMasked v ∧ v ∉ s.host.pba then v :: s.host.pba else s.host.pba } }

/-- A HOST_EVENT bit whose mask bit is set stands. -/
def State.eventOn (s : State) : Bool := s.rword .host 0 0x10 &&& s.rword .host 0 0x14 ≠ 0

/-- Vector 0 is raised on the rising edge of its condition. -/
def State.withEvents (s : State) (f : State → State) : State :=
  let t := f s
  if !s.eventOn && t.eventOn then t.raiseVector 0 else t

/-- Set a bit of HOST_EVENT. -/
def State.hostEvent (s : State) (f : Fld) : State := s.withEvents fun s => s.fset f 1

/-- HOST_STATUS follows the state of the step. -/
def State.syncHost (s : State) : State :=
  ((s.fset .HOST_STATUS_STEP_STATE (s.fget .RECOVERY_STATUS_STATE)).fset .HOST_STATUS_LATCHED
    (b2n s.job.doorbell.isSome)).fset .HOST_STATUS_IN_PROGRESS (b2n s.job.current.isSome)

/-- Set the state of RECOVERY_STATUS and the phase of COMMIT_STATUS. -/
def State.stepState (s : State) (st ph : Nat) : State :=
  ((s.fset .RECOVERY_STATUS_STATE st).fset .COMMIT_STATUS_PHASE ph).syncHost

/-- The attempt number, and ATTEMPT of COMMIT_STATUS with it. -/
def State.setAttempt (s : State) (n : Nat) : State :=
  { s.fset .COMMIT_STATUS_ATTEMPT n with job := { s.job with attempt := n } }

/-- The link IDE stream; the selective one is stream 1 (R390; DESIGN CHOICE, assumption 74). -/
def linkStream : Nat := 0

/-- A host access to a BAR: in D3hot it completes as an Unsupported Request (R413); while the link IDE stream is out of the
secure state it is dropped (R393). (DESIGN CHOICE, assumption 74.) -/
def State.hostAccess (s : State) (f : State → State) : State :=
  if linkStream ∈ s.host.insecure then s
  else if s.host.d3 then { s with unsupported := true } else f { s with unsupported := false }

/-! ### Doorbells (R396 to R399) -/

/-- A doorbell is refused for a reason of R399. -/
def State.refuseDoorbell (s : State) (reason : Nat) : State :=
  (s.fset .DOORBELL_STATUS_REFUSE_REASON reason).hostEvent .HOST_EVENT_DB_REFUSED

/-- Nothing stays latched. -/
def State.dropDoorbell (s : State) : State :=
  { s with job := { s.job with doorbell := none, protNext := none } }.syncHost

/-- Target and slot of a doorbell word (R414). -/
def dbTarget (v : Word) : Nat := bits v.toNat 0 24
def dbSlot (v : Word) : Nat := bits v.toNat 24 1

/-- Base of a batch slot as the dictionary has it. -/
def State.slotBase (s : State) (slot : Nat) : Nat := s.dval 0x3300 (slot + 1) 0

/-- The step number that a doorbell must ask for (R398). -/
def State.expectedStep (s : State) : Nat := (s.job.current.getD s.job.stepCounter) + 1

/-- STEP_DOORBELL (R398): a duplicate, a doorbell that is latched, or a refusal. In VOTE_LOST it is due at once (R399). -/
def State.ring (s : State) (v : Word) : State :=
  let t := dbTarget v
  let dup : Bool := (match s.job.current with | some c => decide (c % 2 ^ 24 = t) | none => false) ||
    (match s.job.doorbell with | some d => dbTarget d = t | none => false)
  if dup then s.fcount .HOST_COUNT_DB_DUPLICATES 1
  else if s.expectedStep % 2 ^ 24 = t ∧ s.job.doorbell.isNone then
    let s := s.fset .DOORBELL_STATUS_LAST_TARGET t
    let s := { s with job := { s.job with
      doorbell := some v, protNext := some (s.slotBase (dbSlot v), s.dval 0x3300 3 0) } }.syncHost
    if s.fget .RECOVERY_STATUS_STATE = 3 then (s.dropDoorbell).refuseDoorbell 6 else s
  else s.refuseDoorbell 1

/-- STEP_DOORBELL (R398). -/
def execStepDoorbell (v : Word) (s : State) : Out :=
  s.clocked (.stepDoorbell v) <|
  .next (s.hostAccess fun s => s.ring v)

/-- Entries of the completion table (R269). -/
def State.completionTable (s : State) : List (List Byte) := s.records (s.dval 0x2303 1 0) 16 (s.dval 0x2303 2 0)

/-- A completion entry that R269 refuses. -/
def State.completionBad (s : State) (b : List Byte) : Bool :=
  let first := fieldAt b 8 4
  let count := fieldAt b 12 4
  4095 < fieldAt b 2 2 || 63 < fieldAt b 4 1 || !zeroAt b 5 3 || count = 0 ||
  (match s.ledger.tensors.find? fun t => t.id = fieldAt b 0 2 with
   | some t => t.isStatic || decide (t.blocks < first + count)
   | none => true)

/-- A ring of the reduction plan is missing or has another number of members (R330). -/
def State.ringBad (s : State) : Bool :=
  s.exch.groups.any fun g => (List.range g.ringCount).any fun i =>
    match s.rings.rings[g.firstRing + i]? with
    | some r => r.members.length ≠ g.members
    | none => true

/-- What stands against a due doorbell: the reason of R399, the lowest first, and the codes it raises.
(DEDUCED, assumption 47.) -/
def State.doorbellFault (s : State) (v : Word) : Option (Nat × List Code) :=
  let hold : Bool := s.fget .RECOVERY_STATUS_STATE = 2
  let notReady : Bool := !s.fon .HOST_STATUS_READY || !s.plan.loaded || !s.exch.loaded || !s.ledger.loaded
    || s.address = 0xFFFF || s.slotBase (dbSlot v) = 0 || s.dval 0x3300 3 0 = 0 || (hold && s.job.attempt = 65535)
  let layout : List Code := (if s.exch.blocks ≠ exchangeBlocks s.ledger.tensors then [.reduceLayout] else [])
    ++ (if s.ringBad then [.ringLayout] else [])
  let pool : List Code :=
    (if s.dval 0x2302 1 0 = 1 ∧ s.dval 0x2300 8 0 < 129 * exchangeBlocks s.ledger.tensors then [.holdSmall] else [])
    ++ (if s.dval 0x6008 2 0 < 2 ^ 26 then [.rxPoolSmall] else [])
  if dbTarget v ≠ (s.job.stepCounter + 1) % 2 ^ 24 then some (1, [])
  else if notReady then some (2, [])
  else if layout ≠ [] then some (3, layout)
  else if pool ≠ [] then some (4, pool)
  else if !mappedRange (s.dval 0x2303 1 0) (16 * s.dval 0x2303 2 0) || s.completionTable.any s.completionBad then
    some (5, [.badCompletion])
  else none

/-- Set the status bit of a code of class S and count it. -/
def State.raiseS (s : State) (c : Code) : State := (s.setCodeBit c none).countCode c

/-- A latched doorbell must wait (R26, R313, R371, R399): a step is in progress, a load or a section runs, a spare request, the
retraining of a substituted lane or a retirement is under way. -/
def State.doorbellWaits (s : State) : Bool :=
  s.job.current.isSome || !s.job.epilogue.isEmpty || s.loadPending || !s.fab.spareReq.isEmpty || !s.fab.retraining.isEmpty
    || !s.phys.retiring.isEmpty

/-- Latch controls, batch slot, marks and rates (R53, R259, R289, R354, R396, R417). -/
def State.latchControls (s : State) (v : Word) : State :=
  let hold : Bool := s.fget .RECOVERY_STATUS_STATE = 2
  let slot := dbSlot v
  let size := s.dval 0x3300 3 0
  let base := s.slotBase slot
  let att := if hold then max (s.job.attempt + 1) (s.dval 0x3200 3 0) else s.job.attempt
  let s := { s with
    job := { s.job with
      doorbell := none, slot := slot, protNow := some (base, size), protNext := none, batchBase := base
      host := { base0 := s.dval 0x3300 1 0, base1 := s.dval 0x3300 2 0, size := size, stage := s.dval 0x3300 4 0
                mirror := s.dval 0x3300 5 0 }
      controls := s.currentControls
      ageLatched := s.job.ageReset || (hold && s.job.ageLatched), ageReset := false
      coldAll := s.job.coldAllPending, coldAllPending := false, coldMarks := s.plan.cold
      watchRate := s.dval 0x5000 1 6, current := some (s.job.stepCounter + 1) }
    exch := { s.exch with resetAll := s.exch.resetDue || (hold && s.exch.resetAll), resetDue := false, rate := s.dval 0x2401 1 8 }
    upd := { s.upd with completions := s.completionTable.map fun b =>
      (fieldAt b 0 2, fieldAt b 2 2, fieldAt b 4 1, fieldAt b 8 4, fieldAt b 12 4) } }
  (s.setAttempt att).fset .RECOVERY_STATUS_REFUSALS 0

/-! ### The start of an attempt (R227, R289) -/

/-- The committed exchange history is cold (R289). -/
def State.historyCold (s : State) : Bool :=
  let h := s.load (s.committed + s.ledger.exHistOff) 16
  bit (fieldAt h 6 1) 0 || fieldAt h 8 8 ≠ s.exch.blocks || s.exch.coldLoad || s.exch.resetAll

/-- Everything of a core that an attempt starts afresh. (DEDUCED, assumption 46.) -/
def Core.fresh (k : Core) : Core :=
  { k.idle with
    ga0 := {}, ga1 := {}, stash := [], cellarUsed := 0, chunks := [], chunkUsed := 0, skipped := 0, olists := [], slots := []
    nwTile := 0, faulted := false, watchFound := false
    arrays := k.arrays.map fun x => (x.1, { x.2 with waiting := [], slotNo := 0 }) }

/-- Registers that an attempt's start puts to their reset values: token counters, anchors, VSTAT, SEQ_ENTRY,
SEQ_FAULT_ENTRY, CELLAR_USE (R227, R240). -/
def attemptReg (key : Nat) : Bool :=
  let sec := key / 65536 / 4096
  let off := key % 65536
  (sec = secNo .seq && (off = 4 || off = 8 || off = 0x10 || (0x100 ≤ off && off < 0x200)))
  || (sec = secNo .engine && 0x100 ≤ off && off < 0x180) || (sec = secNo .vector && off = 0)

/-- Start one core's main section (R227). -/
def State.startCore (s : State) (c : Nat) : State :=
  let s := s.modCore c Core.fresh
  let s := (s.fset .SEQ_STATUS_STATE 1 c).fset .SEQ_STATUS_WAITING 0 c
  let s := ((s.fset .ENGINE_STATUS_BUSY 0 c).fset .ENGINE_STATUS_HALTED 0 c).fset .ENGINE_STATUS_FIXUP_LEVEL 0 c
  let s := (s.fset .GLACIER_STATUS_STATE 0 c 0).fset .GLACIER_STATUS_STATE 0 c 1
  ((s.fset .WATCH_STATUS_WORST 0 c).fset .WATCH_STATUS_LEVEL 0 c).fset .WATCH_STATUS_BUSY 0 c

/-- The update engines, the hold area and the exchange at an attempt's start (R227, R251, R283, R306). -/
def State.startHub (s : State) : State :=
  let u := s.upd
  let x := s.exch
  let s := { s with
    upd := { u with
      engines := u.engines.map fun (e : Nat × Eng) => (e.1, { e.2 with v := [], blk := none, stored := [] })
      final := [], held := 0, heldNext := 0, heldSkew := [], normSum := 0, normSent := false, stats := [], mapClear := false
      written := 0, signalled := [], nonZeroLayers := [], seenLayers := [] }
    exch := { x with
      ready := [], started := false, stopped := false, bucks := [], nfinal := 0, recross := 0, seconds := 0, shadows := 0
      zeroed := 0, tagged := 0 }
    trav := [], fab := { s.fab with ups := [] } }
  let s := ((s.fset .EXCH_STATUS_PHASE 1).fset .EXCH_STATUS_READY_CORES 0).fset .EXCH_PROGRESS_BUCKETS_FINAL 0
  let s := s.raiseBad (s.badIn (s.committed + s.ledger.exHistOff) 16) none
  s.fset .EXCH_STATUS_COLD (b2n s.historyCold)

/-- Take a message that was held for the attempt (R319). -/
def State.takeHeldMsg (s : State) (m : OutMsg) : State :=
  match m with
  | .data core m => if m.isSignal then s.arrive core m else s.arrive core m
  | .caravanOut c => if c.checkOk then s.acceptOut c else s.raiseIn .frameLoss none
  | .caravanRet c => if c.checkOk then s.acceptRet c else s.raiseIn .frameLoss none
  | _ => s

/-- Attempt of a held message. -/
def heldKey : OutMsg → Nat × Nat
  | .data _ m => (m.step, m.attempt)
  | .caravanOut c => (c.step, c.attempt)
  | .caravanRet c => (c.step, c.attempt)
  | _ => (0, 0)

/-- Messages held for this attempt are taken, those of earlier ones discarded (R319). -/
def State.takeHeldMsgs (s : State) : State :=
  let ms := s.fab.held
  let s := { s with fab := { s.fab with held := [] } }
  ms.foldl (fun s m =>
    if heldKey m.2 = s.curKey then s.takeHeldMsg m.2
    else if laterKey (heldKey m.2) s.curKey then { s with fab := { s.fab with held := s.fab.held ++ [m] } }
    else s.stale) s

/-- An attempt starts (R25, R227, R358): every core at entry 0, the checks of the attempt clear but for what an epilogue or
restore section raised (R506), the write map cleared at a replay's start (R271). -/
def State.beginAttempt (s : State) : State :=
  let n := s.job.stepCounter + 1
  let s := { s with
    regs := s.regs.filter fun r => !attemptReg r.1
    stats := {}
    faults := { s.faults with raised := s.faults.next, next := [], recorded := (s.faults.next.map Prod.fst).take 16 }
    job := { s.job with
      curStep := n, curAttempt := s.job.attempt, reported := [], stopped := false, exchTimedOut := false, voteOwn := none, voteSent := false
      normLost := false, clipFactor := 0x3F800000, gradNorm := 0, clipKnown := false, digest := 0, holdAfterVote := false
      toHold := false, afterCommit := false, epilogue := [], replayDue := false
      ups := s.job.ups.filter fun u => !laterKey (n, s.job.attempt) (u.2.2.step, u.2.2.attempt) } }
  let s := (s.stepState 1 1).fset .RECOVERY_STATUS_EARLY_STOP 0
  let s : State := (s.planCores.foldl (fun (s : State) c => s.startCore c) s).startHub
  let s : State := if s.job.attempt = 0 then s else s.clearMap
  ((s.openRounds).takeEarly).takeHeldMsgs

/-! ### Retirement (R370 to R372) -/

/-- The column's spare row is free: it has neither failed nor been retired. -/
def State.spareFree (s : State) (col : Nat) : Bool := (col, s.phys.spareRow.get col 32) ∉ s.phys.lostColumns

/-- RETIRE_PENDING shows whether a mark stands. -/
def State.syncRetire (s : State) : State :=
  s.fset .RECOVERY_STATUS_RETIRE_PENDING (b2n (!(s.phys.pendingCores.isEmpty && s.phys.pendingEngines.isEmpty)))

/-- A moved core's banks are rewritten from the images they last loaded, and its larder reads as zero (R371). A FAILED
bank has no recorded address: its image is the one its slots are computed from (R87).
(DESIGN CHOICE, assumption 2.) -/
def State.rewriteBanks (s : State) (c : Nat) : State :=
  s.modCore c fun k => { k with
    larder := [], origin := []
    arrays := k.arrays.map fun x => match x.2.recorded.or (if s.bankState c x.1 = 4 then some x.2.img else none) with
      | some i => (x.1, { x.2 with waiting := [{ img := i, tag := x.2.lastTag, entryNo := 0xFFFFFFFF, restore := true }] })
      | none => x }

/-- Retire one core (R370, R371); without a free spare AGEING_NO_SPARE widens the die's guardband. (DEDUCED, assumption 77.) -/
def State.retireCore (s : State) (c : Nat) : State :=
  let col := c / 32
  let row := s.physRow c
  if !s.spareFree col then
    let s := s.statusRecord .ageingNoSpare (s.locCore c 0x3F) (s.rword .recovery 0 0)
    { s with phys := { s.phys with guardband := s.phys.guardband ++ [c / 1024] } }
  else
    let cores := (List.range 32).map (· + 32 * col)
    let before := cores.map s.physRow
    let s := { s with phys := { s.phys with
      spareRow := s.phys.spareRow.put col row, aged := s.phys.aged ++ [(c / 1024, col % 32, row)]
      lostColumns := s.phys.lostColumns ++ [(col, row)] } }
    let s := (s.countCode .retirePending).logWrite recRetire 5 Code.retirePending.number (s.locCore c 0x3F)
      (s.rword .recovery 0 0) 0xFFFFFFFF (bytesOf 4 row)
    let moved := ((cores.zip before).filter fun x => s.physRow x.1 ≠ x.2).map (·.1)
    moved.foldl (fun s m => { s.rewriteBanks m with phys := { s.phys with retiring := s.phys.retiring ++ [m] } }) s

/-- Retire one update engine to the spare engine (R372). (DEDUCED, assumption 78.) -/
def State.retireEngine (s : State) (e : Nat) : State :=
  match (List.range 33).find? fun k => s.fget .UPD_STATUS_STATE 0 k = 2 with
  | none => { s.statusRecord .ageingNoSpare (locHub e) (s.rword .recovery 0 0) with
      phys := { s.phys with guardband := s.phys.guardband ++ [4] } }
  | some k =>
    let s := (s.fset .UPD_STATUS_STATE 3 0 e).fset .UPD_STATUS_STATE 0 0 k
    let s := { s with phys := { s.phys with agedEngines := s.phys.agedEngines ++ [e] } }
    (s.countCode .retirePending).logWrite recRetire 5 Code.retirePending.number (locHub e) (s.rword .recovery 0 0) 0xFFFFFFFF

/-- Every mark takes effect (R370). -/
def State.retire (s : State) : State :=
  let cs := s.phys.pendingCores
  let es := s.phys.pendingEngines
  let s := { s with phys := { s.phys with pendingCores := [], pendingEngines := [] } }
  (es.foldl (fun s e => s.retireEngine e) (cs.foldl (fun s c => s.retireCore c) s)).syncRetire

/-- A mark stands. -/
def State.retireDue (s : State) : Bool := !(s.phys.pendingCores.isEmpty && s.phys.pendingEngines.isEmpty)

/-- Bank rewrites of a retirement are under way (R371). -/
def State.rewriting (s : State) : Bool :=
  s.phys.retiring.any fun c => (s.core c).arrays.any fun x => x.2.job.isSome || !x.2.waiting.isEmpty

/-- Start an attempt, after the retirements that wait for this moment (R370, R371). -/
def State.startOrRetire (s : State) : State :=
  let s := s.retire
  if s.rewriting then (s.stepState 1 6) else { s with phys := { s.phys with retiring := [] } }.beginAttempt

/-- DOORBELL_START (R26, R362, R396 to R399): the latched doorbell is due and starts an attempt or is refused. -/
def State.doorbellStart (s : State) : State :=
  match s.job.doorbell with
  | none => s
  | some v =>
    if s.doorbellWaits then s else
    match s.doorbellFault v with
    | some (r, cs) => ((cs.foldl (fun s c => s.raiseS c) s).dropDoorbell).refuseDoorbell r
    | none =>
      let first : Bool := s.ledger.firstDoorbell || s.fget .RECOVERY_STATUS_STATE = 2
      let s := s.latchControls v
      let s := { s with ledger := { s.ledger with firstDoorbell := false } }
      if first then s.startOrRetire else s.beginAttempt

/-- DOORBELL_START (R399). -/
def execDoorbellStart (s : State) : Out :=
  s.clocked .doorbellStart <|
  .next s.doorbellStart

/-! ### Scale history (R49 to R52) -/

/-- Slots of a module (R48). -/
def slotCount : Nat := 2 ^ 20

/-- Accumulators of a slot over the module's cores (R50). -/
def State.slotAcc (s : State) (slot : Nat) : Option SlotAcc :=
  s.cores.foldl (fun (o : Option SlotAcc) c => match c.2.slots.find? slot with
    | none => o
    | some a => some ((o.getD {}).count a.fmt a.peak a.sat a.zero)) none

/-- The record that follows `old` (R49, R50), with h and m of R65. -/
def nextRecord (h m : Nat) (cold : Bool) (acc : Option SlotAcc) (old : List Byte) : List Byte :=
  let a := acc.getD {}
  let fmt := match acc with | some a => a.fmt | none => fieldAt old 1 1 % 16
  let top : Int := match Fmt.ofCode fmt with | some f => f.top | none => 0
  let scale := fieldAt old 0 1
  let pos := fieldAt old 2 1 % 16
  let base : Option Nat := a.peak.map fun p => (max 0 (min 254 (127 + p - top + (m : Int)))).toNat
  let need : Option Nat := if cold ∨ a.sat = 0 then base else
    let k := min (scale + 1) 254
    some (match base with | some n => max n k | none => k)
  let ring := setAt (padTo 16 0 ((old.drop 4).take 16)) pos (BitVec.ofNat 8 (need.getD 255))
  let recent := (List.range h).filterMap fun k =>
    let v := fieldAt ring ((pos + 16 - k % 16) % 16) 1
    if v = 255 then none else some v
  let new := match recent with
    | [] => if cold then 127 else scale
    | v :: r => let t := r.foldl max v; if cold then t else max t (scale - 1)
  let peak := match a.peak with | some p => wrap 16 p | none => 0x8000
  List.flatten [bytesOf 1 new, bytesOf 1 fmt, bytesOf 1 ((pos + 1) % 16), bytesOf 1 (b2n (0 < a.sat) + 2 * b2n cold), ring,
    bytesOf 2 peak, [0, 0], bytesOf 4 a.sat, bytesOf 4 a.zero]

/-- The slot is cold in this attempt (R53). -/
def State.slotCold (s : State) (slot : Nat) : Bool := (s.slotScale slot).isNone

/-- The records of the uncommitted page are built before the commit check (R50), and the counts enter the layers' (R66). -/
def State.buildScales (s : State) : State :=
  let h := s.dval 0x4000 1 8
  let m := s.dval 0x4000 2 0
  (List.range slotCount).foldl (fun s slot =>
    let cold := s.slotCold slot
    let acc := s.slotAcc slot
    let (old, s) := s.hubRead (s.committed + s.ledger.histOff + 32 * slot) 32
    let s := s.pageWrite (s.ledger.histOff + 32 * slot) (nextRecord h m cold acc old)
    match acc with
    | none => s
    | some a =>
      let l := Config.layerOfSlot slot
      { s with stats := { s.stats with
          sat := layerCount s.stats.sat l a.sat, zero := layerCount s.stats.zero l a.zero
          cold := if cold ∧ l ∉ s.stats.cold then l :: s.stats.cold else s.stats.cold } }) s

/-! ### Commit (R270) -/

/-- Header of the page that an attempt produced (R244, R270), its check value last. -/
def State.writePageHeader (s : State) : State :=
  let l := s.ledger
  let shift (g : Nat) : List Byte :=
    if (s.group g).program = 0 then s.load (s.committed + 64 + g) 1 else bytesOf 1 (wrap 8 (s.group g).r)
  let h := List.flatten [bytesOf 4 0x74740010, bytesOf 2 1, bytesOf 1 (1 - l.page), [1], bytesOf 8 (s.job.stepCounter + 1),
    bytesOf 2 s.job.attempt, bytesOf 2 l.tensors.length, bytesOf 4 0, bytesOf 8 l.tableOff, bytesOf 8 l.histOff,
    bytesOf 8 l.exHistOff, bytesOf 8 l.wmapOff, bytesOf 4 s.job.clipFactor, bytesOf 4 s.job.digest,
    (List.range 64).flatMap shift]
  let s := s.pageWrite l.exHistOff (List.flatten [bytesOf 4 0x74740012, bytesOf 2 1, [0, 0], bytesOf 8 s.exch.blocks,
    List.replicate 48 0])
  let s := (s.pageWrite 0 h).pageWrite 132 (List.replicate 124 0)
  s.pageWrite 128 (bytesOf 4 (crc c32 h))

/-- The dormant watch at a commit (R60). A DormantSteps of 0 switches it off and clears every run and bit (R61). -/
def State.watchDormant (s : State) : State :=
  let n := s.dval 0x4001 1 256
  if n = 0 then { s with upd := { s.upd with dormant := [], dormantBits := [] } } else
  s.upd.seenLayers.foldl (fun s l =>
    if l ∈ s.upd.nonZeroLayers then
      { s with upd := { s.upd with dormant := s.upd.dormant.put l 0, dormantBits := s.upd.dormantBits.filter (· ≠ l) } }
    else
      let r := satAdd 65535 (s.upd.dormant.get l 0) 1
      let s := { s with upd := { s.upd with dormant := s.upd.dormant.put l r } }
      if n ≤ r ∧ l ∉ s.upd.dormantBits then
        let s := { s with upd := { s.upd with dormantBits := l :: s.upd.dormantBits } }
        (s.countCode .dormantLayer).logWrite recStatus 5 Code.dormantLayer.number (locHub 0x3F) 0 0xFFFFFFFF (bytesOf 4 l)
      else s) s

/-- UpdateStats of the attempt (R277). -/
def State.updateStats (s : State) : List Byte :=
  (List.range 64).flatMap fun g =>
    let q := s.upd.stats.get g {}
    List.flatten [bytesOf 2 (match q.maxExp with | some e => wrap 16 e | none => 0x8000), [0, 0], bytesOf 4 q.zeroMoments,
      bytesOf 4 q.negMoments, bytesOf 4 (s.job.stepCounter + 1)]

/-- ExchangeStats of the attempt (R308); its time is a free value. -/
def State.exchangeStats (s : State) (micros : Nat) : List Byte :=
  let x := s.exch
  List.flatten [bytesOf 4 x.recross, bytesOf 4 x.seconds, bytesOf 4 x.shadows, bytesOf 4 x.zeroed, bytesOf 4 x.tagged,
    bytesOf 1 (s.fget .EXCH_STATUS_COLD), [0, 0, 0], bytesOf 4 micros, bytesOf 4 (s.job.stepCounter + 1)]

/-- What the cores' cellars used (R242). -/
def State.cellarStats (s : State) : Stats :=
  let cs := s.planCores
  { s.stats with
    primaryMax := (cs.map fun c => s.fget .CELLAR_USE_PRIMARY_MIB c).foldl max 0
    chunks := (cs.map fun c => (s.core c).chunks.length).foldl (satAdd 0xFFFFFFFF) 0
    skipped := (cs.map fun c => (s.core c).skipped).foldl (satAdd 0xFFFFFFFF) 0
    step := (s.job.stepCounter + 1) % 2 ^ 32 }

/-- What the commit publishes of the step (R60, R66, R146, R163, R242, R259, R276, R277, R308, R350). -/
def State.publish (s : State) : State :=
  let s := match s.stats.headroomAt with
    | some (c, t) => s.logWrite recStatus 5 Code.headroomOvf.number (s.locCore c 0x3F)
        (s.rword .engine c (Fld.addr .GLACIER_STATUS_HEADROOM_OVF t 0)) 0xFFFFFFFF
    | none => s
  let (i, s) := s.draw 1
  let s := s.watchDormant
  let norm : Bool := s.job.controls.clipMode = 2
  let age := if s.job.ageLatched then 0 else satAdd 0xFFFFFFFF (s.dval 0x3100 2 0) 1
  let s := ((s.setDval 0x3100 2 age).setDval 0x4005 1 (if norm then s.job.gradNorm else 0)).setDval 0x4005 2
    (if norm then s.job.clipFactor else 0x3F800000)
  { s with
    lastStats := s.cellarStats
    upd := { s.upd with lastStats := s.updateStats }
    exch := { s.exch with lastStats := s.exchangeStats (Config.freeNat i % 2 ^ 32), coldLoad := false, resetAll := false }
    plan := { s.plan with cold := [] }
    job := { s.job with ageLatched := false } }

/-- Travellers dropped in the attempt, all layers. -/
def State.droppedAll (s : State) : Nat := (s.stats.travDropped.map (·.2)).foldl (satAdd 0xFFFFFFFF) 0

/-- Write the result page of committed step `n` (R401 to R403), its SEQ last, and the mirror in host memory.
(DESIGN CHOICE, assumption 48.) -/
def State.resultPage (s : State) (n attempt : Nat) : State :=
  let (i, s) := s.draw 1
  let (user, s) := if s.job.host.stage = 0 then (List.replicate userBytes 0, s)
    else if mappedRange s.job.host.stage userBytes then s.hubRead s.job.host.stage userBytes
    else let (k, s) := s.draw userBytes; ((List.range userBytes).map fun j => BitVec.ofNat 8 (Config.freeNat (k + j)), s)
  let seq := if s.host.seq = 0xFFFFFFFF then 1 else s.host.seq + 1
  let flags := b2n (s.fon .EXCH_STATUS_COLD) + 2 * b2n (s.fon .COMMIT_STATUS_CLIP_INF && s.job.clipFactor = 0)
    + 4 * b2n (s.stats.overflow.any fun x => x.2 ≠ 0) + 8 * b2n (!s.upd.dormantBits.isEmpty)
  let page := padTo 64 0 (List.flatten [bytesOf 4 seq, bytesOf 4 0, bytesOf 8 n, bytesOf 2 attempt, bytesOf 2 flags,
    bytesOf 4 (Config.freeNat i), bytesOf 4 (s.dval 0x4005 1 0), bytesOf 4 (s.dval 0x4005 2 0x3F800000),
    bytesOf 4 (s.dval 0x3100 2 0), bytesOf 4 s.droppedAll, bytesOf 4 (s.dval 0x2200 4 0)]) ++ user
  let p := n % 4
  let s := { s with host := { s.host with
    pages := s.host.pages.put p page, seq := seq
    mem := if s.job.host.mirror = 0 ∨ !s.host.linkUp ∨ s.host.d3 ∨ s.host.perst then s.host.mem else s.host.mem.writeBytes (s.job.host.mirror + 4096 * p) page } }
  ((s.fset .RESULT_LATEST_PAGE p).fset .RESULT_LATEST_STEP_LOW n).hostEvent .HOST_EVENT_RESULT

/-- SEQ_STATUS and VSTAT of every core as the attempt left them (R196, R241). -/
def State.snapshot (s : State) : State :=
  let cs := s.planCores
  { s with seqSnap := cs.foldl (fun m c => m.put c (s.rword .seq c 0)) []
           vecSnap := cs.foldl (fun m c => m.put c (s.rword .vector c 0)) [] }

/-- Steps 5 to 7 of R270: header, flip, trim boundary, result page, epilogue sections. -/
def State.commit (s : State) : State :=
  let n := s.job.stepCounter + 1
  let att := s.job.attempt
  let s := s.snapshot
  let s := (s.writePageHeader.publish).fset .COMMIT_STATUS_PHASE 4
  let s := { s with
    ledger := { s.ledger with page := 1 - s.ledger.page }
    job := { s.job with stepCounter := n, protNow := none, afterCommit := true, holdAfterVote := false, toHold := false } }
  let s := (((s.setAttempt 0).fset .RECOVERY_STATUS_REFUSALS 0).fset .COMMIT_STATUS_LAST_REFUSED 0).fset .EXCH_STATUS_PHASE 0
  let s := (s.trimBoundary).applyPendingDict
  (((s.stepState 1 5).resultPage n att).fset .EXCH_STATUS_COLD 0).startSections 3

/-! ### Refusal (R271, R358, R361, R379) -/

/-- LastRefusal (R379) of a refusal whose first code and core are given. -/
def State.lastRefusal (s : State) (first : Option (Code × Option Nat)) : List Byte :=
  let cl := [0, 1, 2, 3, 4, 5].filter fun c => s.faults.raised.any fun r => r.1.cls = c
  List.flatten [bytesOf 8 (s.job.stepCounter + 1), bytesOf 2 s.job.attempt,
    bytesOf 2 (match first with | some f => f.1.number | none => 0),
    bytesOf 2 (match first with | some (_, some c) => c | _ => 0xFFFF),
    bytesOf 1 ((cl.map fun c => 2 ^ c).foldl (· + ·) 0), [0], bytesOf 4 s.faults.raised.length,
    bytesOf 4 (match first with | some (c, k) => s.faultEntry c k | none => 0xFFFFFFFF), List.replicate 8 0]

/-- The attempt is refused (R271): record, LastRefusal, FIRST_FAULT, the next attempt number unless the module goes to
HOLD (R250, R361), a trim boundary, and the restore sections. (DEDUCED, assumption 43.) -/
def State.refuse (s : State) (hold : Bool) : State :=
  let first := s.faults.raised.head?
  let s := s.snapshot
  let n := min 65535 (s.fget .RECOVERY_STATUS_REFUSALS + 1)
  let s := (s.fset .RECOVERY_STATUS_REFUSALS n).fset .COMMIT_STATUS_LAST_REFUSED 1
  let s := (s.fset .FIRST_FAULT_CODE (match first with | some f => f.1.number | none => 0)).fset .FIRST_FAULT_CORE
    (match first with | some (_, some c) => c | _ => 0xFFF)
  let s := { s with faults := { s.faults with lastRefusal := s.lastRefusal first } }
  let s := s.logWrite recRefusal 0xFF 0 (match first with | some (_, some c) => s.locCore c 0x3F | _ => locHub 0x3F) 0
    (match first with | some (c, k) => s.faultEntry c k | none => 0xFFFFFFFF)
    (List.flatten [bytesOf 4 (match first with | some f => f.1.number | none => 0), bytesOf 4 s.faults.raised.length, bytesOf 4 n])
  let toHold : Bool := hold || s.job.holdAfterVote || decide (s.dval 0x3200 1 3 < n) || decide (s.job.attempt = 65535)
  let s := if toHold then s else s.setAttempt (s.job.attempt + 1)
  let s := { s with job := { s.job with toHold := toHold, holdAfterVote := false, stopped := true } }
  let s := (((s.fset .EXCH_STATUS_PHASE 0).fset .EXCH_STATUS_COLD 0).fset .RECOVERY_STATUS_EARLY_STOP 0).trimBoundary
  (s.stepState 1 6).startSections 4

/-- A voltage guardband moves towards its target by at most 5 mV at a commit boundary (R438). -/
def State.guardStep (s : State) : State :=
  let move (x : Nat × Nat) : Nat := if x.1 ≤ x.2 then min x.2 (x.1 + 5) else max x.2 (x.1 - 5)
  { s with mgmt := { s.mgmt with guard := (s.mgmt.guard.zip s.mgmt.guardTo).map move } }

/-- Loads and entries latched in a step take effect (R224, R362). (DEDUCED, assumption 45.) -/
def State.afterStep (s : State) : State := (s.applyPendingDict.guardStep).runLatched

/-- The module enters HOLD (R361, R362). -/
def State.enterHold (s : State) : State :=
  let s := { s with job := { s.job with current := none, protNow := none, toHold := false, replayDue := false } }
  let s := (s.stepState 2 0).fcount .RECOVERY_COUNT_HOLDS 1
  ((s.logWrite recHold 0xFF 0 (locHub 0x3F) 0 0xFFFFFFFF).hostEvent .HOST_EVENT_HOLD).afterStep

/-- A refused attempt's restore is over and retirements are done: HOLD, or the next attempt (R360, R361). -/
def State.nextOrHold (s : State) : State :=
  if s.job.toHold then s.enterHold
  else ({ s with job := { s.job with replayDue := false } }.fcount .RECOVERY_COUNT_REPLAYS 1).beginAttempt

/-- PHASE7_END (R26, R227, R271, R361, R370): every section has ended. After a commit the step is over; after a refusal
the marks of R370 take effect, then the next attempt starts or the module enters HOLD. -/
def State.phase7End (s : State) : State :=
  let ph := s.fget .COMMIT_STATUS_PHASE
  if s.fget .RECOVERY_STATUS_STATE ≠ 1 ∨ !s.job.epilogue.isEmpty ∨ !s.phys.retiring.isEmpty then s
  else if ph = 5 then
    ({ s with job := { s.job with current := none, afterCommit := false } }.stepState 0 0).afterStep
  else if ph = 6 then
    let s := { s with job := { s.job with replayDue := true } }.retire
    if s.rewriting then s else { s with phys := { s.phys with retiring := [] } }.nextOrHold
  else s

/-- PHASE7_END (R227). -/
def execPhase7End (s : State) : Out :=
  s.clocked .phase7End <|
  .next s.phase7End

/-- RETIREMENT_WRITES_END (R371): the bank rewrites have ended; the attempt that waited for them starts. -/
def State.retirementEnd (s : State) : State :=
  if s.phys.retiring.isEmpty || s.rewriting then s else
  let s := { s with phys := { s.phys with retiring := [] } }
  if s.fget .RECOVERY_STATUS_STATE ≠ 1 ∨ s.fget .COMMIT_STATUS_PHASE ≠ 6 then s
  else if s.job.replayDue then s.nextOrHold else if s.job.toHold then s.enterHold else s.beginAttempt

/-- RETIREMENT_WRITES_END (R371). -/
def execRetirementWritesEnd (s : State) : Out :=
  s.clocked .retirementWritesEnd <|
  .next s.retirementEnd

/-! ### The commit check and the vote (R270 to R272, R332, R358) -/

/-- Every block of a non-STATIC tensor is written (R270). -/
def State.allWritten (s : State) : Bool :=
  s.ledger.tensors.zipIdx.all fun t => t.1.isStatic || (List.range t.1.blocks).all fun b => s.blockWritten t.2 b

/-- NV at the commit check is INVALID_STICKY (R358). -/
def State.stickyCheck (s : State) : State :=
  s.planCores.foldl (fun s c => if s.fon .VSTAT_NV c then s.raiseIn .invalidSticky (some c) else s) s

/-- The checks of R358 have passed. -/
def State.checksPass (s : State) : Bool :=
  s.faults.raised.all (fun r => 4 ≤ r.1.cls) &&
  s.planCores.all fun c => !s.fon .VSTAT_NV c && !s.fon .VSTAT_RESIDUE_VECTOR c && !s.fon .VSTAT_BAD_CHAIN c

/-- The vote result acts (R270, R271). -/
def State.result (s : State) (v : VoteMsg) : State :=
  let s := s.toChildren 1 v
  if v.digestDiffer then (s.raiseIn .controlSkew none).refuse false
  else if v.pass then s.commit else s.refuse false

/-- Send the module's vote once every child's is in (R332); the root's result acts at once. -/
def State.tryVote (s : State) : State :=
  match s.job.voteOwn with
  | none => s
  | some own =>
    if s.job.voteSent || !s.childrenIn 0 then s else
    let v := foldVote own (s.childVotes 0)
    let s := { s with job := { s.job with voteSent := true } }
    match s.voteParent with
    | some p => s.post p (.vote 0 v)
    | none => let (v, s) := s.rootCheck v; s.result v

/-- Form the digest and the module's vote (R270, steps 3 and 4). -/
def State.vote (s : State) (pass : Bool) : State :=
  let d := s.controlDigest
  let s := { s with job := { s.job with
    digest := d
    voteOwn := some { pass := pass, digestDiffer := false, voters := 1, digest := d, step := s.job.stepCounter + 1
                      attempt := s.job.attempt } } }
  (s.fset .COMMIT_STATUS_PHASE 3).tryVote

/-- No update program is left to run (R252, R265). -/
def State.updatesIdle (s : State) : Bool :=
  s.upd.final.isEmpty && (!s.isHeld || s.job.normLost || ((s.exch.stopped || s.job.exchTimedOut) && !s.upd.normSent) || (s.job.clipKnown && s.nextBlock.isNone))

/-- The exchange is finished or has been given up (R303, R304). -/
def State.exchangeOver (s : State) : Bool :=
  s.fget .EXCH_STATUS_PHASE = 4 || s.exch.stopped || s.job.exchTimedOut

/-- COMMIT_CHECK (R270, R358): every core stands at its commit point, exchange and updates are over. -/
def State.commitCheck (s : State) : State :=
  if !s.running || s.fget .COMMIT_STATUS_PHASE ≠ 1 || s.job.stopped || !s.planCores.all s.atCommit || !s.exchangeOver
      || !s.updatesIdle then s else
  let s := (s.fset .COMMIT_STATUS_PHASE 2).buildScales
  let s := s.stickyCheck
  let s := if s.allWritten then s else s.raiseIn .ledgerIncomplete none
  s.vote s.checksPass

/-- COMMIT_CHECK (R270). -/
def execCommitCheck (s : State) : Out :=
  s.clocked .commitCheck <|
  .next s.commitCheck

/-- EARLY_STOP_VOTE (R359): TokenTimeout after a halting fault the module's failing vote is sent. -/
def State.earlyStopVote (s : State) : State :=
  if !s.running || !s.job.stopped || s.job.voteOwn.isSome || s.tokenTimeout = 0 then s
  else ((s.fset .COMMIT_STATUS_PHASE 2).stickyCheck).vote false

/-- EARLY_STOP_VOTE (R359). -/
def execEarlyStopVote (s : State) : Out :=
  s.clocked .earlyStopVote <|
  .next s.earlyStopVote

/-- Keep an UP vote of a child for its attempt (R332, R319). -/
def State.keepUp (s : State) (kind child : Nat) (v : VoteMsg) : State :=
  if laterKey s.curKey (v.step, v.attempt) then s.stale else
  let old := s.job.ups.filter fun u => !(u.1 = kind && u.2.1 = child && u.2.2.step = v.step && u.2.2.attempt = v.attempt)
  { s with job := { s.job with ups := old ++ [(kind, child, v)] } }

/-- A child's COMMIT_UP arrives (R332). -/
def State.commitUp (s : State) (child : Nat) (v : VoteMsg) : State :=
  let s := s.keepUp 0 child v
  if s.running then s.tryVote else s

/-- COMMIT_UP (R332). -/
def execCommitUp (child : Nat) (v : VoteMsg) (s : State) : Out :=
  s.clocked (.commitUp child v) <|
  .next (s.commitUp child v)

/-- A DOWN vote is of the attempt that waits for it (R319, R332). (DEDUCED, assumption 44.) -/
def State.downVote (s : State) (v : VoteMsg) (waits : Bool) (act : State → State) : State :=
  if (v.step, v.attempt) = s.curKey then (if s.running && waits then act s else s)
  else if laterKey s.curKey (v.step, v.attempt) then s.stale else s

/-- The parent's COMMIT_DOWN arrives (R270, R271, R332): final. A module in VOTE_LOST no longer acts on it (R364).
(DEDUCED, assumption 44.) -/
def State.commitDown (s : State) (v : VoteMsg) : State := s.downVote v s.job.voteSent fun s => s.result v

/-- COMMIT_DOWN (R270, R271, R332). -/
def execCommitDown (v : VoteMsg) (s : State) : Out :=
  s.clocked (.commitDown v) <|
  .next (s.commitDown v)

/-- A child's NORM_UP arrives (R265, R332). -/
def State.normUp (s : State) (child : Nat) (v : VoteMsg) : State := (s.keepUp 2 child v).normVote

/-- NORM_UP (R265, R332). -/
def execNormUp (child : Nat) (v : VoteMsg) (s : State) : Out :=
  s.clocked (.normUp child v) <|
  .next (s.normUp child v)

/-- The parent's NORM_DOWN arrives (R265, R266). -/
def State.normDown (s : State) (v : VoteMsg) : State :=
  s.downVote v (s.upd.normSent && !s.job.clipKnown && !s.job.normLost) fun s => (s.toChildren 3 v).takeNorm v.sum

/-- NORM_DOWN (R265, R266). -/
def execNormDown (v : VoteMsg) (s : State) : Out :=
  s.clocked (.normDown v) <|
  .next (s.normDown v)

/-- NORM_TOTAL_TIMEOUT (R265): the norm vote is out and no total has come. -/
def execNormTotalTimeout (s : State) : Out :=
  s.clocked .normTotalTimeout <|
  .next <|
    if !s.running || !s.upd.normSent || s.job.clipKnown || s.job.normLost || s.tokenTimeout = 0 then s else
    { s.raiseIn .exchangeTimeout none with job := { s.job with normLost := true } }

/-- VOTE_LOST (R272, R364, R399): no result after TokenTimeout; a latched doorbell is refused. -/
def State.voteLost (s : State) : State :=
  if !s.running || !s.job.voteSent || s.tokenTimeout = 0 then s else
  let s := (s.raiseIn .voteLost none).stepState 3 3
  let s := s.hostEvent .HOST_EVENT_VOTE_LOST
  if s.job.doorbell.isSome then (s.dropDoorbell).refuseDoorbell 6 else s

/-- VOTE_LOST (R272). -/
def execVoteLost (s : State) : Out :=
  s.clocked .voteLost <|
  .next s.voteLost

/-- VoteResolve 1 or 2 (R364), accepted in VOTE_LOST alone. -/
def State.voteResolve (s : State) (commit : Bool) : State :=
  if s.fget .RECOVERY_STATUS_STATE ≠ 3 then s else
  let s := s.logWrite recResolve 0xFF 0 (locHub 0x3F) 0 0xFFFFFFFF (bytesOf 4 (if commit then 1 else 2))
  let s := s.stepState 1 3
  if commit then s.commit else s.refuse true

/-- HoldRequest (R363). -/
def State.holdRequest (s : State) : State :=
  let ph := s.fget .COMMIT_STATUS_PHASE
  if s.fget .RECOVERY_STATUS_STATE ≠ 1 then s
  else if ph = 6 then
    if s.job.toHold then s
    else if s.job.replayDue || s.fget .RECOVERY_STATUS_REFUSALS ≠ 0 then
      { s.setAttempt (s.job.attempt - 1) with job := { s.job with toHold := true } }
    else { s with job := { s.job with toHold := true } }
  else if 4 ≤ ph then s
  else if s.job.voteSent then { s with job := { s.job with holdAfterVote := true } }
  else s.refuse true

/-! ### History resets (R53, R289) -/

/-- ScaleHistoryReset (R53): every slot is cold for the attempts of the next doorbell. -/
def State.scaleReset (s : State) : State := { s with job := { s.job with coldAllPending := true } }

/-- ExchangeHistoryReset (R289): the next doorbell's attempts are cold. -/
def State.exchangeReset (s : State) : State := { s with exch := { s.exch with resetDue := true } }

end Sys2Proof.Machine
end

