-- ==== Sys2Proof/Machine/Line.lean ====
section
/-! DEFINITION. The lanes' line coding (R314, R315): the Reed–Solomon code RS(552, 520), the scrambler, and the layout of a
codeword's 650 data bytes. -/

namespace Sys2Proof.Machine

/-! ### GF(2^10) -/

/-- Product with α: the field polynomial is x^10 + x^3 + 1 (R314). -/
def gfX (a : Nat) : Nat := if a < 512 then 2 * a else (2 * a) ^^^ 0x409

/-- Product of two field elements. -/
def gfMul (a b : Nat) : Nat :=
  if a = 0 ∨ b = 0 then 0 else
  ((List.range 10).foldl (fun (acc : Nat × Nat) i => (gfX acc.1, if bit b i then acc.2 ^^^ acc.1 else acc.2)) (a, 0)).2

/-- Power `n` of α. -/
def gfAlpha : Nat → Nat
  | 0 => 1
  | n + 1 => gfX (gfAlpha n)

/-- `a` to the power `n`. -/
def gfPow (a : Nat) : Nat → Nat
  | 0 => 1
  | n + 1 => gfMul a (gfPow a n)

/-- Inverse of a field element other than 0. -/
def gfInv (a : Nat) : Nat := gfPow a 1022

/-- Value at `x` of a polynomial given from its highest coefficient down. -/
def gfEval (p : List Nat) (x : Nat) : Nat := p.foldl (fun acc c => gfMul acc x ^^^ c) 0

/-- Sum of two polynomials given from the lowest coefficient up. -/
def gfAdd (p q : List Nat) : List Nat :=
  (List.range (max p.length q.length)).map fun i => (p[i]?).getD 0 ^^^ (q[i]?).getD 0

/-! ### RS(552, 520) -/

/-- The generator polynomial, from its highest coefficient down: roots α^0 to α^31 (R314). -/
def rsGenerator : List Nat :=
  (List.range 32).foldl (fun g i => gfAdd (0 :: g.reverse) ((g.reverse).map (gfMul (gfAlpha i)) ++ [0]) |>.reverse) [1]

/-- The codeword of 520 data symbols: they come first, then the remainder by the generator, each from the highest power
down. (DEDUCED, assumption 106.) -/
def rsEncode (data : List Nat) : List Nat :=
  let g := rsGenerator.drop 1
  data ++ data.foldl (fun r d =>
    let f := d ^^^ (r[0]?).getD 0
    gfAdd (r.drop 1 ++ [0]) (g.map (gfMul f))) (List.replicate 32 0)

/-- The syndromes of a received word: its values at the generator's roots. -/
def rsSyndromes (w : List Nat) : List Nat := (List.range 32).map fun i => gfEval w (gfAlpha i)

/-- The search for the error locator: locator, the one before the last change of length, its length, steps since that
change, and the discrepancy there. -/
structure RsSearch where
  c : List Nat := [1]
  b : List Nat := [1]
  l : Nat := 0
  m : Nat := 1
  d : Nat := 1
  deriving DecidableEq, Repr

/-- One step of the search: the next syndrome. -/
def rsSearchStep (syn : List Nat) (x : RsSearch) (n : Nat) : RsSearch :=
  let d := (List.range (x.l + 1)).foldl (fun acc i => acc ^^^ gfMul ((x.c[i]?).getD 0) ((syn[n - i]?).getD 0)) 0
  if d = 0 then { x with m := x.m + 1 } else
  let c := gfAdd x.c (List.replicate x.m 0 ++ x.b.map (gfMul (gfMul d (gfInv x.d))))
  if 2 * x.l ≤ n then { c := c, b := x.c, l := n + 1 - x.l, m := 1, d := d } else { x with c := c, m := x.m + 1 }

/-- The symbol errors that the syndromes point to, by position. -/
def rsErrors (syn : List Nat) : List (Nat × Nat) :=
  let x := (List.range 32).foldl (rsSearchStep syn) {}
  let omega := (List.range 32).map fun k =>
    (List.range (k + 1)).foldl (fun acc i => acc ^^^ gfMul ((x.c[i]?).getD 0) ((syn[k - i]?).getD 0)) 0
  let slope := (List.range x.c.length).map fun k => if k % 2 = 0 then (x.c[k + 1]?).getD 0 else 0
  (List.range 552).filterMap fun p =>
    let inv := gfAlpha (1023 - (551 - p))
    if gfEval x.c.reverse inv ≠ 0 then none
    else some (p, gfMul (gfMul (gfAlpha (551 - p)) (gfEval omega.reverse inv)) (gfInv (gfEval slope.reverse inv)))

/-- Decode a received word of 552 symbols (R314): the data symbols of the codeword that differs from it in at most 16
symbols, and in how many; none where there is no such codeword (R315). -/
def rsDecode (w : List Nat) : Option (List Nat × Nat) :=
  if w.length ≠ 552 ∨ w.any (1024 ≤ ·) then none else
  let syn := rsSyndromes w
  if syn.all (· = 0) then some (w.take 520, 0) else
  let es := rsErrors syn
  let v := es.foldl (fun v e => setAt v e.1 ((v[e.1]?).getD 0 ^^^ e.2)) w
  if 16 < es.length ∨ !(rsSyndromes v).all (· = 0) then none else some (v.take 520, es.length)

/-! ### Scrambler -/

/-- The scrambler's seed: all ones (R314). -/
def scrSeed : Nat := 2 ^ 31 - 1

/-- The 5,200 scrambler bits of a codeword, the first lowest, and the register after them: each bit is the sum of the bits
28 and 31 before it. (DEDUCED, assumption 106.) -/
def scrBits (st : Nat) : Nat × Nat :=
  (List.range 5200).foldl (fun (a : Nat × Nat) i =>
    let b := (bits a.2 27 1 + bits a.2 30 1) % 2
    (a.1 + b * 2 ^ i, (2 * a.2 + b) % 2 ^ 31)) (0, st)

/-! ### Data bytes of a codeword -/

/-- What a codeword's data bytes say (R314): twenty tagged words, ALIGN, and two link-credit fields (class and count). -/
structure LineData where
  words : List (Nat × List Byte)
  align : Bool
  credits : List (Nat × Nat)
  deriving DecidableEq, Repr

/-- The data bytes as one number, bit 0 of byte 0 lowest: an absent word is IDLE. (DEDUCED, assumption 106.) -/
def LineData.number (x : LineData) : Nat :=
  let ws := padTo 20 (0, []) x.words
  let cr := padTo 2 (0, 0) x.credits
  natOf (ws.flatMap fun w => padTo 32 0 w.2)
    + ws.zipIdx.foldl (fun n w => n + w.1.1 % 4 * 2 ^ (5120 + 2 * w.2)) 0 + b2n x.align * 2 ^ 5160
    + cr.zipIdx.foldl (fun n c => n + (c.1.1 % 16 + 16 * (min c.1.2 4095)) * 2 ^ (5168 + 16 * c.2)) 0

/-- The data bytes' fields. -/
def readLine (n : Nat) : LineData where
  words := (List.range 20).map fun k => (bits n (5120 + 2 * k) 2, bytesOf 32 (bits n (256 * k) 256))
  align := bit n 5160
  credits := (List.range 2).filterMap fun k =>
    let c := bits n (5168 + 16 * k) 16
    if c / 16 = 0 then none else some (c % 16, c / 16)

/-- The 552 symbols of a codeword with scrambler register `st`, and the register after. -/
def lineEncode (x : LineData) (st : Nat) : List Nat × Nat :=
  let (k, st') := scrBits st
  let n := x.number ^^^ k
  (rsEncode ((List.range 520).map fun i => bits n (10 * i) 10), st')

/-- The data of decoded symbols with scrambler register `st`. -/
def lineDecode (data : List Nat) (st : Nat) : LineData :=
  readLine ((data.zipIdx.foldl (fun n d => n + d.1 * 2 ^ (10 * d.2)) 0) ^^^ (scrBits st).1)

end Sys2Proof.Machine
end

