-- ==== Sys2Proof/Machine/Wire.lean ====
section
/-! DEFINITION. Layouts of the fabric's messages and frames (R295, R314 to R316, R321, R332, R334, R335, R341), in both
directions. -/

namespace Sys2Proof.Machine

/-- Pad with zero bytes to a multiple of 32. -/
def pad32 (b : List Byte) : List Byte := b ++ List.replicate ((32 - b.length % 32) % 32) 0

/-- A header of 64 bytes and a body with the check value of R384 in bytes 60 to 63. -/
def sealed (head60 body : List Byte) (step attempt : Nat) : List Byte :=
  let c := crcFold c32 0 (stepPrefix step attempt) (head60 ++ List.replicate 4 0 ++ body)
  head60 ++ bytesOf 4 c ++ body

/-- The check value of a sealed message holds. -/
def sealOk (b : List Byte) : Bool :=
  fieldAt b 60 4 = crcFold c32 0 (stepPrefix (fieldAt b 8 8) (fieldAt b 16 2)) (b.take 60 ++ List.replicate 4 0 ++ b.drop 64)

/-! ### Bucket messages (R295) -/

/-- Bits of a bitmap, bit 0 of byte 0 first. -/
def bitmapBytes (m : List Bool) : List Byte :=
  (List.range (ceilDiv m.length 8)).map fun i =>
    BitVec.ofNat 8 (((List.range 8).map fun k => if (m[8 * i + k]?).getD false then 2 ^ k else 0).foldl (· + ·) 0)

/-- A bucket message in bytes. -/
def bucketBytes (m : BucketMsg) : List Byte :=
  let n := if 2 ≤ m.kind then m.peaks.length else m.ints.length
  let head := List.flatten [bytesOf 1 m.kind, bytesOf 1 (b2n m.second + 2 * b2n m.shadow + 4 * b2n m.skewSeen),
    bytesOf 1 m.group, bytesOf 1 m.ring, bytesOf 4 m.bucket, bytesOf 8 m.step, bytesOf 2 m.attempt, bytesOf 2 n,
    bytesOf 2 m.hops, bytesOf 2 m.originPos, List.replicate 36 0]
  let peaks := m.peaks.flatMap fun p => bytesOf 1 p
  let body := if 2 ≤ m.kind then peaks
    else m.ints.flatMap (fun r => r.flatMap fun v => bytesOf 4 (wrap 32 v)) ++ peaks ++ bitmapBytes m.recross
  sealed head (pad32 body) m.step m.attempt

/-- A bucket message from its bytes; none when a reserved code or field is set. -/
def readBucket (b : List Byte) : Option BucketMsg :=
  let kind := fieldAt b 0 1
  let fl := fieldAt b 1 1
  let n := fieldAt b 18 2
  if 3 < kind ∨ 7 < fl ∨ n = 0 ∨ 4096 < n ∨ !zeroAt b 24 36 then none else
  let body := b.drop 64
  let peaksAt := if 2 ≤ kind then 0 else 128 * n
  some {
    kind := kind, second := bit fl 0, shadow := bit fl 1, skewSeen := bit fl 2, group := fieldAt b 2 1, ring := fieldAt b 3 1
    bucket := fieldAt b 4 4, step := fieldAt b 8 8, attempt := fieldAt b 16 2, blockCount := n, hops := fieldAt b 20 2
    originPos := fieldAt b 22 2
    ints := if 2 ≤ kind then [] else
      (List.range n).map fun i => (List.range 32).map fun k => signed 32 (fieldAt body (128 * i + 4 * k) 4)
    peaks := (List.range n).map fun i => fieldAt body (peaksAt + i) 1
    recross := if 2 ≤ kind then [] else (List.range n).map fun i => bit (fieldAt body (129 * n + i / 8) 1) (i % 8)
    checkOk := sealOk b }

/-! ### Votes (R332) -/

/-- A vote message in bytes; a norm vote carries its sum. -/
def voteBytes (kind : Nat) (v : VoteMsg) : List Byte :=
  List.flatten [bytesOf 1 kind, bytesOf 1 (b2n v.pass + 2 * b2n v.digestDiffer), bytesOf 2 v.voters, bytesOf 4 v.digest,
    bytesOf 8 v.step, bytesOf 2 v.attempt, List.replicate 14 0, if 2 ≤ kind then bytesOf 128 v.sum else []]

/-- A vote message from its bytes, with its kind. -/
def readVote (b : List Byte) : Option (Nat × VoteMsg) :=
  let kind := fieldAt b 0 1
  if 3 < kind ∨ 3 < fieldAt b 1 1 ∨ !zeroAt b 18 14 then none else
  some (kind, { pass := bit (fieldAt b 1 1) 0, digestDiffer := bit (fieldAt b 1 1) 1, voters := fieldAt b 2 2
                digest := fieldAt b 4 4, step := fieldAt b 8 8, attempt := fieldAt b 16 2
                sum := if 2 ≤ kind then fieldAt b 32 128 else 0 })

/-! ### Caravans (R334, R335, R341) -/

/-- The 64-byte header of a caravan up to its check value. -/
def caravanHead (kind flags layer round count rowWords step attempt src : Nat) : List Byte :=
  List.flatten [bytesOf 1 kind, bytesOf 1 flags, bytesOf 1 layer, bytesOf 1 round, bytesOf 2 count, bytesOf 2 rowWords,
    bytesOf 8 step, bytesOf 2 attempt, bytesOf 2 src, List.replicate 40 0]

/-- A traveller from its bytes. -/
def readTraveller (b : List Byte) : Traveller :=
  { srcModule := fieldAt b 0 2, srcCore := fieldAt b 2 2, token := fieldAt b 4 4, layer := fieldAt b 8 1
    r := bits (fieldAt b 9 1) 0 2, k := bits (fieldAt b 9 1) 2 2, round := fieldAt b 10 1, returnRow := fieldAt b 12 4
    choices := ((List.range 8).map fun i => fieldAt b (16 + 2 * i) 2).takeWhile (· ≠ 0xFFFF), row := b.drop 32 }

/-- A return row in bytes (R341). -/
def returnBytes (rowWords : Nat) (r : ReturnRow) : List Byte :=
  List.flatten [bytesOf 2 r.innModule, bytesOf 2 r.srcCore, bytesOf 4 r.returnRow, bytesOf 1 r.layer, bytesOf 1 r.choice,
    bytesOf 1 r.copy, [0], bytesOf 4 r.slot, List.replicate 16 0, padTo (32 * rowWords) 0 r.row]

/-- A return row from its bytes. -/
def readReturn (b : List Byte) : ReturnRow :=
  { innModule := fieldAt b 0 2, srcCore := fieldAt b 2 2, returnRow := fieldAt b 4 4, layer := fieldAt b 8 1
    choice := fieldAt b 9 1, copy := fieldAt b 10 1, slot := fieldAt b 12 4, row := b.drop 32 }

/-- An OUTBOUND caravan in bytes. -/
def caravanOutBytes (c : CaravanOut) : List Byte :=
  sealed (caravanHead 0 (b2n c.last + 2 * b2n c.reuse) c.layer c.round c.entries.length c.rowWords c.step c.attempt c.srcModule)
    (c.entries.flatMap (travellerBytes c.rowWords)) c.step c.attempt

/-- A RETURN caravan in bytes. -/
def caravanRetBytes (c : CaravanRet) : List Byte :=
  sealed (caravanHead 1 (b2n c.last) c.layer 0 c.entries.length c.rowWords c.step c.attempt c.srcModule)
    (c.entries.flatMap (returnBytes c.rowWords)) c.step c.attempt

/-- A caravan from its bytes; none for a reserved kind, flag or field. -/
def readCaravan (b : List Byte) : Option OutMsg :=
  let kind := fieldAt b 0 1
  let fl := fieldAt b 1 1
  let w := fieldAt b 6 2
  let size := 32 + 32 * w
  if 1 < kind ∨ 3 < fl ∨ !zeroAt b 20 40 then none else
  let rows := (List.range (fieldAt b 4 2)).map fun i => (b.drop (64 + size * i)).take size
  if kind = 0 then
    some (.caravanOut { last := bit fl 0, reuse := bit fl 1, layer := fieldAt b 2 1, round := fieldAt b 3 1, rowWords := w
                        step := fieldAt b 8 8, attempt := fieldAt b 16 2, srcModule := fieldAt b 18 2
                        entries := rows.map readTraveller, checkOk := sealOk b })
  else
    some (.caravanRet { last := bit fl 0, layer := fieldAt b 2 1, rowWords := w, step := fieldAt b 8 8
                        attempt := fieldAt b 16 2, srcModule := fieldAt b 18 2, entries := rows.map readReturn
                        checkOk := sealOk b })

/-! ### Messages of the classes whose layout the manual leaves open -/

/-- Fields of a MESSAGE message: destination and source core, channel, arrival signal, whether it is a signal and its
count. -/
def messageFieldsOf (core : Nat) (m : Msg) : List Nat :=
  [core, m.srcCore, m.channel, m.dtoken, b2n m.dsig, b2n m.isSignal, m.count]

/-- A MESSAGE message from its bytes. -/
def readMessage (b : List Byte) (src step attempt : Nat) : OutMsg :=
  let (f, data) := Config.messageFields b
  let g (i : Nat) : Nat := (f[i]?).getD 0
  .data (g 0) { loc := false, srcMod := src, srcCore := g 1, channel := g 2, data := data, dtoken := g 3, dsig := g 4 ≠ 0
                isSignal := g 5 ≠ 0, count := g 6, step := step, attempt := attempt }

/-- A MAILBOX message from its bytes: kind 0 a message, 1 a TAKEN. -/
def readMail (b : List Byte) : OutMsg :=
  let f := Config.mailFields b
  let g (i : Nat) : Nat := (f[i]?).getD 0
  if g 0 = 0 then .mail (g 1) (g 2) (g 3) (word (g 4)) ((f.drop 5).map word) else .taken (g 1) (g 2) (g 3)

/-! ### Outgoing messages and their frames (R316, R317, R321) -/

/-- Class of a message (R317). -/
def msgClass : OutMsg → Nat
  | .data _ _ => 6
  | .bucket _ => 8
  | .vote _ _ => 3
  | .caravanOut _ => 7
  | .caravanRet _ => 7
  | .mail _ _ _ _ _ => 4
  | .taken _ _ _ => 4
  | .dict _ => 5
  | .connect _ _ _ => 2
  | .srouted cls _ _ => cls

/-- Step and attempt of a message of a class bound to an attempt; zero for the others. -/
def msgKey : OutMsg → Nat × Nat
  | .data _ m => (m.step, m.attempt)
  | .bucket m => (m.step, m.attempt)
  | .vote _ v => (v.step, v.attempt)
  | .caravanOut c => (c.step, c.attempt)
  | .caravanRet c => (c.step, c.attempt)
  | _ => (0, 0)

/-- The payload head of a source-routed frame that has taken its first hop at its source (R321). -/
def routeHead (route : List Nat) (pointer : Nat) (reply : List Nat) : List Byte :=
  List.flatten [bytesOf 1 route.length, bytesOf 1 pointer, (padTo 32 0 route).flatMap fun r => bytesOf 1 r,
    bytesOf 1 reply.length, (padTo 32 0 reply).flatMap fun r => bytesOf 1 r]

/-- Bytes of a message. -/
def msgBytes : OutMsg → List Byte
  | .data core m => Config.messageBytes (messageFieldsOf core m) m.data
  | .bucket m => bucketBytes m
  | .vote kind v => voteBytes kind v
  | .caravanOut c => caravanOutBytes c
  | .caravanRet c => caravanRetBytes c
  | .mail box remote num bells words => Config.mailBytes (0 :: box :: remote :: num :: bells.toNat :: words.map BitVec.toNat)
  | .taken box remote num => Config.mailBytes [1, box, remote, num]
  | .dict body => body
  | .connect kind ctx credits => Config.connectBytes kind ctx credits
  | .srouted _ route body => routeHead route 1 [] ++ body

/-- Classes bound to an attempt (R317). -/
def boundClass (cls : Nat) : Bool := cls = 3 || (6 ≤ cls && cls ≤ 8)

/-- Classes that use a connection (R317). -/
def connClass (cls : Nat) : Bool := 3 ≤ cls && cls ≤ 8

/-- Cut a message into frames of up to 2,048 bytes of payload (R316). -/
def framesOf (head : Frame) (b : List Byte) : List Frame :=
  let b := pad32 (if b = [] then [0] else b)
  let n := ceilDiv b.length 2048
  (List.range n).map fun i =>
    let p := (b.drop (2048 * i)).take 2048
    { head with first := i = 0, last := i + 1 = n, frameIndex := i, payload := p, words := p.length / 32 }

/-- Header of a frame in bytes (R316). -/
def frameHead (f : Frame) : List Byte :=
  List.flatten [bytesOf 2 f.dest, bytesOf 2 f.src,
    bytesOf 1 (f.cls + 16 * b2n f.first + 32 * b2n f.last + 64 * b2n f.sroute), bytesOf 1 (f.words - 1), bytesOf 1 f.hopLimit,
    [0], bytesOf 2 f.context, bytesOf 2 f.attempt, bytesOf 4 f.stepLow, bytesOf 4 f.msgSeq, bytesOf 4 f.frameIndex]

/-- FrameCheck of a frame (R316, R384). -/
def frameCheck (f : Frame) : Nat := crc c64 (frameHead f ++ f.payload)

/-- Cut bytes into words of 32. -/
def lineWords (b : List Byte) : List (List Byte) := (List.range (ceilDiv b.length 32)).map fun i => (b.drop (32 * i)).take 32

/-- The tagged words of a frame on a lane (R314 to R316): START, CONT, and ABORT behind a frame that is cut. The trailer of
a frame on its way keeps whether it holds, since a transit module does not check it. (DEDUCED, assumption 106.) -/
def frameLine (f : Frame) : List (Nat × List Byte) :=
  let c := if f.checkOk then frameCheck f else frameCheck f ^^^ 1
  ((lineWords (frameHead f ++ f.payload ++ bytesOf 8 c)).zipIdx.map fun w => (if w.2 = 0 then 1 else 2, w.1))
    ++ if f.aborted then [(3, [])] else []

/-- A frame from the tagged words of its lane (R314, R316): the trailer's check value and the reserved bits decide
`checkOk`; a length that disagrees with Words leaves a payload of another length. -/
def readFrame (ws : List (List Byte)) (aborted : Bool) : Frame :=
  let b := ws.flatten
  let c := fieldAt b 4 1
  let w := fieldAt b 5 1
  let n := b.length - 32
  let f : Frame := {
    dest := fieldAt b 0 2, src := fieldAt b 2 2, cls := c % 16, first := bit c 4, last := bit c 5, sroute := bit c 6
    words := w % 64 + 1, hopLimit := fieldAt b 6 1, context := fieldAt b 8 2, attempt := fieldAt b 10 2
    stepLow := fieldAt b 12 4, msgSeq := fieldAt b 16 4, frameIndex := fieldAt b 20 4, payload := (b.drop 24).take n
    aborted := aborted }
  { f with checkOk := !bit c 7 && w < 64 && fieldAt b 7 1 = 0 && fieldAt b (24 + n) 8 = crc c64 (b.take (24 + n)) }

end Sys2Proof.Machine
end

