-- ==== Sys2Proof/Machine/Fabric.lean ====
section
/-! DEFINITION. Lanes, ports and spares (R309 to R315), routing (R320 to R324), connections and credits (R325 to R327) and
the sending of frames (R317). -/

namespace Sys2Proof.Machine

/-! ### Ports -/

/-- State of a lane (R311). -/
def State.laneState (s : State) (l : Nat) : Nat := s.fget .PORT_STATUS_STATE 0 l

/-- The lane is an odd one of a bonded pair, whose port is named by its even lane (R310). -/
def State.oddBond (s : State) (l : Nat) : Bool := l < 10 && l % 2 = 1 && s.fon .PORT_STATUS_BONDED 0 l

/-- The lane that carries a port's frames: its own, or the spare that stands in for it (R313). -/
def State.carrier (s : State) (p : Nat) : Nat :=
  if s.fget .PORT_STATUS_STANDS_FOR 0 10 = p then 10 else if s.fget .PORT_STATUS_STANDS_FOR 0 11 = p then 11 else p

/-- The port that a lane carries. -/
def State.portOf (s : State) (l : Nat) : Nat :=
  let p := if 10 ≤ l then s.fget .PORT_STATUS_STANDS_FOR 0 l else l
  if s.oddBond p then p - 1 else p

/-- The lane whose record holds a port's link credits and the frame coming in: its own, or of a bonded pair the even one
(R310). -/
def State.portLane (s : State) (p : Nat) : Nat := s.carrier p

/-- The lane whose record a lane's words and credits enter; a lane that carries no port has its own. -/
def State.joined (s : State) (l : Nat) : Nat :=
  if 15 ≤ s.portOf l ∨ (l < 10 ∧ s.carrier l ≠ l) then l else s.portLane (s.portOf l)

/-- A port is UP or UP_HALF (R310, R311): a bonded pair is UP when both of its lanes are. -/
def State.portUp (s : State) (p : Nat) : Bool :=
  if 10 ≤ p || s.oddBond p then false else
  let a := s.laneState (s.carrier p)
  if s.fon .PORT_STATUS_BONDED 0 p then
    let b := s.laneState (s.carrier (p + 1))
    a = 3 || b = 3 || (a = 2 && b = 2)
  else a = 2 || a = 3

/-- Ports that carry frames. -/
def State.upPorts (s : State) : List Nat := (List.range 10).filter s.portUp

/-- A lane of an SROUTE path carries frames (R321). -/
def State.laneUp (s : State) (l : Nat) : Bool := l < 12 && (s.laneState l = 2 || s.laneState l = 3)

/-- A lane beside its registers. -/
def State.lane (s : State) (l : Nat) : Lane := s.fab.lanes.get l {}

/-- Change a lane. -/
def State.modLane (s : State) (l : Nat) (f : Lane → Lane) : State :=
  { s with fab := { s.fab with lanes := s.fab.lanes.modify l {} f } }

/-- A frame has left this module's transit buffer: a link credit is owed to the port it came by (R326). -/
def State.owe (s : State) (lane cls : Nat) : State :=
  s.modLane (s.joined lane) fun x => { x with owed := x.owed.put cls (x.owed.get cls 0 + 1) }

/-- Frames of the transit buffer are lost: their buffers are free again (R326). -/
def State.loseTransit (s : State) (lost : Transit → Bool) : State :=
  (s.fab.transit.filter lost).foldl (fun s x => s.owe x.lane x.f.cls)
    { s with fab := { s.fab with transit := s.fab.transit.filter fun x => !lost x } }

/-- A change of lanes (R323): the sets of usable ports are kept while an attempt runs; frames that wait for a port that
went down are lost (R347). -/
def State.withPorts (s : State) (f : State → State) : State :=
  let before := s.upPorts
  let t := f s
  let after := t.upPorts
  if before = after then t else
  let old := if t.fab.ups = [] then [before] else t.fab.ups
  { t with fab := { t.fab with ups := if t.running then old ++ [after] else [] } }.loseTransit fun x =>
    !x.f.sroute && x.out ∉ after && x.out ∈ before

/-- A lane takes a state; frames in flight on it are lost (R463). -/
def State.setLane (s : State) (l st : Nat) : State :=
  s.withPorts fun s =>
    let s := ((s.fset .PORT_STATUS_STATE st 0 l).modLane l fun x => { x with unc := 0 }).modLane (s.joined l)
      fun x => { x with rx := [], started := false, owed := [] }
    if st ≤ 1 then s else { s with fab := { s.fab with retraining := s.fab.retraining.filter (· ≠ l) } }

/-- Link credits of a port that has come up: at least 4 frame buffers per class at the far end, within its 256 KiB of
transit buffer (R326; DESIGN CHOICE, assumption 31). -/
def freshCredits : SMap Nat := (List.range 9).map fun c => (c, 4)

/-- A lane runs: its port has fresh credits, and an alignment group begins in each direction (R314, R326; DEDUCED,
assumption 106). -/
def State.freshLane (s : State) (l : Nat) : State :=
  (s.modLane l fun x => { x with rxPos := 0, txPos := 0, rxScr := scrSeed, txScr := scrSeed }).modLane (s.joined l)
    fun x => { x with credits := freshCredits }

/-- A lane goes UP. -/
def State.laneComesUp (s : State) (l : Nat) : State := (s.setLane l 2).freshLane l

/-- CODEWORD_LOCK_LOSS and more than 16 uncorrectable codewords in 1 ms take a trained lane DOWN (R311). -/
def State.laneFails (s : State) (l : Nat) : State :=
  let st := s.laneState l
  if l < 12 ∧ (st = 2 ∨ st = 3 ∨ st = 5) then s.setLane l 0 else s

/-- CODEWORD_LOCK_LOSS (R311). -/
def execCodewordLockLoss (lane : Nat) (s : State) : Out :=
  s.clocked (.codewordLockLoss lane) <|
  .next (s.laneFails lane)

/-- The fabric reference is present and the lane may train (R311, R457). -/
def State.mayTrain (s : State) (l : Nat) : Bool :=
  l < 12 && s.laneState l = 0 && s.fon .CLK_STATUS_FABRIC_REF && bit (s.dval 0x6001 2 0x0FFF) l

/-- A training starts (R310, R311): FabricBonding acts, BOND_MISMATCH clears and the training is counted. The far end last
identified stays published. -/
def State.startTraining (s : State) (lane : Nat) : State :=
  if !s.mayTrain lane then s else
  let s := (s.fset .PORT_STATUS_BOND_MISMATCH 0 0 lane).fset .PORT_STATUS_BONDED
    (b2n (lane < 10 && bit (s.dval 0x6001 1 0) (lane / 2))) 0 lane
  let s := (s.setLane lane 1).fcount .PORT_ERR_RETRAINS 1 0 lane
  s.modLane lane fun x => { x with ready := false, totals := (x.totals.1, x.totals.2.1, satAdd 0xFFFFFFFF x.totals.2.2 1) }

/-- LANE_TRAINING_START (R311). -/
def execLaneTrainingStart (lane : Nat) (s : State) : Out :=
  s.clocked (.laneTrainingStart lane) <|
  .next (s.startTraining lane)

/-- Publish the far end of a lane (R312). -/
def State.setNeighbour (s : State) (l : Nat) (n : Neighbour) : State :=
  let s := ((s.fset .PORT_STATUS_NEIGHBOUR_VALID 1 0 l).fset .PORT_STATUS_NEIGHBOUR_PORT n.lane 0 l).fset
    .PORT_STATUS_NEIGHBOUR_ADDR n.addr 0 l
  s.modLane l fun x => { x with far := some n, ready := true, fails := 0 }

/-- Two lanes reach the two lanes of one bonded pair of one neighbour (R310). -/
def sameBond (a b : Neighbour) : Bool :=
  a.serial = b.serial && a.bondedPair && b.bondedPair && a.lane / 2 = b.lane / 2 && a.lane ≠ b.lane && a.lane < 10

/-- The neighbour has made the substitution that matches a spare's (R313): its spare stands in for the lane that the port
reached, where that is known. (DEDUCED, assumption 110.) -/
def State.matching (s : State) (port : Nat) (n : Neighbour) : Bool :=
  match n.standsFor, (s.lane port).far with
  | some p, some far => p = far.lane
  | some _, none => true
  | none, _ => false

/-- A lane has trained: a bonded lane waits for its partner (R310), an idle spare becomes SPARE (R311), a spare that stands
in for a port stays DOWN until the neighbour has substituted too (R313). -/
def State.trained (s : State) (l : Nat) (n : Neighbour) : State :=
  let s := s.setNeighbour l n
  if 10 ≤ l then
    let p := s.fget .PORT_STATUS_STANDS_FOR 0 l
    if p = 15 then s.setLane l 5 else if s.matching p n then s.laneComesUp l else s.setLane l 0
  else if !s.fon .PORT_STATUS_BONDED 0 l then s.laneComesUp l
  else
    let o := if l % 2 = 0 then l + 1 else l - 1
    let st := s.laneState o
    match (s.lane o).far with
    | some m =>
      if (s.lane o).ready ∧ (st = 1 ∨ st = 2 ∨ st = 3) then
        if sameBond n m then (s.laneComesUp l).laneComesUp o
        else
          let s := ((s.setLane l 0).setLane o 0).fset .PORT_STATUS_BOND_MISMATCH 1 0 l
          (s.fset .PORT_STATUS_BOND_MISMATCH 1 0 o).statusRecord .bondMismatch (locHub l) (s.rword .fabric 0 (0x10 + 4 * l))
      else s
    | none => s

/-- LANE_TRAINING_END (R310 to R312): a third failure in a row makes the lane FAILED, with one record. -/
def execLaneTrainingEnd (lane : Nat) (far : Option Neighbour) (s : State) : Out :=
  s.clocked (.laneTrainingEnd lane far) <|
  .next <|
    if 12 ≤ lane ∨ s.laneState lane ≠ 1 then s else
    let s := { s with fab := { s.fab with retraining := s.fab.retraining.filter (· ≠ lane) } }
    match far with
    | some n => s.trained lane n
    | none =>
      let k := (s.lane lane).fails + 1
      let s := s.modLane lane fun x => { x with fails := k, ready := false }
      if k < 3 then s.setLane lane 0
      else
        let s := s.setLane lane 4
        s.statusRecord .laneFailed (locHub lane) (s.rword .fabric 0 (0x10 + 4 * lane))

/-- BOND_RETRAIN (R310): one lane of an UP pair has failed; the pair retrains on the other as UP_HALF. -/
def execBondRetrain (pair failed : Nat) (s : State) : Out :=
  s.clocked (.bondRetrain pair failed) <|
  .next <|
    let l := 2 * pair
    let other := if failed = l then l + 1 else l
    if 5 ≤ pair ∨ (failed ≠ l ∧ failed ≠ l + 1) ∨ !s.fon .PORT_STATUS_BONDED 0 l ∨ s.laneState other ≠ 2
        ∨ (s.laneState failed ≠ 2 ∧ s.laneState failed ≠ 0) then s else
    let s := ((s.setLane failed 0).setLane other 3).fcount .PORT_ERR_RETRAINS 1 0 other
    ((s.loseTransit fun x => x.out = l && !x.f.sroute).modLane other fun x => { x with
      totals := (x.totals.1, x.totals.2.1, satAdd 0xFFFFFFFF x.totals.2.2 1) }).freshLane other

/-- FABRIC_REF_LOSS (R457): every lane that is not OFF or FAILED goes DOWN. -/
def execFabricRefLoss (s : State) : Out :=
  .next ((List.range 12).foldl (fun s l => if s.laneState l = 4 ∨ s.laneState l = 6 then s else s.setLane l 0)
    { s.fset .CLK_STATUS_FABRIC_REF 0 with
      startup := { s.startup with refs := s.startup.refs &&& 0x8000000 }, fab := { s.fab with retraining := [] } })

/-- FABRIC_REF_RETURN (R457): lanes may train. -/
def execFabricRefReturn (s : State) : Out := .next (s.fset .CLK_STATUS_FABRIC_REF 1)

/-- Lanes that a stored or written FabricPortEnable turns OFF or on again (R311). A lane replaced by a spare stays OFF. -/
def State.applyPortEnable (s : State) (v : Nat) : State :=
  (List.range 12).foldl (fun s l =>
    if !bit v l then s.setLane l 6
    else if (s.laneState l = 6 || (s.laneState l = 4 && !bit (s.dval 0x6001 2 0x0FFF) l)) && (10 ≤ l || s.carrier l = l) then
      (s.setLane l 0).modLane l fun x => { x with fails := 0 }
    else s) s

/-! ### Spares (R312, R313) -/

/-- R312 allows the spare to stand in for the port: its own connector, the same neighbour, the neighbour's facing spare. -/
def State.spareAllowed (s : State) (port spare : Nat) : Bool :=
  port < 10 && spare < 2 && port / 5 = spare &&
  match (s.lane port).far, (s.lane (10 + spare)).far with
  | some a, some b => a.serial = b.serial && 10 ≤ b.lane && (b.lane = 10) = (a.lane < 5)
  | _, _ => false

/-- A lane is to retrain after a substitution: DOWN, or OFF where FabricPortEnable has it so (R311, R313). A doorbell waits
until that training ends. -/
def State.retrain (s : State) (l : Nat) : State :=
  if !bit (s.dval 0x6001 2 0x0FFF) l then s.setLane l 6
  else
    let s := s.setLane l 0
    { s with fab := { s.fab with retraining := s.fab.retraining ++ [l] } }

/-- A spare takes a port's frame stream and retrains; the port's own lane goes OFF (R313). -/
def State.assignSpare (s : State) (port spare : Nat) : State :=
  ((s.setLane port 6).withPorts fun s => s.fset .PORT_STATUS_STANDS_FOR port 0 (10 + spare)).retrain (10 + spare)

/-- A spare is released: its port's own lane may train again (R313). -/
def State.releaseSpare (s : State) (spare : Nat) : State :=
  let l := 10 + spare
  let p := s.fget .PORT_STATUS_STANDS_FOR 0 l
  if p = 15 then s else
  let s := (s.setLane l 0).withPorts fun s => s.fset .PORT_STATUS_STANDS_FOR 15 0 l
  let s := if bit (s.dval 0x6001 2 0x0FFF) l then s else s.setLane l 6
  if s.laneState p = 6 then s.retrain p else s

/-- The latched requests act (R313). -/
def State.substitute (s : State) : State :=
  s.fab.spareReq.foldl (fun s r => match r.1 with
    | some p => s.assignSpare p r.2
    | none => s.releaseSpare r.2) { s with fab := { s.fab with spareReq := [] } }

/-- SPARE_SUBSTITUTION (R313): after phase 7 and before the next doorbell. -/
def execSpareSubstitution (s : State) : Out :=
  s.clocked .spareSubstitution <|
  .next (if s.job.current.isSome then s else s.substitute)

/-- A spare request is accepted (R313): at once when no step is in progress, else latched until the commit boundary. -/
def State.requestSpare (s : State) (r : Option Nat × Nat) : State :=
  let s := { s with fab := { s.fab with spareReq := s.fab.spareReq ++ [r] } }
  if s.job.current.isSome then s else s.substitute

/-! ### Addresses and routing (R320 to R324) -/

/-- FabricAddress in force (R320). -/
def State.setAddress (s : State) (v : Nat) : State :=
  ((s.setDval 0x6000 1 v).fset .FABRIC_STATUS_ADDRESS v).fset .FABRIC_STATUS_ADDRESS_VALID (b2n (v ≠ 0xFFFF))

/-- The routing table's entry of an address (R322). -/
def State.routeEntry (s : State) (a : Nat) : Nat :=
  match s.doms.find? (dkey 0x6004 1) with
  | some b => fieldAt b (4 * a) 4
  | none => if a = s.address then 0xFFFE else 0xFFFF

/-- The first alternate of an entry that a set of ports can use, 14 for this module. -/
def firstAlt (e : Nat) (ups : List Nat) : Option Nat :=
  (List.range 4).findSome? fun k =>
    let p := bits e (4 * k) 4
    if p = 14 ∨ (p < 10 ∧ p ∈ ups) then some p else none

/-- The selected alternate (R323), from the sets of usable ports since the attempt's start: the first usable one there, kept
until its port stops being usable, then the first usable one at that moment. While none is selected, a port that comes back
is not used. -/
def selectAlt (e : Nat) : List (List Nat) → Option Nat
  | [] => none
  | ups :: rest => rest.foldl (fun cur ups => cur.bind fun p => if p = 14 ∨ p ∈ ups then some p else firstAlt e ups)
      (firstAlt e ups)

/-- The port that a frame to `a` leaves by (R323): the next SPREAD port in turn, or the selected alternate; 14 for this
module, none for no route. -/
def State.routeTo (s : State) (a : Nat) : Option Nat :=
  if 16383 < a then none else
  let e := s.routeEntry a
  match s.upPorts.filter fun p => bit e (16 + p) with
  | p :: ps =>
    let last := s.fab.turns.get a 0
    some (((p :: ps).find? fun q => last ≤ q).getD p)
  | [] => selectAlt e (if s.fab.ups = [] then [s.upPorts] else s.fab.ups)

/-- A frame to `a` has left by port `p`: the turn of a spread destination moves on. -/
def State.tookRoute (s : State) (a p : Nat) : State :=
  if bits (s.routeEntry a) 16 10 = 0 then s else { s with fab := { s.fab with turns := s.fab.turns.put a (p + 1) } }

/-! ### Connections (R325, R327) -/

/-- The context of a peer that is not CLOSED. -/
def State.ctxOf (s : State) (peer : Nat) : Option (Nat × Ctx) := List.find? (fun (c : Nat × Ctx) => c.2.peer = peer) s.fab.ctxs

/-- Replace a context. -/
def State.setCtx (s : State) (n : Nat) (c : Ctx) : State := { s with fab := { s.fab with ctxs := s.fab.ctxs.put n c } }

/-- The lowest free context number (R325). -/
def State.freeCtx (s : State) : Option Nat :=
  if 4096 ≤ s.fab.ctxs.length then none
  else (List.range (s.fab.ctxs.length + 1)).find? fun n => (s.fab.ctxs.find? n).isNone

/-- Kinds of CONNECT messages. -/
def kOpen : Nat := 0
def kOpenAck : Nat := 1
def kRefused : Nat := 2
def kClose : Nat := 3
def kCloseAck : Nat := 4
def kCredit : Nat := 5

/-- Classes with end-to-end credits. -/
def creditClasses : List Nat := [3, 4, 5, 6, 7, 8]

/-- Frames that the receive pool holds beyond those granted (R327), a frame of 2,080 bytes each (DESIGN CHOICE, assumption 32). -/
def State.poolFree (s : State) : Nat :=
  let granted := (s.fab.ctxs.map fun c => ([6, 7, 8].map fun k => c.2.granted.get k 0).foldl (· + ·) 0).foldl (· + ·) 0
  s.dval 0x6008 2 0 / 2080 - granted

/-- Grant a context its credits (R327): what the pool covers, at least 1 per class; the rest is owed. -/
def State.grant (s : State) (n : Nat) : List (Nat × Nat) × State :=
  creditClasses.foldl (fun (out, s) k =>
    let want := if k < 6 then 4 else s.dval 0x6009 1 32
    let have_ := if k < 6 then want else max 1 (min want s.poolFree)
    match s.fab.ctxs.find? n with
    | none => (out, s)
    | some c => (out ++ [(k, have_)],
        s.setCtx n { c with granted := c.granted.put k have_, owed := c.owed.put k (want - have_) })) ([], s)

/-- Credits that a short pool still owes are granted as buffers free (R327). -/
def State.grantOwed (s : State) : State :=
  s.fab.ctxs.foldl (fun s x => [6, 7, 8].foldl (fun s k =>
    match s.fab.ctxs.find? x.1 with
    | none => s
    | some c =>
      let n := min (c.owed.get k 0) s.poolFree
      if n = 0 then s else
      (s.setCtx x.1 { c with granted := c.granted.put k (c.granted.get k 0 + n), owed := c.owed.put k (c.owed.get k 0 - n) }).post
        c.peer (.connect kCredit x.1 [(k, n)])) s) s

/-- A context is CLOSED: it is free again. -/
def State.closeCtx (s : State) (n : Nat) : State :=
  { s with fab := { s.fab with ctxs := s.fab.ctxs.del n } }.grantOwed

/-- Return the freed credits of a class (R327). -/
def State.returnCredits (s : State) (n k : Nat) : State :=
  match s.fab.ctxs.find? n with
  | none => s
  | some c =>
    let f := c.freed.get k 0
    if f = 0 then s else (s.setCtx n { c with freed := c.freed.put k 0 }).post c.peer (.connect kCredit n [(k, f)])

/-- Buffers of a class have freed: 8 of them are returned at once. -/
def State.freeCredits (s : State) (n k count : Nat) : State :=
  match s.fab.ctxs.find? n with
  | none => s
  | some c =>
    let f := c.freed.get k 0 + count
    let s := s.setCtx n { c with freed := c.freed.put k f }
    if 8 ≤ f then s.returnCredits n k else s

/-- CREDIT_RETURN_TIMER (R327). -/
def execCreditReturnTimer (ctx cls : Nat) (s : State) : Out :=
  s.clocked (.creditReturnTimer ctx cls) <|
  .next (s.returnCredits ctx cls)

/-- OPEN (R325, R327): a free context answers OPEN_ACK with its credits; none left answers REFUSED. An OPEN from a peer
that has a context is answered from that context. (DEDUCED, assumption 54.) -/
def State.connOpen (s : State) (peer theirs : Nat) : State :=
  let ack (s : State) (n : Nat) : State :=
    let (g, s) := s.grant n
    s.post peer (.connect kOpenAck n g)
  match s.ctxOf peer with
  | some (n, c) =>
    if c.state = 3 then ack (s.setCtx n { peer := peer, theirs := theirs, state := 2 }) n
    else ack (s.setCtx n { c with theirs := theirs }) n
  | none => match s.freeCtx with
    | some n => ack (s.setCtx n { peer := peer, theirs := theirs, state := 2 }) n
    | none => (s.raiseS .contextFull).post peer (.connect kRefused theirs [])

/-- OPEN (R325). -/
def execConnOpen (peer theirCtx : Nat) (s : State) : Out :=
  s.clocked (.connOpen peer theirCtx) <|
  .next (s.connOpen peer theirCtx)

/-- OPEN_ACK (R325): the context is OPEN with the credits granted; this side grants its own. -/
def State.connOpenAck (s : State) (peer theirs : Nat) (credits : List (Nat × Nat)) : State :=
  match s.ctxOf peer with
  | some (n, c) =>
    if c.state ≠ 1 then s else
    let s := s.setCtx n { c with theirs := theirs, state := 2, credits := credits.foldl (fun m k => m.put k.1 k.2) c.credits }
    if c.granted ≠ [] then s else
    let (g, s) := s.grant n
    s.post peer (.connect kCredit n g)
  | none => s

/-- OPEN_ACK (R325): credits of classes 3 to 8 in order. -/
def execConnOpenAck (peer theirCtx : Nat) (credits : List Nat) (s : State) : Out :=
  s.clocked (.connOpenAck peer theirCtx credits) <|
  .next (s.connOpenAck peer theirCtx (creditClasses.zip credits))

/-- REFUSED (R325): the context stays OPENING; the OPEN is sent again by OPEN_RETRY_TIMEOUT. -/
def State.connRefused (s : State) (peer : Nat) : State :=
  match s.ctxOf peer with
  | some (n, c) => if c.state = 1 then s.setCtx n { c with theirs := 0xFFFF } else s
  | none => s

/-- REFUSED (R325). -/
def execConnRefused (peer : Nat) (s : State) : Out :=
  s.clocked (.connRefused peer) <|
  .next (s.connRefused peer)

/-- CLOSE (R325): the context is freed and acknowledged. -/
def State.connClose (s : State) (peer : Nat) : State :=
  match s.ctxOf peer with
  | some (n, c) => (s.closeCtx n).post peer (.connect kCloseAck c.theirs [])
  | none => s.post peer (.connect kCloseAck 0xFFFF [])

/-- CLOSE (R325). -/
def execConnClose (peer : Nat) (s : State) : Out :=
  s.clocked (.connClose peer) <|
  .next (s.connClose peer)

/-- CLOSE_ACK (R325). -/
def State.connCloseAck (s : State) (peer : Nat) : State :=
  match s.ctxOf peer with
  | some (n, c) => if c.state = 3 then s.closeCtx n else s
  | none => s

/-- CLOSE_ACK (R325). -/
def execConnCloseAck (peer : Nat) (s : State) : Out :=
  s.clocked (.connCloseAck peer) <|
  .next (s.connCloseAck peer)

/-- CREDIT (R327). -/
def State.connCredit (s : State) (peer cls n : Nat) : State :=
  match s.ctxOf peer with
  | some (i, c) => s.setCtx i { c with credits := c.credits.put cls (c.credits.get cls 0 + n), used := c.used.put cls (c.used.get cls 0 - n) }
  | none => s

/-- CREDIT (R327). -/
def execConnCredit (peer cls n : Nat) (s : State) : Out :=
  s.clocked (.connCredit peer cls n) <|
  .next (s.connCredit peer cls n)

/-- OPEN_RETRY_TIMEOUT (R325): an OPENING context sends OPEN again, without limit. -/
def execOpenRetryTimeout (ctx : Nat) (s : State) : Out :=
  s.clocked (.openRetryTimeout ctx) <|
  .next <| match s.fab.ctxs.find? ctx with
    | some c => if c.state = 1 then s.post c.peer (.connect kOpen ctx []) else s
    | none => s

/-- Traffic waits for the peer: a message, or frames of one. -/
def State.trafficTo (s : State) (peer : Nat) : Bool :=
  s.netOut.any (fun m => m.1 = peer && connClass (msgClass m.2)) || s.fab.tx.any fun t => t.dest = peer && connClass t.cls

/-- CONTEXT_IDLE_CLOSE (R325): idle with no credits outstanding, the context sends CLOSE. -/
def execContextIdleClose (ctx : Nat) (s : State) : Out :=
  s.clocked (.contextIdleClose ctx) <|
  .next <| match s.fab.ctxs.find? ctx with
    | some c =>
      if c.state = 2 ∧ !s.trafficTo c.peer ∧ c.rx = [] ∧ c.used.all (·.2 = 0) ∧ c.freed.all (·.2 = 0) then
        (s.setCtx ctx { c with state := 3 }).post c.peer (.connect kClose ctx [])
      else s
    | none => s

/-- CLOSING_TIMEOUT (R325). -/
def execClosingTimeout (ctx : Nat) (s : State) : Out :=
  s.clocked (.closingTimeout ctx) <|
  .next <| match s.fab.ctxs.find? ctx with
    | some c => if c.state = 3 then s.closeCtx ctx else s
    | none => s

/-! ### Sending (R316, R317) -/

/-- Hand one waiting message to the ports: cut it into frames when it needs no connection or its connection is OPEN; open
a context for a new peer, or keep the message waiting (R325). -/
def State.handOver (s : State) (dest : Nat) (m : OutMsg) : State :=
  let cls := msgClass m
  let key := msgKey m
  let base : Frame := { dest := dest, src := s.address, cls := cls, hopLimit := s.dval 0x6000 2 32, attempt := key.2
                        stepLow := key.1 % 2 ^ 32 }
  let keep (s : State) : State := { s with netOut := s.netOut ++ [(dest, m)] }
  match m with
  | .srouted _ _ _ =>
    { s with fab := { s.fab with tx := s.fab.tx ++ [⟨dest, cls, framesOf { base with sroute := true } (msgBytes m)⟩] } }
  | .connect _ _ _ => { s with fab := { s.fab with tx := s.fab.tx ++ [⟨dest, cls, framesOf base (msgBytes m)⟩] } }
  | _ => match s.ctxOf dest with
    | some (n, c) =>
      if c.state ≠ 2 ∨ c.theirs = 0xFFFF then keep s else
      let q := c.seqTx.get cls 0
      let s := s.setCtx n { c with seqTx := c.seqTx.put cls ((q + 1) % 2 ^ 32) }
      { s with fab := { s.fab with
          tx := s.fab.tx ++ [⟨dest, cls, framesOf { base with context := c.theirs, msgSeq := q } (msgBytes m)⟩] } }
    | none => match s.freeCtx with
      | some n => keep (((s.setCtx n { peer := dest }).post dest (.connect kOpen n [])))
      | none => keep s

/-- Hand every waiting message to the ports, oldest first, then the CONNECT messages that this made. -/
def State.pump (s : State) : State :=
  let go (s : State) : State :=
    let ms := s.netOut
    ms.foldl (fun s m => s.handOver m.1 m.2) { s with netOut := [] }
  go (go s)

/-- The lane or port by which a frame of this module leaves. -/
def State.outOf (s : State) (f : Frame) : Option Nat :=
  if f.sroute then (let l := fieldAt f.payload 2 1; if s.laneUp l then some (s.portOf l) else none)
  else s.routeTo f.dest

/-- The frames that the routing table sends to this module itself (R323), and the state without them. -/
def State.loopBack (s : State) : List Frame × State :=
  let (own, rest) := s.fab.tx.partition fun t => match t.frames with | f :: _ => s.outOf f = some 14 | [] => false
  (own.flatMap TxMsg.frames, { s with fab := { s.fab with tx := rest } })

/-- Messages with no route are dropped; a class bound to an attempt also raises NO_ROUTE (R323). A source-routed frame
whose first lane is down is dropped (R321). -/
def State.dropRouteless (s : State) : State :=
  let (bad, good) := s.fab.tx.partition fun t => match t.frames with | f :: _ => s.outOf f = none | [] => false
  let s := { s with fab := { s.fab with tx := good } }
  bad.foldl (fun s t =>
    if t.frames.any (·.sroute) then s else
    let s := s.fcount .FABRIC_COUNT0_NO_ROUTE_FRAMES t.frames.length
    if boundClass t.cls && s.running && t.frames.all (fun f => f.attempt = s.job.attempt) then s.raiseIn .noRoute none else s) s

/-- The port holds a link credit for a class (R326). -/
def State.linkCredit (s : State) (port cls : Nat) : Bool := (s.lane (s.portLane port)).credits.get cls 0 ≠ 0

/-- The connection holds an end-to-end credit for the frame (R327). -/
def State.endCredit (s : State) (t : TxMsg) : Bool :=
  t.frames.any (·.sroute) || !connClass t.cls ||
  match s.ctxOf t.dest with | some (_, c) => c.credits.get t.cls 0 ≠ 0 | none => false

/-- A message of a class may send its next frame on a port: it is its connection's oldest. -/
def State.sendable (s : State) (port cls : Nat) (t : TxMsg) : Bool :=
  t.cls = cls && s.linkCredit port cls && s.endCredit t &&
  (match t.frames with | f :: _ => s.outOf f = some port | [] => false) &&
  s.fab.tx.find? (fun u => u.cls = cls && u.dest = t.dest) = some t

/-- A connection as a port sees it: its source and destination in one number. -/
def connKey (src dest : Nat) : Nat := 65536 * src + dest

/-- What a connection has ready for a port: a frame of the transit buffer, or the next frame of a message of this module. -/
inductive Ready where
  | transit (x : Transit)
  | own (t : TxMsg)
  deriving DecidableEq, Repr

/-- The frame that is ready. -/
def Ready.frame? : Ready → Option Frame
  | .transit x => some x.f
  | .own t => t.frames.head?

/-- The frames of a class that may go on a port, of each connection its oldest, with the connection's key. -/
def State.sendReady (s : State) (port cls : Nat) : List (Nat × Ready) :=
  if !s.linkCredit port cls then [] else
  let ts := (s.fab.transit.filter fun x => x.out = port && x.f.cls = cls).map fun x => (connKey x.f.src x.f.dest, Ready.transit x)
  let os := (s.fab.tx.filter (s.sendable port cls)).map fun t => (connKey s.address t.dest, Ready.own t)
  ts ++ os

/-- The connection of a class that goes next on a port (R317): the one whose message has begun, else the next in turn by
key. -/
def State.nextConn (s : State) (port cls : Nat) : Option (Nat × Ready) :=
  let rs := s.sendReady port cls
  let (last, on) := s.fab.connTurns.get (16 * port + cls) (0, false)
  let least (p : Nat → Bool) : Option (Nat × Ready) :=
    rs.find? fun r => p r.1 && rs.all fun q => !p q.1 || r.1 ≤ q.1
  match if on then rs.find? fun r => r.1 = last else none with
  | some r => some r
  | none => (least fun k => last < k).orElse fun _ => least fun _ => true

/-- Classes in the order a port serves them (R317): priorities 1 and 2, then those of priority 3 in turn. -/
def State.classOrder (s : State) (port : Nat) : List Nat :=
  let c := s.fab.classTurns.get port 6
  [0, 1, 2, 3, 4, 5] ++ (if c = 7 then [7, 8, 6] else if c = 8 then [8, 6, 7] else [6, 7, 8])

/-- The lane of a port that takes its next codeword (R310): of a pair that is UP the lanes alternate, the even one first in
each alignment group; of one that is UP_HALF the lane that runs. -/
def State.nextLane (s : State) (port : Nat) : Nat :=
  let a := s.carrier port
  if !s.fon .PORT_STATUS_BONDED 0 port then a else
  let b := s.carrier (port + 1)
  if s.laneState a = 3 then a else if s.laneState b = 3 then b
  else if (s.lane a).txPos = (s.lane b).txPos then a else b

/-- One codeword leaves by a port (R314): up to twenty words, and two classes' owed link credits (R326). -/
def State.putCodeword (s : State) (port : Nat) (ws : List (Nat × List Byte)) : State :=
  let l := s.nextLane port
  let owed := (s.lane (s.portLane port)).owed.filter (·.2 ≠ 0)
  let give := (owed.take 2).map fun c => (c.1, min c.2 4095)
  let left := (owed.take 2).filterMap (fun c => if 4095 < c.2 then some (c.1, c.2 - 4095) else none) ++ owed.drop 2
  let x := s.lane l
  let (sym, scr) := lineEncode { words := ws, align := x.txPos = 0, credits := give } x.txScr
  let pos := (x.txPos + 1) % 1024
  let s := s.modLane l fun x => { x with txPos := pos, txScr := if pos = 0 then scrSeed else scr }
  let s := s.modLane (s.portLane port) fun x => { x with owed := left }
  { s with fab := { s.fab with line := s.fab.line ++ [(l, sym)] } }

/-- Words leave by a port in codewords of twenty; IDLE words fill the last (DESIGN CHOICE, assumption 106). -/
def State.putWords (s : State) (port : Nat) (ws : List (Nat × List Byte)) : State :=
  (List.range (max 1 (ceilDiv ws.length 20))).foldl (fun s i => s.putCodeword port ((ws.drop (20 * i)).take 20)) s

/-- A frame of class `cls` has left by a port: it is on the lane, a link credit is spent, the class's turn is over, and the
connection keeps the next turn while its message goes on. -/
def State.onWire (s : State) (port cls : Nat) (f : Frame) : State :=
  let s := s.modLane (s.portLane port) fun x => { x with credits := x.credits.put cls (x.credits.get cls 0 - 1) }
  let s := { s with fab := { s.fab with
    wire := s.fab.wire ++ [(s.carrier port, f)]
    connTurns := s.fab.connTurns.put (16 * port + cls) (connKey f.src f.dest, !f.last)
    classTurns := if cls < 6 then s.fab.classTurns else s.fab.classTurns.put port (6 + (cls - 5) % 3) } }
  s.putWords port (frameLine f)

/-- Send a frame of the transit buffer. -/
def State.sendTransit (s : State) (port cls : Nat) (x : Transit) : State :=
  ({ s with fab := { s.fab with transit := s.fab.transit.erase x } }.owe x.lane cls).onWire port cls x.f

/-- Send the next frame of a message of this module. With its first frame the message is an item of FABRIC_TX (R386). -/
def State.sendOwn (s : State) (port cls : Nat) (t : TxMsg) (f : Frame) : State :=
  let rest := t.frames.drop 1
  let tx := s.fab.tx.flatMap fun u => if u = t then (if rest = [] then [] else [{ t with frames := rest }]) else [u]
  let s := { s with fab := { s.fab with tx := tx } }
  let s := if f.first then s.snooped { source := 4, channel := cls, peer := f.dest } 0 (some f.msgSeq) (t.frames.flatMap Frame.payload)
    else s
  let s := if f.sroute then s else s.tookRoute f.dest port
  let s := if f.sroute || !connClass cls then s else match s.ctxOf t.dest with
    | some (n, c) => s.setCtx n { c with
        credits := c.credits.put cls (c.credits.get cls 0 - 1), used := c.used.put cls (c.used.get cls 0 + 1) }
    | none => s
  s.onWire port cls f

/-- The frame that a port sends next (R317), with its class. -/
def State.nextFrame (s : State) (port : Nat) : Option (Nat × Ready) :=
  (s.classOrder port).findSome? fun c => (s.nextConn port c).map fun r => (c, r.2)

/-! ### Transit (R321, R323, R324) -/

/-- Byte `i` of a payload replaced. -/
def putByte (b : List Byte) (i v : Nat) : List Byte := setAt b i (BitVec.ofNat 8 v)

/-- A source-routed frame as a module on its path leaves it (R321): the arrival lane in Reply. -/
def markReply (lane : Nat) (p : List Byte) : List Byte :=
  let n := fieldAt p 34 1
  putByte (putByte p (35 + n) lane) 34 (n + 1)

/-- A source-routed frame has reached its module. -/
def routeDone (f : Frame) : Bool := fieldAt f.payload 0 1 ≤ fieldAt f.payload 1 1

/-- A frame is taken as this module's own (R320, R321, R323). LINK frames travel one hop only (R317).
(DEDUCED, assumption 51.) -/
def State.isMine (s : State) (f : Frame) : Bool :=
  if f.sroute then routeDone f else f.cls = 0 || f.dest = s.address || s.routeTo f.dest = some 14

/-- FRAME_FORWARD (R321, R323, R324): a frame for another module goes to the transit buffer of its outgoing port, or is
dropped. A module without an address forwards only LINK, DISCOVERY and source-routed DICTIONARY frames (R320).
(DEDUCED, assumption 51.) -/
def State.forward (s : State) (lane : Nat) (f : Frame) : State :=
  if s.isMine f then s else
  let put (s : State) (out : Nat) (f : Frame) : State :=
    { s with fab := { s.fab with transit := s.fab.transit ++ [⟨lane, out, f⟩] } }
  let drop (s : State) : State := s.owe lane f.cls
  if s.address = 0xFFFF ∧ 1 < f.cls ∧ !(f.sroute ∧ f.cls = 5) then drop s
  else if f.sroute then
    let p := markReply lane f.payload
    let l := fieldAt p (2 + fieldAt p 1 1) 1
    if s.laneUp l then put s (s.portOf l) { f with payload := putByte p 1 (fieldAt p 1 1 + 1) } else drop s
  else if f.hopLimit < 2 then (drop s).fcount .FABRIC_COUNT0_HOP_EXPIRED 1
  else match s.routeTo f.dest with
    | some p => (put s p { f with hopLimit := f.hopLimit - 1 }).tookRoute f.dest p
    | none => (drop s).fcount .FABRIC_COUNT0_NO_ROUTE_FRAMES 1

/-- FRAME_FORWARD (R323). -/
def execFrameForward (lane : Nat) (f : Frame) (s : State) : Out :=
  s.clocked (.frameForward lane f) <|
  .next (if s.laneUp lane then s.forward lane f else s)

/-! ### Discovery (R321) -/

/-- PORT_STATUS of every lane (R349). -/
def State.laneStatusTable (s : State) : List Byte := (List.range 12).flatMap fun l => bytesOf 4 (s.rword .fabric 0 (0x10 + 4 * l))

/-- NeighbourTable (R312, R349). -/
def State.neighbourTable (s : State) : List Byte :=
  (List.range 12).flatMap fun l => match (s.lane l).far with
    | some n => List.flatten [bytesOf 8 n.serial, bytesOf 2 n.addr, bytesOf 1 n.lane, List.replicate 5 0]
    | none => List.replicate 16 0

/-- The body of an IDENTIFY reply (R321). -/
def State.identity (s : State) : List Byte :=
  List.flatten [bytesOf 1 0x81, bytesOf 4 productCode, bytesOf 8 (Config.identity 0x1018 4), bytesOf 2 s.address,
    s.laneStatusTable, s.neighbourTable]

/-- Answer an IDENTIFY along the reply path, in reverse order (R321). -/
def State.answerIdentify (s : State) (lane : Nat) (reply : List Nat) : State :=
  s.post 0xFFFF (.srouted 1 (reply ++ [lane]).reverse s.identity)

/-- IDENTIFY (R321): `reply` is the reply path as the frame brought it. -/
def execIdentify (lane : Nat) (reply : List Nat) (s : State) : Out :=
  s.clocked (.identify lane reply) <|
  .next (if s.laneUp lane then s.answerIdentify lane reply else s)

/-- IDENTIFY_REPLY (R321): the reply has come back to the module that asked. -/
def State.takeReply (s : State) (lane : Nat) (body : List Byte) : State :=
  if fieldAt body 0 1 = 0x81 then { s with fab := { s.fab with replies := s.fab.replies ++ [(lane, body)] } } else s

/-- IDENTIFY_REPLY (R321). -/
def execIdentifyReply (lane : Nat) (body : List Byte) (s : State) : Out :=
  s.clocked (.identifyReply lane body) <|
  .next (if s.laneUp lane then s.takeReply lane body else s)

end Sys2Proof.Machine
end

