-- ==== Sys2Proof/Machine/Mailbox.lean ====
section
/-! DEFINITION. Fabric mailboxes (R344 to R346) and host mailboxes (R408 to R411). -/

namespace Sys2Proof.Machine

/-- An interrupt of the management firmware from a source: 0 to 15 fabric mailboxes, 16 to 23 host mailboxes; it crosses by
X12 (R461). -/
def State.fwIrq (s : State) (src : Nat) : State :=
  s.event 26 2 src fun s => { s with mgmt := { s.mgmt with irqs := s.mgmt.irqs.modify src 0 (· + 1) } }

/-! ### One side of a mailbox -/

/-- Message `num` of `words` enters the receive queue; it is owed a TAKEN unless `done` at once. -/
def Fmb.take (q : Fmb) (words : List Word) (num : Nat) (done : Bool) : Fmb :=
  { q with rx := q.rx ++ words, owes := if done then q.owes else q.owes ++ [(words.length, num)] }

/-- Pop the head word: whether the oldest message has no word left. -/
def Fmb.pop (q : Fmb) : Fmb × Bool :=
  match q.owes with
  | (n, k) :: rest => if n ≤ 1 then ({ q with rx := q.rx.drop 1, owes := (0, k) :: rest }, true)
    else ({ q with rx := q.rx.drop 1, owes := (n - 1, k) :: rest }, false)
  | [] => ({ q with rx := q.rx.drop 1 }, false)

/-- The oldest message is taken: what is left of it leaves the queue. -/
def Fmb.ack (q : Fmb) : Fmb :=
  match q.owes with
  | x :: rest => { q with rx := q.rx.drop x.1, owes := rest }
  | [] => q

/-! ### Fabric mailboxes -/

/-- A fabric mailbox. -/
def State.fmb (s : State) (m : Nat) : Fmb := s.fmbs.get m {}

/-- Change a fabric mailbox; its levels follow. -/
def State.modFmb (s : State) (m : Nat) (f : Fmb → Fmb) : State :=
  let q := f (s.fmb m)
  let s := { s with fmbs := s.fmbs.put m q }
  (s.fset .FMB_TX_STATUS_TX_LEVEL q.tx.length 0 m).fset .FMB_RX_STATUS_RX_LEVEL q.rx.length 0 m

/-- The mailbox sends and receives (R348). -/
def State.fmbOn (s : State) (m : Nat) : Bool := m < 16 && s.fon .FMB_CFG_ENABLE 0 m

/-- FMB_TX_DATA (R345). -/
def State.fmbPush (s : State) (m : Nat) (w : Word) : State :=
  if !s.fmbOn m then s
  else if s.fon .FMB_TX_STATUS_BUSY 0 m ∨ 16 ≤ (s.fmb m).tx.length then s.fset .FMB_TX_STATUS_TX_OVERRUN 1 0 m
  else s.modFmb m fun q => { q with tx := q.tx ++ [w] }

/-- FMB_TX_DATA (R345). -/
def execFmbTxData (m : Nat) (w : Word) (s : State) : Out :=
  s.clocked (.fmbTxData m w) <|
  .next (s.fmbPush m w)

/-- FMB_TX_BELL (R345): the queued words and the bells go as one message. -/
def State.fmbBell (s : State) (m : Nat) (bells : Word) : State :=
  if !s.fmbOn m then s
  else if s.fon .FMB_TX_STATUS_BUSY 0 m then s.fset .FMB_TX_STATUS_TX_OVERRUN 1 0 m
  else
    let ws := (s.fmb m).tx
    let num := (s.fmb m).sent + 1
    let s := (s.modFmb m fun q => { q with tx := [], sent := num }).fset .FMB_TX_STATUS_BUSY 1 0 m
    s.post (s.fget .FMB_CFG_REMOTE_ADDR 0 m) (.mail m (s.fget .FMB_CFG_REMOTE_BOX 0 m) num bells ws)

/-- FMB_TX_BELL (R345). -/
def execFmbTxBell (m : Nat) (bells : Word) (s : State) : Out :=
  s.clocked (.fmbTxBell m bells) <|
  .next (s.fmbBell m bells)

/-- TAKEN of a message goes back to the remote mailbox. -/
def State.fmbTaken (s : State) (m num : Nat) : State :=
  s.post (s.fget .FMB_CFG_REMOTE_ADDR 0 m) (.taken m (s.fget .FMB_CFG_REMOTE_BOX 0 m) num)

/-- Words and bells of a message enter a fabric mailbox; without room for its words the message waits. -/
def State.fmbEnter (s : State) (m num : Nat) (bells : Word) (words : List Word) : State :=
  if 16 < (s.fmb m).rx.length + words.length then
    s.modFmb m fun q => { q with inbox := q.inbox ++ [(bells, words, num)] }
  else
    let s := s.modFmb m fun q => q.take words num (words = [])
    let s := s.fset .FMB_RX_BELL_BELLS (s.fget .FMB_RX_BELL_BELLS 0 m ||| bells.toNat) 0 m
    let s := if bells.toNat &&& s.fget .FMB_RX_MASK_MASK 0 m ≠ 0 then s.fwIrq m else s
    if words = [] then s.fmbTaken m num else s

/-- MAILBOX_MESSAGE (R344, R345): from the bound mailbox alone. -/
def State.mailIn (s : State) (src srcBox box num : Nat) (bells : Word) (words : List Word) : State :=
  if !s.fmbOn box ∨ s.fget .FMB_CFG_REMOTE_ADDR 0 box ≠ src ∨ s.fget .FMB_CFG_REMOTE_BOX 0 box ≠ srcBox then
    s.fcount .TRAVEL_COUNT_REJECTS 1
  else s.fmbEnter box num bells (words.take 16)

/-- MAILBOX_MESSAGE (R345). -/
def execMailboxMessage (src srcBox box num : Nat) (bells : Word) (words : List Word) (s : State) : Out :=
  s.clocked (.mailboxMessage src srcBox box num bells words) <|
  .next (s.mailIn src srcBox box num bells words)

/-- FMB_RX_DATA (R345): pops a word; the last word of a message returns TAKEN. -/
def State.fmbPop (s : State) (m : Nat) : State :=
  if 16 ≤ m then s else
  match (s.fmb m).rx with
  | [] => { s.fset .FMB_RX_STATUS_RX_UNDERRUN 1 0 m with reply := bytesOf 4 0 }
  | w :: _ =>
    let (q, last) := (s.fmb m).pop
    let num := match q.owes with | x :: _ => x.2 | [] => 0
    let s := { s.modFmb m fun _ => if last then q.ack else q with reply := bytesOf 4 w.toNat }
    let s := if last then s.fmbTaken m num else s
    match (s.fmb m).inbox with
    | [] => s
    | x :: rest => (s.modFmb m fun q => { q with inbox := rest }).fmbEnter m x.2.2 x.1 x.2.1

/-- FMB_RX_DATA (R345). -/
def execFmbRxData (m : Nat) (s : State) : Out :=
  s.clocked (.fmbRxData m) <|
  .next (s.fmbPop m)

/-- FMB_TX_ABORT (R346): on the sender's side only. -/
def State.fmbAbort (s : State) (m : Nat) : State :=
  if 16 ≤ m then s else
  (s.modFmb m fun q => { q with tx := [] }).fset .FMB_TX_STATUS_BUSY 0 0 m

/-- FMB_TX_ABORT (R346). -/
def execFmbTxAbort (m : Nat) (s : State) : Out :=
  s.clocked (.fmbTxAbort m) <|
  .next (s.fmbAbort m)

/-- MAILBOX_TAKEN (R345, R346): one for a message other than the one that is BUSY was for an aborted one and is ignored.
(DEDUCED, assumption 107.) -/
def State.takenIn (s : State) (m num : Nat) : State :=
  if 16 ≤ m then s
  else if !s.fon .FMB_TX_STATUS_BUSY 0 m ∨ num ≠ (s.fmb m).sent then s
  else ((s.fset .FMB_TX_STATUS_BUSY 0 0 m).fset .FMB_TX_STATUS_TAKEN 1 0 m).fwIrq m

/-- MAILBOX_TAKEN (R345). -/
def execMailboxTaken (m num : Nat) (s : State) : Out :=
  s.clocked (.mailboxTaken m num) <|
  .next (s.takenIn m num)

/-! ### Host mailboxes -/

/-- The side's register instance: host mailboxes 0 to 7, the firmware side of the same 8 to 15. -/
def mbKey (fw : Bool) (m : Nat) : Nat := m + 8 * b2n fw

/-- One side of a host mailbox. -/
def State.mb (s : State) (fw : Bool) (m : Nat) : Fmb := s.mbs.get (mbKey fw m) {}

/-- Read a field of a side: both sides have the same registers (R408). -/
def State.mget (s : State) (fw : Bool) (f : Fld) (m : Nat) : Nat := s.fget { f with sec := if fw then .mbFw else .mbHost } m

/-- Set a field of a side. -/
def State.mset (s : State) (fw : Bool) (f : Fld) (v m : Nat) : State :=
  s.fset { f with sec := if fw then .mbFw else .mbHost } v m

/-- Change a side; its levels and its head word follow. -/
def State.modMb (s : State) (fw : Bool) (m : Nat) (f : Fmb → Fmb) : State :=
  let q := f (s.mb fw m)
  let s := { s with mbs := s.mbs.put (mbKey fw m) q }
  let s := (s.mset fw .MB_TX_STATUS_TX_LEVEL q.tx.length m).mset fw .MB_RX_STATUS_RX_LEVEL q.rx.length m
  s.mset fw .MB_RX_PEEK_WORD (match q.rx with | w :: _ => w.toNat | [] => 0) m

/-- The condition of a side's interrupt (R412). -/
def State.mbCond (s : State) (fw : Bool) (m : Nat) : Bool :=
  s.mget fw .MB_RX_BELL_BELLS m &&& s.mget fw .MB_RX_MASK_MASK m ≠ 0 ||
  (s.mget fw .MB_TX_STATUS_TAKEN m ≠ 0 && s.mget fw .MB_CFG_TAKEN_IE m ≠ 0)

/-- A side's interrupt is raised on the rising edge of its condition. -/
def State.withMb (s : State) (fw : Bool) (m : Nat) (f : State → State) : State :=
  let t := f s
  if !s.mbCond fw m && t.mbCond fw m then (if fw then t.fwIrq (16 + m) else t.raiseVector (1 + m)) else t

/-- The mailbox is in NOTICE mode (R410). -/
def State.notice (s : State) (m : Nat) : Bool := s.mget false .MB_CFG_MODE m ≠ 0

/-- The side is enabled. -/
def State.mbOn (s : State) (fw : Bool) (m : Nat) : Bool := m < 8 && s.mget fw .MB_CFG_ENABLE m ≠ 0

/-- TAKEN returns to the side `fw` that sent (R409, R411). -/
def State.mbTakenTo (s : State) (fw : Bool) (m : Nat) : State :=
  if (s.mb fw m).aborted ≠ 0 then s.modMb fw m fun q => { q with aborted := q.aborted - 1 }
  else if s.mget fw .MB_TX_STATUS_BUSY m = 0 then s
  else s.withMb fw m fun s => (s.mset fw .MB_TX_STATUS_BUSY 0 m).mset fw .MB_TX_STATUS_TAKEN 1 m

/-- A message enters the queue of side `fw`, or waits while it has no room or is disabled (R409, R411).
(DEDUCED, assumption 55.) -/
def State.mbEnter (s : State) (fw : Bool) (m : Nat) (bells : Word) (words : List Word) : State :=
  if !s.mbOn fw m ∨ 16 < (s.mb fw m).rx.length + words.length then
    s.modMb fw m fun q => { q with inbox := q.inbox ++ [(bells, words, 0)] }
  else
    let done : Bool := words = [] && !s.notice m
    let s := s.modMb fw m fun q => q.take words 0 done
    let s := s.withMb fw m fun s => s.mset fw .MB_RX_BELL_BELLS (s.mget fw .MB_RX_BELL_BELLS m ||| bells.toNat) m
    if done then s.mbTakenTo (!fw) m else s

/-- A message that waited enters when it can. (DEDUCED, assumption 55.) -/
def State.mbNext (s : State) (fw : Bool) (m : Nat) : State :=
  match (s.mb fw m).inbox with
  | [] => s
  | x :: rest =>
    if !s.mbOn fw m ∨ 16 < (s.mb fw m).rx.length + x.2.1.length then s
    else (s.modMb fw m fun q => { q with inbox := rest }).mbEnter fw m x.1 x.2.1

/-- A side's access to its registers: the host's is an access to BAR0. -/
def State.mbSide (s : State) (fw : Bool) (f : State → State) : State := if fw then f s else s.hostAccess f

/-- MB_TX_DATA (R409). -/
def State.mbPush (s : State) (fw : Bool) (m : Nat) (w : Word) : State :=
  if !s.mbOn fw m then s
  else if s.mget fw .MB_TX_STATUS_BUSY m ≠ 0 ∨ 16 ≤ (s.mb fw m).tx.length then s.mset fw .MB_TX_STATUS_TX_OVERRUN 1 m
  else s.modMb fw m fun q => { q with tx := q.tx ++ [w] }

/-- MB_TX_DATA (R409). -/
def execMbTxData (fw : Bool) (m : Nat) (w : Word) (s : State) : Out :=
  s.clocked (.mbTxData fw m w) <|
  .next (s.mbSide fw fun s => s.mbPush fw m w)

/-- MB_TX_BELL (R409, R410): in NOTICE mode a message is exactly 4 words. -/
def State.mbBell (s : State) (fw : Bool) (m : Nat) (bells : Word) : State :=
  if !s.mbOn fw m then s
  else if s.mget fw .MB_TX_STATUS_BUSY m ≠ 0 then s.mset fw .MB_TX_STATUS_TX_OVERRUN 1 m
  else
    let ws := (s.mb fw m).tx
    if s.notice m ∧ ws.length ≠ 4 then s.mset fw .MB_TX_STATUS_TX_FORMAT 1 m
    else ((s.modMb fw m fun q => { q with tx := [] }).mset fw .MB_TX_STATUS_BUSY 1 m).mbEnter (!fw) m bells ws

/-- MB_TX_BELL (R409). -/
def execMbTxBell (fw : Bool) (m : Nat) (bells : Word) (s : State) : Out :=
  s.clocked (.mbTxBell fw m bells) <|
  .next (s.mbSide fw fun s => s.mbBell fw m bells)

/-- MB_RX_HEAD (R409): the destructive read; in QUEUE mode the last word of a message returns TAKEN. -/
def State.mbPop (s : State) (fw : Bool) (m : Nat) : State :=
  if 8 ≤ m then s else
  match (s.mb fw m).rx with
  | [] => { s.mset fw .MB_RX_STATUS_RX_UNDERRUN 1 m with reply := bytesOf 4 0 }
  | w :: _ =>
    let (q, last) := (s.mb fw m).pop
    let taken : Bool := last && !s.notice m
    let s := { s.modMb fw m fun _ => if taken then q.ack else q with reply := bytesOf 4 w.toNat }
    let s := if taken then s.mbTakenTo (!fw) m else s
    s.mbNext fw m

/-- MB_RX_HEAD (R409). -/
def execMbRxHead (fw : Bool) (m : Nat) (s : State) : Out :=
  s.clocked (.mbRxHead fw m) <|
  .next (s.mbSide fw fun s => s.mbPop fw m)

/-- MB_RX_ACK (R409, R410): takes a NOTICE message and discards its remaining words; ignored in QUEUE mode. -/
def State.mbAck (s : State) (fw : Bool) (m : Nat) : State :=
  if 8 ≤ m ∨ !s.notice m ∨ (s.mb fw m).owes = [] then s
  else ((s.modMb fw m Fmb.ack).mbTakenTo (!fw) m).mbNext fw m

/-- MB_RX_ACK (R410). -/
def execMbRxAck (fw : Bool) (m : Nat) (s : State) : Out :=
  s.clocked (.mbRxAck fw m) <|
  .next (s.mbSide fw fun s => s.mbAck fw m)

/-- Messages at a side whose TAKEN is still owed. -/
def State.mbOut (s : State) (fw : Bool) (m : Nat) : Nat := (s.mb fw m).owes.length + (s.mb fw m).inbox.length

/-- MB_TX_ABORT (R411): on the writer's side only; every TAKEN still owed to it will be ignored. -/
def State.mbAbort (s : State) (fw : Bool) (m : Nat) : State :=
  if 8 ≤ m then s else
  (s.modMb fw m fun q => { q with tx := [], aborted := s.mbOut (!fw) m }).mset fw .MB_TX_STATUS_BUSY 0 m

/-- MB_TX_ABORT (R411). -/
def execMbTxAbort (fw : Bool) (m : Nat) (s : State) : Out :=
  s.clocked (.mbTxAbort fw m) <|
  .next (s.mbSide fw fun s => s.mbAbort fw m)

/-- MODE may change: both queues are empty and neither side is BUSY (R408). -/
def State.modeFree (s : State) (m : Nat) : Bool :=
  [false, true].all fun fw => (s.mb fw m).tx = [] && (s.mb fw m).rx = [] && s.mget fw .MB_TX_STATUS_BUSY m = 0

/-- MODE changes: a message of which only the TAKEN was left is no longer acknowledged. (DEDUCED, assumption 55.) -/
def State.mbMode (s : State) (m v : Nat) : State :=
  if s.mget false .MB_CFG_MODE m = v then s else
  let s := (s.mset false .MB_CFG_MODE v m).mset true .MB_CFG_MODE v m
  let s := s.modMb false m fun q => { q with owes := [], aborted := (s.mb true m).inbox.length }
  s.modMb true m fun q => { q with owes := [], aborted := (s.mb false m).inbox.length }

/-- A write of MB_CFG (R408, R415): MODE is shared. A side that becomes enabled takes what waits for it. -/
def State.mbCfg (s : State) (fw : Bool) (m : Nat) (v : Nat) : State :=
  let s := s.withMb fw m fun s =>
    (s.mset fw .MB_CFG_ENABLE (bits v 0 1) m).mset fw .MB_CFG_TAKEN_IE (bits v 2 1) m
  let s := if s.modeFree m then s.mbMode m (bits v 1 1) else s
  s.mbNext fw m

/-- One side is cleared (R411): queues, bells and masks. A TAKEN it owed is never sent; one for its own messages under way
is ignored. -/
def State.mbClear (s : State) (fw : Bool) (m : Nat) : State :=
  let mode := s.mget fw .MB_CFG_MODE m
  let sec : Sec := if fw then .mbFw else .mbHost
  let s := { s with regs := s.regs.filter fun r => !(regKey sec m 0 ≤ r.1 && r.1 < regKey sec m 0 + 256) }
  let s := s.modMb fw m fun _ => { aborted := s.mbOut (!fw) m }
  let s := s.modMb (!fw) m fun q => { q with aborted := 0 }
  s.mset fw .MB_CFG_MODE mode m

/-- The firmware side of every mailbox is cleared by a reset of the management block (R346, R411): the host side sees
PEER_RESET. -/
def State.fwMailReset (s : State) : State :=
  let s := (List.range 8).foldl (fun s m => (s.mbClear true m).mset false .MB_TX_STATUS_PEER_RESET 1 m) s
  { s with fmbs := s.fmbs.map fun q => (q.1, { sent := q.2.sent }),
           regs := s.regs.filter fun r => !(regKey .fabric 0 0x100 ≤ r.1 && r.1 < regKey .fabric 0 0x300) }

end Sys2Proof.Machine
end

