-- ==== Sys2Proof/Machine/CheckUnits.lean ====
section
/-! DEFINITION. The general check-value units (R380 to R389). -/

namespace Sys2Proof.Machine

/-- A 64-bit value of a unit from its two halves. -/
def State.gu64 (s : State) (u : Nat) (lo hi : Fld) : Nat := s.fget lo u + 2 ^ 32 * s.fget hi u

/-- The unit is yours: GU5 to GU15 (R380). -/
def guYours (u : Nat) : Bool := 5 ≤ u && u < 16

/-- The settings of a unit as a CRC set (R381): bits above the width are ignored. -/
def State.guSet (s : State) (u : Nat) : CrcSet :=
  let w := s.fget .GU_CTRL_WIDTH_M1 u + 1
  { w := w, poly := s.gu64 u .GU_POLY_LO_VALUE .GU_POLY_HI_VALUE % 2 ^ w
    init := s.gu64 u .GU_INIT_LO_VALUE .GU_INIT_HI_VALUE % 2 ^ w, refin := s.fon .GU_CTRL_REFIN u
    refout := s.fon .GU_CTRL_REFOUT u, xorout := s.gu64 u .GU_XOROUT_LO_VALUE .GU_XOROUT_HI_VALUE % 2 ^ w }

/-- START finds a width below 8, a reserved code or a generator without its low bit (R387). -/
def State.guBad (s : State) (u : Nat) : Bool :=
  s.fget .GU_CTRL_WIDTH_M1 u < 7 || s.fget .GU_CTRL_FOLD_MODE u = 3 || s.fget .GU_CTRL_FOLD_SRC u = 3
    || 5 < s.fget .GU_SNOOP_SOURCE u || !bit (s.fget .GU_POLY_LO_VALUE u) 0

/-- The RANGE of a unit as its one item (R386); without bytes where it reaches unmapped memory. -/
def State.guRange (s : State) (u : Nat) : GuItem :=
  let a := s.gu64 u .GU_RANGE_ADDR_LO_VALUE .GU_RANGE_ADDR_HI_VALUE
  let n := s.gu64 u .GU_RANGE_LEN_LO_VALUE .GU_RANGE_LEN_HI_VALUE
  let ok : Bool := mappedRange a n
  { addr := a, seq := 0, data := if ok then s.load a n else [], aborted := !ok }

/-- A write of GU_CTRL with START (R387, R388): its settings act, the unit is armed and RESULTS is 0. -/
def State.guArm (s : State) (u : Nat) (ctrl : Nat) : State :=
  if !guYours u then s
  else if s.fon .GU_STATUS_BUSY u then s.fset .GU_STATUS_WRITE_IGNORED 1 u
  else
    let s := s.regWrite .gu u 0 ctrl
    if s.guBad u then s.fset .GU_STATUS_CONFIG_BAD 1 u
    else ((s.fset .GU_STATUS_BUSY 1 u).fset .GU_COUNT_RESULTS 0 u).modGu u fun g => { g with
      items := 0, cur := [], due := if s.fget .GU_SNOOP_SOURCE u = 5 then [s.guRange u] else [] }

/-- GU_START (R388). -/
def execGuStart (u : Nat) (ctrl : Word) (s : State) : Out :=
  s.clocked (.guStart u ctrl) <|
  .next (s.guArm u ctrl.toNat)

/-- GU_STOP (R387): items in progress are abandoned without a result. -/
def State.guDisarm (s : State) (u : Nat) : State :=
  if !guYours u then s else (s.fset .GU_STATUS_BUSY 0 u).modGu u fun g => { g with due := [], cur := [] }

/-- GU_STOP (R387). -/
def execGuStop (u : Nat) (s : State) : Out :=
  s.clocked (.guStop u) <|
  .next (s.guDisarm u)

/-- Bytes of a unit's snoop buffer (R380). -/
def snoopBuffer : Nat := 256 * 1024

/-- The unit watches a stream of many sources (R380). -/
def State.guMany (s : State) (u : Nat) : Bool :=
  (s.fget .GU_SNOOP_SOURCE u = 3 || s.fget .GU_SNOOP_SOURCE u = 4) && s.fget .GU_PEER_PEER u = 0xFFFF

/-- Bytes of the items that stand in a unit's snoop buffer. -/
def Gu.buffered (g : Gu) : Nat := (g.cur.map fun x => x.data.length).foldl (· + ·) 0

/-- GU_ITEM_BEGIN (R380, R387): the oldest item that the stream has brought begins. A stream of a single source is watched in
full; one of many is skipped where the buffer cannot hold it whole, and how much of the items before it the unit has worked
off is free. (DEDUCED, assumption 56.) -/
def execGuItemBegin (u : Nat) (s : State) : Out :=
  s.clocked (.guItemBegin u) <|
  .next <|
    if !guYours u ∨ !s.fon .GU_STATUS_BUSY u then s else
    let g := s.gu u
    match g.due with
    | [] => s
    | it :: rest =>
      let it := if s.fget .GU_SNOOP_SOURCE u = 5 then s.guRange u else it
      let (i, s) := s.draw 1
      if s.guMany u && decide (snoopBuffer < g.buffered + it.data.length) && Config.analogFlag i then
        (s.fset .GU_STATUS_SKIPPED 1 u).modGu u fun g => { g with due := rest }
      else s.modGu u fun g => { g with due := rest, cur := g.cur ++ [it] }

/-- The fold of an item (R382): the value XORed in and the bytes fed ahead. -/
def State.guFold (s : State) (u addr seq : Nat) : Nat × List Byte :=
  let regs := (List.range 4).foldl (fun a i => a + 2 ^ (32 * i) * s.fget .GU_FOLD_VALUE u i) 0
  let src := s.fget .GU_CTRL_FOLD_SRC u
  let v := if src = 0 then regs else if src = 1 then addr else seq
  let n := if src = 0 then s.fget .GU_CTRL_FOLD_BYTES u + 1 else if src = 1 then 8 else 4
  match s.fget .GU_CTRL_FOLD_MODE u with
  | 1 => (0, bytesOf n v)
  | 2 => (v % 2 ^ (s.fget .GU_CTRL_WIDTH_M1 u + 1), [])
  | _ => (0, [])

/-- A result (R387): RESULT takes it, DONE is set; a result that was still DONE is lost. -/
def State.guResult (s : State) (u v : Nat) : State :=
  let s := if s.fon .GU_STATUS_DONE u then s.fset .GU_STATUS_OVERRUN 1 u else s
  let s := (s.fset .GU_RESULT_LO_VALUE v u).fset .GU_RESULT_HI_VALUE (v / 2 ^ 32) u
  let s := (s.fset .GU_STATUS_DONE 1 u).fset .GU_COUNT_RESULTS (s.fget .GU_COUNT_RESULTS u + 1) u
  let expect := s.gu64 u .GU_EXPECT_LO_VALUE .GU_EXPECT_HI_VALUE
  if s.fon .GU_CTRL_COMPARE u ∧ v ≠ expect then
    (s.fset .GU_STATUS_MISMATCH 1 u).fcount .GU_COUNT_MISMATCHES 1 u
  else s

/-- GU_ITEM_END (R386, R387): the oldest item that has begun ends. A RANGE is read once; written while it is read, its
result is a free value. (DEDUCED, assumption 56.) -/
def execGuItemEnd (u : Nat) (s : State) : Out :=
  s.clocked (.guItemEnd u) <|
  .next <|
    match (s.gu u).cur with
    | [] => s
    | it :: rest =>
      let s := s.modGu u fun g => { g with cur := rest }
      let range : Bool := s.fget .GU_SNOOP_SOURCE u = 5
      let s := if range then s.fset .GU_STATUS_BUSY 0 u else s
      if it.aborted then s.fset .GU_STATUS_ABORTED 1 u else
      let (x, pre) := s.guFold u it.addr (it.seq % 2 ^ 32)
      if range && decide (s.guRange u ≠ it) then
        let (i, s) := s.draw 1
        s.guResult u (Config.freeNat i % 2 ^ (s.guSet u).w)
      else s.guResult u (crcFold (s.guSet u) x pre it.data)

/-- A read of RESULT_LO latches RESULT_HI (R387). -/
def State.guReadLo (s : State) (u : Nat) : State :=
  if 16 ≤ u then s else
  { s.modGu u fun g => { g with latched := some (s.fget .GU_RESULT_HI_VALUE u) } with reply := bytesOf 4 (s.fget .GU_RESULT_LO_VALUE u) }

/-- GU_RESULT_LO (R387). -/
def execGuResultLo (u : Nat) (s : State) : Out :=
  s.clocked (.guResultLo u) <|
  .next (s.guReadLo u)

/-- A read of RESULT_HI returns the latched half, if one is latched (R387). -/
def State.guReadHi (s : State) (u : Nat) : State :=
  match (s.gu u).latched with
  | some v => { s.modGu u fun g => { g with latched := none } with reply := bytesOf 4 v }
  | none => { s with reply := bytesOf 4 (s.fget .GU_RESULT_HI_VALUE u) }

/-- A write of a unit's register (R387, R388): owned units ignore it, and a setting of an armed unit. STOP to an armed unit
only disarms it. -/
def State.guWrite (s : State) (u off v : Nat) : State :=
  if !guYours u then s
  else if off = 0 ∧ bit v 0 then s.guArm u v
  else if off = 0 ∧ bit v 1 ∧ s.fon .GU_STATUS_BUSY u then s.guDisarm u
  else if s.fon .GU_STATUS_BUSY u ∧ off ≠ 0xC ∧ off ≠ 0x10 ∧ off < 0x58 then
    if fldsAt .gu off = [] then s else s.fset .GU_STATUS_WRITE_IGNORED 1 u
  else s.regWrite .gu u off v

end Sys2Proof.Machine
end

