-- ==== Sys2Proof/Machine/Power.lean ====
section
/-! DEFINITION. Throttling and its triggers (R496 to R498, R502, R503). -/

namespace Sys2Proof.Machine

/-- LEVEL field of a compute die in PWR_STATUS. -/
def levelFld : Nat → Fld
  | 0 => .PWR_STATUS_LEVEL_CD0
  | 1 => .PWR_STATUS_LEVEL_CD1
  | 2 => .PWR_STATUS_LEVEL_CD2
  | _ => .PWR_STATUS_LEVEL_CD3

/-- The module is RUNNING or THROTTLED (R495). -/
def State.powered (s : State) : Bool := let p := s.fget .PWR_STATUS_STATE; p = 2 || p = 3

/-- A converter, and with it a die: 0 to 3 compute dies, 4 the hub die (R441). -/
def State.hkOf (s : State) (d : Nat) : Hk := s.hks.get d {}

/-- Change a converter. -/
def State.modHk (s : State) (d : Nat) (f : Hk → Hk) : State := { s with hks := s.hks.modify d {} f }

/-- Thermal level of a compute die (R498). -/
def State.thermalLevel (s : State) (d : Nat) : Nat := s.power.thermal.get d 0

/-- The level of a die is the largest that R497 and R498 ask for (R496). -/
def State.dieLevel (s : State) (d : Nat) : Nat := max s.power.level (s.thermalLevel d)

/-- A record without a code: a change of a die's level from 0 or to 0, or a protective shutdown (R498, R499). -/
def State.plainStatus (s : State) (detail : List Byte) : State :=
  s.logWrite recStatus 0xFF 0 (locHub 0x3F) (s.rword .power 0 0) 0xFFFFFFFF detail

/-- ALERT# follows the power state (R493). -/
def State.powerState (s : State) (p : Nat) : State :=
  (s.fset .PWR_STATUS_STATE p).fset .PWR_STATUS_ALERT (b2n (p = 3 || p = 4))

/-- The levels of PWR_STATUS, the power state and the records follow a change of the levels asked for; `cause` is 1 power,
2 thermal, 3 alarm (R496, R498). -/
def State.syncLevels (s : State) (cause : Nat) : State :=
  if !s.powered then s else
  let s := (List.range 4).foldl (fun s d =>
    let old := s.fget (levelFld d)
    let new := s.dieLevel d
    let s := s.fset (levelFld d) new
    if (old = 0) = (new = 0) then s else s.plainStatus (List.flatten [bytesOf 1 d, bytesOf 1 new, bytesOf 1 cause])) s
  s.powerState (if (List.range 4).all fun d => s.dieLevel d = 0 then 2 else 3)

/-- POWER_LIMIT_EVALUATION (R497): every 1 ms, with the mean input power in W. -/
def execPowerLimitEvaluation (watts : Nat) (s : State) : Out :=
  .next <|
    if !s.powered then s else
    let limit := s.dval 0x5020 2 2800
    let l := s.power.level
    let l' := if limit < watts then min 8 (l + 1) else if watts * 100 < 95 * limit then l - 1 else l
    let s := (List.range 4).foldl (fun s d => if s.dieLevel d = 0 then s else
      { s with power := { s.power with throttleMs := s.power.throttleMs.put d (satAdd 0xFFFFFFFF (s.power.throttleMs.get d 0) 1) } }) s
    let s := { s with power := { s.power with watts := watts, level := l' } }
    (if l < l' then s.fcount .PWR_COUNT_POWER_STEPS 1 else s).syncLevels 1

/-- Thermal level of a die. -/
def State.setThermal (s : State) (d v cause : Nat) : State :=
  let old := s.thermalLevel d
  let s := { s with power := { s.power with thermal := s.power.thermal.put d v } }
  (if old < v then s.fcount .PWR_COUNT_THERMAL_STEPS 1 else s).syncLevels cause

/-- A die's THERMAL trigger is raised, its own or the hub die's (R498). -/
def State.hot (s : State) (d : Nat) : Bool := (s.hkOf d).thermal || (s.hkOf 4).thermal

/-- One tick of a compute die: up by 1 each 1 ms while triggered, held at 8 under an alarm, else down by 1 each 10 ms. -/
def State.thermalTick (s : State) (d : Nat) : State :=
  let v := s.thermalLevel d
  if s.hot d then s.setThermal d (min 8 (v + 1)) 2
  else if (s.hkOf d).alarm then s
  else
    let cause := if d ∈ s.power.byAlarm then 3 else 2
    let s := s.setThermal d (v - 1) cause
    if v ≤ 1 then { s with power := { s.power with byAlarm := s.power.byAlarm.filter (· ≠ d) } } else s

/-- THERMAL_LEVEL_TICK (R498): of a compute die, or of the hub die's trigger for all four. -/
def execThermalLevelTick (die : Nat) (s : State) : Out :=
  .next <|
    if !s.powered then s
    else if die < 4 then s.thermalTick die
    else if die = 4 then (List.range 4).foldl (fun s d => s.thermalTick d) s else s

/-- A regulator alarm of a die (R498). -/
def State.alarmOn (s : State) (die : Nat) : State :=
  let s := s.modHk die fun h => { h with alarm := true }
  if 4 ≤ die ∨ !s.powered then s else
  { s with power := { s.power with byAlarm := if die ∈ s.power.byAlarm then s.power.byAlarm else die :: s.power.byAlarm } }.setThermal die 8 3

/-- THERMAL_CLEAR (R498). -/
def execThermalClear (die : Nat) (s : State) : Out :=
  .next (if 5 ≤ die then s else s.modHk die fun h => { h with thermal := false })

/-- REG_ALARM_CLEAR (R498). -/
def execRegAlarmClear (die : Nat) (s : State) : Out :=
  .next (if 5 ≤ die then s else s.modHk die fun h => { h with alarm := false })

end Sys2Proof.Machine
end

