-- ==== Sys2Proof/Machine/Housekeeping.lean ====
section
/-! DEFINITION. The housekeeping converters (R441 to R455). -/

namespace Sys2Proof.Machine

/-- Order of binary32 values. -/
def f32Lt (a b : Word) : Bool := (lane a).cmpLt (lane b)

/-- Entries of the survey list or the burst list as the registers hold them (R447, R448). -/
def State.surveyList (s : State) (h : Nat) : List Nat :=
  (List.range (min 32 (s.fget .HK_LIST_CFG_SURVEY_LEN h))).map fun i => s.rword .hk h (0x40 + 4 * i) % 256
def State.burstList (s : State) (h : Nat) : List Nat :=
  (List.range (min 4 (s.fget .HK_LIST_CFG_BURST_LEN h))).map fun i => s.rword .hk h (0xC0 + 4 * i) % 256

/-- Least and largest code of an input (R442). -/
def hkRange (input : Nat) : Int × Int := if hkDiff input then (-2 ^ 23, 2 ^ 23 - 1) else (0, 2 ^ 24 - 1)

/-- OVER_RANGE of a reading in code units (R443): set beyond 0.1 % of the span outside, clear 0.1 % inside, free between. -/
def hkOver (input : Nat) (x : Int) (free : Bool) : Bool :=
  let (lo, hi) := hkRange input
  let span := hi - lo
  let beyond := max (lo - x) (x - hi) * 1000
  if span < beyond then true else if beyond < -span then false else free

/-- HK_RESULT as PACK places a code (R452). -/
def packCode (input : Nat) (high : Bool) (c : Int) : Nat :=
  if high then wrap 24 c * 256 else if hkDiff input then wrap 32 c else wrap 24 c

/-- Some result carries STALE. -/
def State.syncStale (s : State) (h : Nat) : State :=
  s.fset .HK_STATUS_STALE_ANY (b2n ((List.range 64).any fun i => s.fon .HK_RINFO_STALE h i)) h

/-- A valid result of an input: converted, without OVER_RANGE or FAILED. -/
def State.hkValid (s : State) (h i : Nat) : Bool :=
  ((s.hkOf h).codes.find? i).isSome && !s.fon .HK_RINFO_OVER_RANGE h i && !s.fon .HK_RINFO_FAILED h i

/-- The reading of an input in its unit. -/
def State.hkReading (s : State) (h i : Nat) : Word := Config.sensor h i ((s.hkOf h).codes.get i 0)

/-- A die's temperature (R446): the largest of its valid temperature results, if it has one. -/
def State.dieTemperature (s : State) (h : Nat) : Option Word :=
  (((List.range (if h < 4 then 16 else 8)).filter (s.hkValid h)).map (s.hkReading h)).foldl
    (fun (m : Option Word) w => match m with
      | none => some w
      | some v => some (if f32Lt v w then w else v)) none

/-- 25.0 and 85.0 in binary32. -/
def oobLow : Word := 0x41C80000
def oobHigh : Word := 0x42AA0000

/-- TEMP_OOB follows the die's temperature (R98, R446). -/
def State.syncOob (s : State) (h : Nat) : State :=
  let oob : Bool := match s.dieTemperature h with
    | some t => f32Lt t oobLow || f32Lt oobHigh t
    | none => true
  let new := oob && !(s.hkOf h).oob && decide (h < 4)
  let s := s.modHk h fun k => { k with oob := oob }
  if new then s.countCode .tempOob else s

/-- A conversion of an input ends (R442, R443, R451, R452): `x` is the input in code units. (DEDUCED, assumption 57.) -/
def State.hkWrite (s : State) (h input : Nat) (x : Int) (burst : Bool) : State :=
  let failed : Bool := input ∈ (s.hkOf h).failed
  let (i, s) := s.draw 1
  let (lo, hi) := hkRange input
  let code := if failed then 0 else max lo (min hi x)
  let rangeFlag : Bool := !failed && hkOver input x (Config.analogFlag i)
  let s := s.modHk h fun k => { k with codes := k.codes.put input code, burstNew := false }
  let s := s.fset .HK_RESULT_CODE (packCode input (s.fon .HK_CTRL_PACK h) code) h input
  let s := (s.fset .HK_RINFO_OVER_RANGE (b2n rangeFlag) h input).fset .HK_RINFO_STALE 0 h input
  let s := (s.fset .HK_RINFO_FAILED (b2n failed) h input).fset .HK_RINFO_NEW 1 h input
  let s := (s.fset .HK_RINFO_BURST (b2n burst) h input).fset .HK_RINFO_COUNT (s.fget .HK_RINFO_COUNT h input + 1) h input
  let s := s.syncStale h
  if input < (if h < 4 then 16 else 8) then s.syncOob h else s

/-- PACK sets where every HK_RESULT holds its code (R452), so a change of it places the codes anew. -/
def State.repack (s : State) (h : Nat) : State :=
  (s.hkOf h).codes.foldl (fun s x => s.fset .HK_RESULT_CODE (packCode x.1 (s.fon .HK_CTRL_PACK h) x.2) h x.1) s

/-- STATE of a converter that neither bursts nor calibrates: its survey runs or is idle. -/
def State.hkRest (s : State) (h : Nat) : State :=
  s.fset .HK_STATUS_STATE (if (s.hkOf h).calibrating then 3 else if (s.hkOf h).started then 1 else 0) h

/-- Begin a survey round where one may begin (R447): the list is taken as it stands. A round that does not repeat is followed by none until the length is raised from 0 or SURVEY_REPEAT is 1; no round begins during a burst or a
calibration, or while the sequencers do not run. (DEDUCED, assumption 57.) -/
def State.beginRound (s : State) (h : Nat) : State :=
  let k := s.hkOf h
  let list := s.surveyList h
  if k.started ∨ 5 ≤ h then s
  else if list = [] then s.modHk h fun k => { k with roundDone := false }
  else if (k.roundDone ∧ !s.fon .HK_CTRL_SURVEY_REPEAT h) ∨ k.burst.isSome ∨ k.calibrating ∨ !s.fon .HK_CTRL_ENABLE h then s
  else (s.modHk h fun k => { k with round := list, place := 0, started := true }).hkRest h

/-- SURVEY_ENTRY_END (R447): the entry in progress ends; at the end of the cycle the next round begins at once while
SURVEY_REPEAT is 1, and a length of 0 stops the survey. Where no entry is in progress nothing ends. -/
def execSurveyEntryEnd (hk : Nat) (code : Int) (s : State) : Out :=
  .next <|
    if 5 ≤ hk ∨ !s.fon .HK_CTRL_ENABLE hk ∨ (s.hkOf hk).burst.isSome ∨ (s.hkOf hk).calibrating then s else
    let k := s.hkOf hk
    match (if k.started then k.round[k.place]? else none) with
    | none => s
    | some e =>
      let s := s.hkWrite hk (e % 64) code false
      let s := s.modHk hk fun k => { k with place := k.place + 1 }
      let done : Bool := k.round.length ≤ k.place + 1
      let s := if done then (s.fset .HK_STATUS_SURVEY_DONE 1 hk).fcount .HK_COUNT_CYCLES 1 hk else s
      let stop : Bool := s.fget .HK_LIST_CFG_SURVEY_LEN hk = 0
      let s := if done || stop then s.modHk hk fun k => { k with started := false, roundDone := done && !stop } else s
      (if done && !stop then s.beginRound hk else s).hkRest hk

/-- A trigger that meets a burst already running is dropped and counted (R449). -/
def State.dropTrigger (s : State) (h : Nat) : State :=
  (s.fcount .HK_COUNT_BURST_DROPPED 1 h).modHk h fun k => { k with dropped := satAdd 0xFFFFFFFF k.dropped 1 }

/-- An urgent trigger: bit 0 REG_ALARM, 1 THERMAL, 2 SOFTWARE (R448, R449). Until a burst's first result is written, a
trigger may have come in the HCLK of the burst's own: whether it did is free. Then TRIG_CAUSE takes its bit, and an alarm
whose bit it holds already is merged in X10 (R462).
(DESIGN CHOICE, assumption 113.) -/
def State.hkTrigger (s : State) (h b : Nat) : State :=
  if 5 ≤ h ∨ !s.fon .HK_CTRL_ENABLE h ∨ !bit (s.fget .HK_CTRL_TRIG_EN h) b ∨ s.burstList h = [] then s
  else if !(s.hkOf h).burst.isSome then
    ((s.modHk h fun k => { k with burst := some (s.burstList h), burstPlace := 0, burstNew := true }).fset .HK_STATUS_TRIG_CAUSE
      (2 ^ b) h).fset .HK_STATUS_STATE 2 h
  else
    let (i, s) := s.draw 1
    if !(s.hkOf h).burstNew ∨ !Config.analogFlag i then s.dropTrigger h
    else if !bit (s.fget .HK_STATUS_TRIG_CAUSE h) b then
      s.fset .HK_STATUS_TRIG_CAUSE (s.fget .HK_STATUS_TRIG_CAUSE h + 2 ^ b) h
    else if b < 2 then s.merge 0 1 else s

/-- REG_ALARM (R448, R498). -/
def execRegAlarm (die : Nat) (s : State) : Out := .next (if 5 ≤ die then s else (s.alarmOn die).hkTrigger die 0)

/-- THERMAL (R448, R498). -/
def execThermal (die : Nat) (s : State) : Out :=
  .next (if 5 ≤ die then s else (s.modHk die fun h => { h with thermal := true }).hkTrigger die 1)

/-- BURST_SW (R448). -/
def execBurstSw (hk : Nat) (s : State) : Out := .next (s.hkTrigger hk 2)

/-- BURST_ENTRY_END (R448): after the last entry the survey takes up its round with the abandoned entry, and calibration
its abandoned conversion. -/
def execBurstEntryEnd (hk : Nat) (code : Int) (s : State) : Out :=
  .next <|
    if 5 ≤ hk ∨ !s.fon .HK_CTRL_ENABLE hk then s else
    let k := s.hkOf hk
    match k.burst with
    | none => s
    | some list =>
      let s := match list[k.burstPlace]? with | some e => s.hkWrite hk (e % 64) code true | none => s
      if k.burstPlace + 1 < list.length then s.modHk hk fun k => { k with burstPlace := k.burstPlace + 1 }
      else (((s.modHk hk fun k => { k with burst := none, burstPlace := 0, burstNew := false }).fset .HK_STATUS_BURST_DONE 1
        hk).beginRound hk).hkRest hk

/-! ### Self-calibration (R450) -/

/-- SELFCAL_REQ (R450): a request while calibration is running does nothing. -/
def State.selfcalRequest (s : State) (h : Nat) : State :=
  if 5 ≤ h ∨ (s.hkOf h).calibrating then s else s.modHk h fun k => { k with calReq := true }

/-- SELFCAL_REQ (R450). -/
def execSelfcalReq (hk : Nat) (s : State) : Out := .next (s.selfcalRequest hk)

/-- SELFCAL_PERIOD (R450): SelfCalPeriod has passed; every converter is asked. -/
def execSelfcalPeriod (s : State) : Out := .next ((List.range 5).foldl (fun s h => s.selfcalRequest h) s)

/-- SELFCAL_START (R450): the running survey entry has ended; every result carries STALE. -/
def execSelfcalStart (hk : Nat) (s : State) : Out :=
  .next <|
    if 5 ≤ hk ∨ !(s.hkOf hk).calReq ∨ (s.hkOf hk).burst.isSome ∨ (s.hkOf hk).calibrating then s else
    let s := (List.range 64).foldl (fun s i => s.fset .HK_RINFO_STALE 1 hk i) s
    (s.modHk hk fun k => { k with calReq := false, calibrating := true }).fset .HK_STATUS_STALE_ANY 1 hk |>.hkRest hk

/-- SELFCAL_END (R450): `offset` in codes, `gainPpm` from nominal; coefficients out of range are rejected. -/
def execSelfcalEnd (hk : Nat) (offset gainPpm : Int) (s : State) : Out :=
  .next <|
    if 5 ≤ hk ∨ !(s.hkOf hk).calibrating ∨ (s.hkOf hk).burst.isSome then s else
    let s := if 2 ^ 14 < offset.natAbs ∨ 20000 < gainPpm.natAbs then
        (s.fset .HK_STATUS_HK_CAL_REJECT 1 hk).countCode .hkCalReject
      else s.modHk hk fun k => { k with offset := offset, gain := gainPpm }
    ((s.modHk hk fun k => { k with calibrating := false }).beginRound hk).hkRest hk

/-! ### Reads (R452) -/

/-- A read of HK_RESULT: NEW clears, HK_RINFO is latched. -/
def State.hkRead (s : State) (h i : Nat) : State :=
  if 5 ≤ h ∨ 64 ≤ i then s else
  let s := { s with reply := bytesOf 4 (s.fget .HK_RESULT_CODE h i) }
  (s.modHk h fun k => { k with latched := k.latched.put i (s.rword .hk h (0x104 + 8 * i)) }).fset .HK_RINFO_NEW 0 h i

/-- HK_RESULT_READ (R452). -/
def execHkResultRead (hk input : Nat) (s : State) : Out :=
  s.clocked (.hkResultRead hk input) <|
  .next (s.hkRead hk input)

/-- A read of HK_RINFO returns the latched value once (R452). -/
def State.hkReadInfo (s : State) (h i : Nat) : State :=
  match (s.hkOf h).latched.find? i with
  | some v => { s.modHk h fun k => { k with latched := k.latched.del i } with reply := bytesOf 4 v }
  | none => { s with reply := bytesOf 4 (s.rword .hk h (0x104 + 8 * i)) }

/-- Write a list of entry words into the registers of R453 (R455). -/
def State.setSurvey (s : State) (h : Nat) (ws : List Nat) : State :=
  let s := ws.zipIdx.foldl (fun s x => s.setRword .hk h (0x40 + 4 * x.2) (x.1 % 256)) s
  (s.fset .HK_LIST_CFG_SURVEY_LEN ws.length h).beginRound h
def State.setBurst (s : State) (h : Nat) (ws : List Nat) : State :=
  let s := ws.zipIdx.foldl (fun s x => s.setRword .hk h (0xC0 + 4 * x.2) (x.1 % 256)) s
  s.fset .HK_LIST_CFG_BURST_LEN ws.length h

/-- A write of a converter's register (R453): one of HK_CTRL acts on PACK and the requests; HK_CTRL and HK_LIST_CFG may let
a survey round begin. -/
def State.hkSet (s : State) (h off v : Nat) : State :=
  let s := s.regWrite .hk h off v
  if off = 0xC then s.beginRound h
  else if off ≠ 0 then s else
  let s := (s.repack h).beginRound h
  let s := if bit v 7 then s.hkTrigger h 2 else s
  if bit v 8 then s.selfcalRequest h else s

end Sys2Proof.Machine
end

