-- ==== Sys2Proof/Machine/HostLink.lean ====
section
/-! DEFINITION. The host link, its apertures, its DMA channels and its resets (R390 to R395, R397, R405 to R407, R413). -/

namespace Sys2Proof.Machine

/-- What the host link supports (R390): rates in GT/s by generation, widths, those of L0p, power states, MSI and MSI-X
vectors, largest payload and read request, class code, IDE streams. -/
structure LinkFeatures where
  rates : List Nat := [5, 10, 16, 32, 64, 128]     -- in GT/s over 2, so that 2.5 GT/s is 5
  widths : List Nat := [16, 8, 4, 1]
  l0p : List Nat := [16, 8, 4]
  l1 : Bool := true
  l0s : Bool := false
  functions : Nat := 1
  msi : Nat := 1
  msix : Nat := 32
  maxPayload : Nat := 512
  maxRead : Nat := 4096
  tagBits : Nat := 10
  classCode : Nat := 0x120000
  streams : List Nat := [0, 1]
  deriving DecidableEq, Repr

/-- The features of this link. -/
def link : LinkFeatures := {}

/-! ### Host writes into module memory (R247, R273, R395, R397) -/

/-- The committed page, and between doorbell and commit the other page too, discard host writes (R247, R273).
(DEDUCED, assumption 63.) -/
def State.pageProtects (s : State) (a : Nat) : Bool :=
  let l := s.ledger
  let inPage (b : Nat) : Bool := b ≤ a && a < b + l.span
  let (now, other) := if l.page = 0 then (l.base0, l.base1) else (l.base1, l.base0)
  l.loaded && (inPage now || (s.inStep && inPage other))

/-- A protected batch slot holds the address; in HOLD both slots are writable (R397). -/
def State.slotProtects (s : State) (a : Nat) : Bool :=
  let inSlot : Option (Nat × Nat) → Bool
    | some (b, n) => b ≤ a && a < b + n
    | none => false
  s.fget .RECOVERY_STATUS_STATE ≠ 2 && (inSlot s.job.protNow || inSlot s.job.protNext)

/-- The runs of kept bytes from address `a` on. -/
def keptRuns (a : Nat) : List (Bool × Byte) → List (Nat × List Byte)
  | [] => []
  | (k, b) :: r =>
    match k, keptRuns (a + 1) r with
    | false, t => t
    | true, (c, bs) :: t => if c = a + 1 then (a, b :: bs) :: t else (a, [b]) :: (c, bs) :: t
    | true, [] => [(a, [b])]

/-- What became of a host write: protected bytes discarded, unmapped bytes discarded. -/
structure HostWrite where
  prot : Bool
  unmapped : Bool

/-- A host write: unmapped and protected bytes are discarded and counted, the rest is stored. A write by DMA raises no
code of uncorrectable words (R353). -/
def State.hostStore (s : State) (a : Nat) (bs : List Byte) (dma : Bool) : State × HostWrite :=
  let page := fun x => mapped x && s.pageProtects x
  let slot := fun x => mapped x && s.slotProtects x
  let adr := (List.range bs.length).map (· + a)
  let keep := adr.map fun x => mapped x && !page x && !slot x
  let nPage : Bool := adr.any page
  let nSlot : Bool := adr.any slot
  let s := (keptRuns a (keep.zip bs)).foldl (fun s r => if dma then s.store r.1 r.2 else s.writeMem r.1 r.2 none) s
  ((s.countD 0x2300 9 (b2n nPage)).countD 0x3300 6 (b2n nSlot), ⟨nPage || nSlot, adr.any fun x => !mapped x⟩)

/-- What a host read of module memory returns: 0xFF at unmapped addresses (R395). -/
def State.hostLoad (s : State) (a n : Nat) : List Byte :=
  (List.range n).map fun i => if mapped (a + i) then s.mem.read (a + i) else 0xFF

/-- Module address of BAR2 offset 0 (R395). -/
def State.aperture (s : State) : Nat := s.fget .APERTURE_BASE_BASE_GIB * 2 ^ 30

/-- Size of BAR2 (R394). -/
def bar2Size : Nat := 64 * 2 ^ 30

/-- BAR2_READ (R395). -/
def execBar2Read (offset len : Nat) (s : State) : Out :=
  s.clocked (.bar2Read offset len) <|
  .next <| if bar2Size < offset + len then s else s.hostAccess fun s =>
    let a := s.aperture + offset
    let s := { s with reply := s.hostLoad a len }
    let s := s.raiseBad ((s.badIn a len).filter fun w => mapped (w * 32)) none
    s.fcount .HOST_COUNT_UNMAPPED_ACCESS (b2n ((List.range len).any fun i => !mapped (a + i)))

/-- BAR2_WRITE (R395). -/
def execBar2Write (offset : Nat) (data : List Byte) (s : State) : Out :=
  s.clocked (.bar2Write offset data) <|
  .next <| if bar2Size < offset + data.length then s else s.hostAccess fun s =>
    let (s, w) := s.hostStore (s.aperture + offset) data false
    s.fcount .HOST_COUNT_UNMAPPED_ACCESS (b2n w.unmapped)

/-! ### DMA channels (R405 to R407) -/

/-- A DMA channel beside its registers. -/
def State.dmaCh (s : State) (ch : Nat) : DmaCh := s.host.dma.get ch {}

/-- Change a channel's descriptors in flight; RUNNING follows. -/
def State.setFlight (s : State) (ch : Nat) (l : List (Nat × DmaDesc)) : State :=
  { s with host := { s.host with dma := s.host.dma.put ch ⟨l⟩ } }.fset .DMA_STATUS_RUNNING (b2n (!l.isEmpty)) ch

/-- Descriptors of the ring: LOG2 acts as the nearest of 4 to 16 (R416). -/
def State.ringSize (s : State) (ch : Nat) : Nat := 2 ^ max 4 (min 16 (s.fget .DMA_RING_SIZE_LOG2 ch))

/-- Host address of a descriptor. -/
def State.descAddr (s : State) (ch i : Nat) : Nat :=
  s.fget .DMA_RING_LO_ADDR_LO ch * 32 + s.fget .DMA_RING_HI_ADDR_HI ch * 2 ^ 32 + 32 * i

/-- The host's memory can be reached: the link is up, out of reset and in D0. -/
def State.hostUp (s : State) : Bool := s.host.linkUp && !s.host.d3 && !s.host.perst && linkStream ∉ s.host.insecure

/-- A write of DMA_TAIL (R405). -/
def State.dmaTail (s : State) (ch v : Nat) : State := if 16 ≤ ch then s else s.fset .DMA_TAIL_TAIL v ch

/-- DMA_TAIL (R405). -/
def execDmaTail (ch : Nat) (v : Word) (s : State) : Out :=
  s.clocked (.dmaTail ch v) <|
  .next (s.hostAccess fun s => s.dmaTail ch v.toNat)

/-- A descriptor from its 32 bytes (R405). -/
def readDesc (b : List Byte) : DmaDesc :=
  let f := fieldAt b 20 1
  { hostAddr := fieldAt b 0 8, moduleAddr := fieldAt b 8 8, length := fieldAt b 16 4, toHost := bit f 0, irq := bit f 1
    fence := bit f 2, reservedSet := f / 8 ≠ 0 || !zeroAt b 21 3 || !zeroAt b 29 3 }

/-- DMA_DESCRIPTOR_START (R405, R406): the channel fetches the descriptor at HEAD, whose bytes the host's memory gives; at
most four run at once, and FENCE waits for every earlier one. -/
def execDmaDescriptorStart (ch : Nat) (bytes : List Byte) (s : State) : Out :=
  s.clocked (.dmaDescriptorStart ch bytes) <|
  .next <|
    let d := readDesc bytes
    let fl := (s.dmaCh ch).flight
    let n := s.ringSize ch
    let head := s.fget .DMA_HEAD_HEAD ch % n
    if 16 ≤ ch ∨ !s.hostUp ∨ !s.fon .DMA_CTRL_ENABLE ch ∨ s.fon .DMA_STATUS_HALTED ch ∨
      head = s.fget .DMA_TAIL_TAIL ch % n ∨ 4 ≤ fl.length ∨ (d.fence ∧ fl ≠ []) then s
    else (s.setFlight ch (fl ++ [(head, d)])).fset .DMA_HEAD_HEAD ((head + 1) % n) ch

/-- The descriptor is BAD_DESCRIPTOR (R405, R406). -/
def badDescriptor (d : DmaDesc) : Bool := d.reservedSet || d.length % 4 ≠ 0 || d.length < 4 || 2 ^ 24 < d.length

/-- The oldest descriptor of a channel ends with a status: in ring order, after its data. A halt keeps HEAD at it.
(DEDUCED, assumption 62.) -/
def State.dmaEnd (s : State) (ch idx : Nat) (d : DmaDesc) (rest : List (Nat × DmaDesc)) (status : Nat) (halt reach : Bool) :
    State :=
  let s := if reach then { s with host := { s.host with
    mem := s.host.mem.write (s.descAddr ch idx + 28) (BitVec.ofNat 8 status) } } else s
  let s := (s.fset .DMA_STATUS_LAST_STATUS status ch).fcount .DMA_STATUS_COMPLETED 1 ch
  let s := if halt then ((s.setFlight ch []).fset .DMA_HEAD_HEAD idx ch).fset .DMA_STATUS_HALTED 1 ch else s.setFlight ch rest
  if d.irq || (halt && s.fon .DMA_CTRL_IRQ_ON_HALT ch) then s.raiseVector (9 + ch) else s

/-- Bytes that may be wrong: each is the byte given or a free one (R406). -/
def State.doubtful (s : State) (bs : List Byte) : List Byte × State :=
  let (i, s) := s.draw (2 * bs.length)
  (bs.zipIdx.map fun x => if Config.analogFlag (i + 2 * x.2) then x.1 else BitVec.ofNat 8 (Config.freeNat (i + 2 * x.2 + 1)), s)

/-- The transfer of a descriptor as an item of the channel's stream (R386). -/
def State.dmaItem (s : State) (ch idx : Nat) (d : DmaDesc) (bs : List Byte) (aborted : Bool) : State :=
  s.snooped { source := 2, channel := ch } d.moduleAddr (some idx) bs aborted

/-- Move the bytes of descriptor `idx` of a channel; a module address that is unmapped moves none. -/
def State.dmaMove (s : State) (ch idx : Nat) (d : DmaDesc) (hostData : List Byte) (bad lost : Bool) : State × HostWrite :=
  if d.toHost then
    let out := s.hostLoad d.moduleAddr d.length
    let (out, s) := if bad then s.doubtful out else (out, s)
    let s := s.dmaItem ch idx d out lost
    let kept := keptRuns d.hostAddr (((List.range d.length).map fun i => mapped (d.moduleAddr + i)).zip out)
    ({ s with host := { s.host with mem := kept.foldl (fun m r => m.writeBytes r.1 r.2) s.host.mem } },
      ⟨false, (List.range d.length).any fun i => !mapped (d.moduleAddr + i)⟩)
  else
    let (bs, s) := if bad then s.doubtful (hostData.take d.length) else (hostData.take d.length, s)
    (s.dmaItem ch idx d bs lost).hostStore d.moduleAddr bs true

/-- DMA_DESCRIPTOR_COMPLETE (R406): where several of PROTECTED, UNMAPPED and XFER_CHECK apply, which one is shown is free.
(DEDUCED, assumption 62.) -/
def execDmaDescriptorComplete (ch : Nat) (e : DmaEnd) (hostData : List Byte) (s : State) : Out :=
  s.clocked (.dmaDescriptorComplete ch e hostData) <|
  .next <|
    match (s.dmaCh ch).flight with
    | [] => s
    | (idx, d) :: rest =>
      if badDescriptor d then s.dmaEnd ch idx d rest 0x85 true true
      else
        let (s, w) := s.dmaMove ch idx d hostData (e ≠ .ok) (e = .hostError)
        let (i, s) := s.draw 1
        let codes := (if w.prot then [0x81] else []) ++ (if w.unmapped then [0x82] else []) ++ (if e = .xferCheck then [0x83] else [])
        if e = .hostError then s.dmaEnd ch idx d rest 0x84 true true
        else s.dmaEnd ch idx d rest ((codes[Config.freeNat i % codes.length]?).getD 0x80) false true

/-- A write of 1 to RESET (R406). -/
def State.dmaReset (s : State) (ch : Nat) : State :=
  if 16 ≤ ch then s else
  let s := (s.dmaCh ch).flight.foldl (fun s x => s.dmaItem ch x.1 x.2 [] true) s
  (((s.setFlight ch []).fset .DMA_HEAD_HEAD 0 ch).fset .DMA_TAIL_TAIL 0 ch).fset .DMA_STATUS_HALTED 0 ch

/-- DMA_RESET (R406). -/
def execDmaReset (ch : Nat) (s : State) : Out :=
  s.clocked (.dmaReset ch) <|
  .next (s.hostAccess fun s => s.dmaReset ch)

/-- Every channel with a descriptor in flight halts with HOST_ERROR; the status reaches the host if the link still does. -/
def State.dmaLost (s : State) (reach : Bool) : State :=
  (List.range 16).foldl (fun s ch => match (s.dmaCh ch).flight with
    | [] => s
    | (idx, d) :: rest =>
      let s := (s.dmaCh ch).flight.foldl (fun s x => s.dmaItem ch x.1 x.2 [] true) s
      s.dmaEnd ch idx d rest 0x84 true reach) s

/-! ### Resets of the host side (R413, R426, R463) -/

/-- Drop the registers of a section. -/
def State.clearSec (s : State) (sec : Sec) (inst off n : Nat) : State :=
  { s with regs := s.regs.filter fun r => !(regKey sec inst off ≤ r.1 && r.1 < regKey sec inst off + n) }

/-- The window's registers and buffers are cleared, a request that waits with them (R426); AVAILABLE, which tells of the
firmware, stays. (DEDUCED, assumption 60.) -/
def State.clearWindow (s : State) : State :=
  let a := s.fget .WIN_STATUS_AVAILABLE
  let s := (s.clearSec .win 0 0 65536).fset .WIN_STATUS_AVAILABLE a
  { s with mgmt := { s.mgmt with reqBuf := [], respBuf := [], heldReq := none } }

/-- What a function-level reset or a hot reset clears (R413); the crossing X6 is flushed (R460, R466). -/
def State.hostReset (s : State) : State :=
  let s := (List.range 16).foldl (fun s ch => s.clearSec .dma ch 0 65536) s
  let s := { s with host := { s.host with dma := [], msix := [], pba := [], msi := false } }
  let s := (List.range 8).foldl (fun s m => s.mbClear false m) s
  ((s.fset .HOST_EVENT_MASK_MASK 0).fset .APERTURE_BASE_BASE_GIB 0).clearWindow.flush 25

/-- HOT_RESET (R413). -/
def execHotReset (s : State) : Out := .next s.hostReset

/-- FUNCTION_LEVEL_RESET (R413). -/
def execFunctionLevelReset (s : State) : Out :=
  s.clocked .functionLevelReset <|
  .next s.hostReset

/-- The management block reads HOST_STATUS (R417). (DEDUCED, assumption 61.) -/
def State.readLink (s : State) : State := { s with mgmt := { s.mgmt with linkState := some (s.rword .host 0 0) } }

/-- A fundamental reset (R456, R463, R464): PCLK stops, and the link, the PCI Express core and everything of a hot reset. -/
def State.fundamental (s : State) : State :=
  let s := { s with startup := { s.startup with
    offPlls := s.startup.offPlls.filter fun p => p ≠ 25 ∨ p ∈ s.startup.failedPlls } }
  let s := { s.hostReset with host := { s.hostReset.host with linkUp := false, d3 := false, ide := [], insecure := [], aer := [] } }
  ((s.fset .HOST_STATUS_IDE_ACTIVE 0).fset .CLK_STATUS_PCLK_LOCK 0).readLink

/-- D3HOT_ENTRY (R411, R413): BAR accesses are unsupported until D0; in-flight descriptors halt, the host side of the
mailboxes is cleared. -/
def execD3hotEntry (s : State) : Out :=
  s.clocked .d3hotEntry <|
  .next <| if s.host.d3 then s else
    let s := s.dmaLost false
    let s := (List.range 8).foldl (fun s m => s.mbClear false m) s
    { s with host := { s.host with d3 := true } }

/-- D0_ENTRY (R413). -/
def execD0Entry (s : State) : Out :=
  s.clocked .d0Entry <|
  .next { s with host := { s.host with d3 := false } }

/-! ### The link (R390 to R393) -/

/-- LINK_DOWN (R413). -/
def execLinkDown (s : State) : Out :=
  .next <| if !s.host.linkUp then s else { s.dmaLost false with host := { (s.dmaLost false).host with linkUp := false } }

/-- LINK_UP (R390, R391): at 64 GT/s always in FLIT mode. The reference is present and PCLK locked when the link trains. -/
def execLinkUp (width gen : Nat) (flit : Bool) (s : State) : Out :=
  s.clocked (.linkUp width gen flit) <|
  .next <|
    let p := s.fget .PWR_STATUS_STATE
    if s.host.perst ∨ width ∉ link.widths ∨ gen = 0 ∨ link.rates.length < gen ∨ (gen = 6 ∧ !flit) ∨ p = 0 ∨ p = 4 then s else
    let s := { s with host := { s.host with linkUp := true } }
    let s := ((s.fset .HOST_STATUS_LINK_WIDTH width).fset .HOST_STATUS_LINK_GEN gen).fset .HOST_STATUS_FLIT (b2n flit)
    let s := (s.fset .CLK_STATUS_HOST_REF 1).fset .CLK_STATUS_PCLK_LOCK 1
    if width < 16 ∨ gen < 6 then (s.countCode .linkDegraded).hostEvent .HOST_EVENT_LINK_DEGRADED else s

/-- IDE_INTEGRITY_FAILURE (R393): the stream leaves the secure state, its TLPs are dropped from then on, AER reports the
failure, and every DMA channel with a descriptor in flight halts. -/
def execIdeIntegrityFailure (stream : Nat) (s : State) : Out :=
  s.clocked (.ideIntegrityFailure stream) <|
  .next <| if stream ∉ s.host.ide then s else
    let ide := s.host.ide.filter (· ≠ stream)
    let s := { s with host := { s.host with
      ide := ide, insecure := stream :: s.host.insecure.filter (· ≠ stream), aer := s.host.aer ++ [stream] } }.fset .HOST_STATUS_IDE_ACTIVE (b2n (!ide.isEmpty))
    s.dmaLost s.hostUp

/-- PERST_RELEASE (R392, R468): the link may train. -/
def execPerstRelease (s : State) : Out := .next { s with host := { s.host with perst := false } }

end Sys2Proof.Machine
end

