-- ==== Sys2Proof/Machine/Sm3.lean ====
section
/-! DEFINITION. The hash SM3, which R473 names (PRESUMED, assumption 15: its computation is that of the published standard). -/

namespace Sys2Proof.Machine

/-- Big-endian word at word `i` of a byte string. -/
def beWord (b : List Byte) (i : Nat) : Word := (b.drop (4 * i)).take 4 |>.foldl (fun w x => w * 256#32 + x.setWidth 32) 0#32

/-- Its four bytes. -/
def beBytes (w : Word) : List Byte := [3, 2, 1, 0].map fun k => (w >>> (8 * k)).setWidth 8

/-- The eight words of a state. -/
structure Sm3 where
  a : Word
  b : Word
  c : Word
  d : Word
  e : Word
  f : Word
  g : Word
  h : Word
  deriving DecidableEq, Repr

/-- Initial value. -/
def sm3Init : Sm3 :=
  ⟨0x7380166F, 0x4914B2B9, 0x172442D7, 0xDA8A0600, 0xA96F30BC, 0x163138AA, 0xE38DEE4D, 0xB0FB0E4E⟩

/-- Extend 16 message words by `n` more; the list is newest first. -/
def sm3Extend : Nat → List Word → List Word
  | 0, ws => ws
  | n + 1, ws =>
    let w (k : Nat) : Word := ws.getD (k - 1) 0
    let x := w 16 ^^^ w 9 ^^^ (w 3).rotateLeft 15
    sm3Extend n ((x ^^^ x.rotateLeft 15 ^^^ x.rotateLeft 23 ^^^ (w 13).rotateLeft 7 ^^^ w 6) :: ws)

/-- Round `j` with its two message words. -/
def Sm3.round (v : Sm3) (j : Nat) (w w' : Word) : Sm3 :=
  let t : Word := if j < 16 then 0x79CC4519 else 0x7A879D8A
  let ss1 := (v.a.rotateLeft 12 + v.e + t.rotateLeft (j % 32)).rotateLeft 7
  let ss2 := ss1 ^^^ v.a.rotateLeft 12
  let ff := if j < 16 then v.a ^^^ v.b ^^^ v.c else (v.a &&& v.b) ||| (v.a &&& v.c) ||| (v.b &&& v.c)
  let gg := if j < 16 then v.e ^^^ v.f ^^^ v.g else (v.e &&& v.f) ||| (~~~v.e &&& v.g)
  let tt1 := ff + v.d + ss2 + w'
  let tt2 := gg + v.h + ss1 + w
  ⟨tt1, v.a, v.b.rotateLeft 9, v.c, tt2 ^^^ tt2.rotateLeft 9 ^^^ tt2.rotateLeft 17, v.e, v.f.rotateLeft 19, v.g⟩

/-- One block of 16 words. -/
def Sm3.block (v : Sm3) (b : List Word) : Sm3 :=
  let ws := (sm3Extend 52 b.reverse).reverse
  let r := (List.range 64).foldl (fun (x : Sm3) j => x.round j (ws.getD j 0) (ws.getD j 0 ^^^ ws.getD (j + 4) 0)) v
  ⟨r.a ^^^ v.a, r.b ^^^ v.b, r.c ^^^ v.c, r.d ^^^ v.d, r.e ^^^ v.e, r.f ^^^ v.f, r.g ^^^ v.g, r.h ^^^ v.h⟩

/-- SM3 of a byte string: 32 bytes. -/
def sm3 (m : List Byte) : List Byte :=
  let n := m.length
  let p := m ++ [0x80] ++ List.replicate ((119 - n % 64) % 64) 0 ++ (bytesOf 8 (8 * n)).reverse
  let v := (List.range (p.length / 64)).foldl (fun (v : Sm3) i =>
    let blk := (p.drop (64 * i)).take 64
    v.block ((List.range 16).map (beWord blk))) sm3Init
  [v.a, v.b, v.c, v.d, v.e, v.f, v.g, v.h].flatMap beBytes

end Sys2Proof.Machine
end

