-- ==== Sys2Proof/Machine/Secure.lean ====
section
/-! DEFINITION. The security block (R473 to R485): images, the rollback counter, boot, measurements and SPDM. -/

namespace Sys2Proof.Machine

/-! ### Keys, images and the rollback counter (R475 to R478) -/

/-- The image delivered in slot 0 (R504): it verifies (DESIGN CHOICE, assumption 14). -/
def factoryImage : Image :=
  { svn := Config.identity 0x9002 1 % 128, version := Config.identity 0x100A 1 % 2 ^ 32
    bodyLength := 1 + Config.identity 0x9001 1 % (2 ^ 22 - 256), signer := Config.identity 0x9005 1 % 4, revokeMask := 0
    headerOk := true, signatureOk := true, bodyDigestOk := true, bytes := Config.identityBytes 0x9003 3 }

/-- The image whose 256-byte header stands first in `b`, which holds the longest image (R476): SignerKey and the signature
over bytes 0 to 63, BodyDigest and the body. The public keys are in no header, so the verdict on a signature is a free
constant. (DESIGN CHOICE, assumption 15.) -/
def readImage (b : List Byte) : Image :=
  let n := fieldAt b 12 4
  { svn := fieldAt b 6 2, version := fieldAt b 8 4, bodyLength := n, signer := fieldAt b 16 1, revokeMask := fieldAt b 17 1
    headerOk := fieldAt b 0 4 = 0x74740060 && fieldAt b 4 2 = 1 && ((b.drop 18).take 14).all (· = 0) &&
      ((b.drop 128).take 128).all (· = 0)
    signatureOk := Config.signatureOk (fieldAt b 16 1) (b.take 64) ((b.drop 64).take 64)
    bodyDigestOk := sm3 ((b.drop 256).take n) = (b.drop 32).take 32
    bytes := b.take (256 + n) }

/-- An image in module memory, at most 4 MiB long (R476, R479, R480). -/
def State.imageAt (s : State) (a : Nat) : Image :=
  readImage (s.mem.readBytes a (256 + min (natOf (s.mem.readBytes (a + 12) 4)) (2 ^ 22 - 256)))

/-- State of a signing key: 0 ABSENT, 1 ACTIVE, 2 REVOKED; the factory image's signer is ACTIVE. -/
def State.keyState (s : State) (k : Nat) : Nat :=
  s.secure.keys.get k (if k = factoryImage.signer then 1 else Config.identity 0x9005 (2 + k) % 2)

/-- The rollback counter. -/
def State.rollback (s : State) : Nat := s.secure.counter.getD factoryImage.svn

/-- The image in a slot, if it holds a valid one. (DESIGN CHOICE, assumption 7.) -/
def State.slotImage (s : State) (i : Nat) : Option Image :=
  s.secure.slots.get i (if i = 0 then some factoryImage else none)

/-- An image verifies (R477). -/
def State.verifies (s : State) (m : Image) : Bool :=
  m.headerOk && decide (1 ≤ m.bodyLength) && decide (m.bodyLength ≤ 2 ^ 22 - 256) && decide (m.signer < 4)
  && decide (m.revokeMask < 16) && decide (s.keyState m.signer = 1) && !bit m.revokeMask m.signer && m.signatureOk
  && m.bodyDigestOk && decide (s.rollback ≤ m.svn) && decide (m.svn < 128)

/-- A slot's image verifies. -/
def State.slotVerifies (s : State) (i : Nat) : Bool :=
  match s.slotImage i with
  | some m => s.verifies m
  | none => false

/-- Put an image into a slot, or leave it invalid. -/
def State.setSlot (s : State) (i : Nat) (m : Option Image) : State :=
  { s with secure := { s.secure with slots := s.secure.slots.put i m } }

/-- FirmwareUpdateStatus (R486). -/
def State.updateStatus (s : State) (v : Nat) : State := s.setDval 0x9001 6 v

/-- FirmwareUpdate (R480): status 0 or the code of R423. -/
def State.firmwareUpdate (s : State) (slot : Nat) : Nat × State :=
  if slot = s.secure.running ∨ s.secure.update.isSome then (7, s)
  else (0, { s with secure := { s.secure with update := some slot } }.updateStatus 1)

/-- FIRMWARE_UPDATE_COMPLETE (R480): the image copied from FirmwareSource is verified; one that fails, or a copy that
flash does not read back, leaves the slot invalid. The copy is that of the bytes as they stand when the update completes.
(DESIGN CHOICE, assumption 7.) -/
def execFirmwareUpdateComplete (flashOk : Bool) (s : State) : Out :=
  s.clocked (.firmwareUpdateComplete flashOk) <|
  .next <| match s.secure.update with
    | none => s
    | some slot =>
      let img := s.imageAt (s.dval 0x9001 3 0)
      let good := s.verifies img
      let s := { s with secure := { s.secure with update := none } }.setSlot slot (if good && flashOk then some img else none)
      s.updateStatus (if !good then 4 else if flashOk then 3 else 5)

/-- An update in progress is abandoned and its slot invalid (R485). -/
def State.abandonUpdate (s : State) : State :=
  match s.secure.update with
  | none => s
  | some slot => ({ s with secure := { s.secure with update := none } }.setSlot slot none).updateStatus 6

/-- FirmwareActivate (R486): the slot must verify. -/
def State.firmwareActivate (s : State) (slot : Nat) : Nat × State :=
  if s.slotVerifies slot then (0, { s with secure := { s.secure with active := slot } }) else (7, s)

/-- RollbackCommit (R478, R485): the counter takes the running image's Svn and its RevokeMask revokes keys. -/
def State.rollbackCommit (s : State) : Nat × State :=
  if s.secure.update.isSome then (7, s) else
  match s.secure.image with
  | none => (0, s)
  | some m =>
    let keys := (List.range 4).foldl (fun ks k => if bit m.revokeMask k then ks.put k 2 else ks) s.secure.keys
    (0, { s with secure := { s.secure with counter := some (max s.rollback m.svn), keys := keys } })

/-! ### Boot (R479) -/

/-- Start an image from a slot. (DESIGN CHOICE, assumption 7.) -/
def State.startImage (s : State) (m : Image) (slot : Nat) (fallback : Bool) : State :=
  { s with secure := { s.secure with running := slot, image := some m, fallback := fallback }
           startup := { s.startup with recovery := false } }

/-- The activated slot holds the image that was running: it ran from that slot, or from the recovery area, whose image
went to slot 0 (R479). -/
def State.ranFrom (s : State) (slot : Nat) : Bool := s.secure.running = slot || (s.secure.running = 2 && slot = 0)

/-- Verify and start an image: the activated slot's (its retained copy when it is the one that ran), else the other
slot's. None of them verifies: the module waits for a recovery image (R479). -/
def State.bootImage (s : State) (retained : Bool) : Option State :=
  let a := s.secure.active
  let first := if retained ∧ s.ranFrom a then s.secure.image else s.slotImage a
  let other := s.slotImage (1 - a)
  match first.filter s.verifies, other.filter s.verifies with
  | some m, _ => some (s.startImage m a false)
  | none, some m => some (s.startImage m (1 - a) true)
  | none, none => none

/-- No image verifies (R479): a FAULT record with SELFTEST_FAIL and Detail byte 0 = 1. -/
def State.noImage (s : State) : State :=
  let s := (s.countCode .selftestFail).logWrite recFault 4 Code.selftestFail.number (locHub 0x3F) 0 0xFFFFFFFF [1]
  { s with startup := { s.startup with recovery := true } }

/-- A BOOT record (R470). -/
def State.bootRecord (s : State) (cause : Nat) : State :=
  s.logWrite recBoot 0xFF 0 (locHub 0x3F) (s.rword .clock 0 0xC) 0xFFFFFFFF
    (List.flatten [[BitVec.ofNat 8 cause, BitVec.ofNat 8 (s.dval 0x1012 1 0), 0, 0], bytesOf 4 (s.dval 0x1012 2 0),
      List.replicate 8 0])

/-! ### Measurements (R481) -/

/-- What a measurement digests, with its value type; none: the digest is 32 zero bytes. -/
def State.measured (s : State) (i : Nat) : Nat × Option (List Byte) :=
  match i with
  | 1 => (0, some (Config.identityBytes 0x9003 1))
  | 2 => (2, some (List.flatten [(List.range 4).flatMap fun k => bytesOf 1 (s.keyState k), bytesOf 1 s.rollback,
      padTo 64 0 (Config.identityBytes 0x9000 1)]))
  | 3 => (1, s.secure.image.map Image.bytes)
  | 4 => (2, some (asciiText (Config.identityBytes 0x1009 1)))
  | 5 => (3, if s.dval 0x1012 1 0 = 0 then none else some (s.mgmt.loaded.take (32 + fieldAt s.mgmt.loaded 16 4)))
  | _ => (3, some (List.flatten [bytesOf 4 (s.dval 0x2200 4 0), bytesOf 4 (s.dval 0x2400 4 0), bytesOf 4 (s.dval 0x6004 2 1),
      bytesOf 4 (s.dval 0x6005 3 0), bytesOf 4 (s.dval 0x6007 3 0), bytesOf 4 s.rings.check, bytesOf 4 s.itin.check]))

/-- A record of Measurements (R486). -/
def State.measurement (s : State) (i : Nat) : List Byte :=
  let (typ, b) := s.measured i
  List.flatten [bytesOf 1 i, bytesOf 1 typ, List.replicate 6 0, match b with | some b => sm3 b | none => List.replicate 32 0]

/-! ### SPDM (R482, R483) -/

/-- Number of a transport. -/
def tnum : Transport → Nat
  | .doe => 0
  | .mctp => 1

/-- The responder sends an answer. -/
def State.answer (s : State) (a : Spdm) : State := { s with secure := { s.secure with answers := s.secure.answers ++ [a] } }

/-- The firmware serves requests: AVAILABLE, with MCLK running (R435, R458). -/
def State.serving (s : State) : Bool := s.fon .WIN_STATUS_AVAILABLE && !s.startup.offPlls.contains 26

/-- The firmware answers a request; while it is away, one over MCTP goes unanswered (R436), and one over DOE waits before it
comes here (R485). -/
def State.spdm (s : State) (f : State → State) : State := if s.serving then f s else s

/-- Signature by the identity key over a message (R474). -/
def sign (b : List Byte) : List Byte := padTo 64 0 (Config.cryptoBytes 2 b)

/-- The certificates of slot 0 in DER: device root, manufacturing authority, the module's leaf (R474). -/
def certificates : List (List Byte) := [2, 3, 4].map (Config.identityBytes 0x9000)

/-- The slot 0 certificate chain (R474, R486): its length, two zero bytes, SM3 of the root, the certificates. -/
def certChain : List Byte :=
  let body := sm3 (certificates.headD []) ++ certificates.flatten
  bytesOf 2 (4 + body.length) ++ [0, 0] ++ body

/-- Error codes of SPDM: InvalidRequest and Busy. -/
def badRequest : Spdm := .error 1
def busy : Spdm := .error 3

/-- GET_VERSION: 1.3 alone (R482). (DESIGN CHOICE, assumption 65.) -/
def execGetVersion (t : Transport) (s : State) : Out :=
  s.clocked (.getVersion t) <|
  .next (s.spdm fun s => s.answer (.version 0x13))

/-- GET_CAPABILITIES (R482). (DESIGN CHOICE, assumption 65.) -/
def execGetCapabilities (t : Transport) (s : State) : Out :=
  s.clocked (.getCapabilities t) <|
  .next (s.spdm fun s => s.answer (.capabilities ["CERT", "CHAL", "MEAS", "KEY_EX", "ENCRYPT", "MAC", "HBEAT"]))

/-- NEGOTIATE_ALGORITHMS (R473): SM2 and SM3, with AES-256-GCM (0) or SM4-GCM (1) as the requester chooses. -/
def execNegotiateAlgorithms (t : Transport) (aead : Nat) (s : State) : Out :=
  s.clocked (.negotiateAlgorithms t aead) <|
  .next (s.spdm fun s => if 1 < aead then s.answer badRequest else
    { s with secure := { s.secure with aead := s.secure.aead.put (tnum t) aead } }.answer (.algorithms aead))

/-- GET_DIGESTS, of slot 0 only (R482). -/
def execGetDigests (t : Transport) (slot : Nat) (s : State) : Out :=
  s.clocked (.getDigests t slot) <|
  .next (s.spdm fun s => s.answer (if slot = 0 then .digests (sm3 certChain) else badRequest))

/-- GET_CERTIFICATE, of slot 0 only: a portion and what remains (R482). -/
def execGetCertificate (t : Transport) (slot offset length : Nat) (s : State) : Out :=
  s.clocked (.getCertificate t slot offset length) <|
  .next (s.spdm fun s =>
    let part := (certChain.drop offset).take length
    s.answer (if slot ≠ 0 ∨ certChain.length ≤ offset then badRequest
      else .certificate part (certChain.length - offset - part.length)))

/-- CHALLENGE (R482). -/
def execChallenge (t : Transport) (slot : Nat) (nonce : List Byte) (s : State) : Out :=
  s.clocked (.challenge t slot nonce) <|
  .next (s.spdm fun s => s.answer (if slot = 0 then .challengeAuth (sign nonce) else badRequest))

/-- GET_MEASUREMENTS: one, all (0xFF) or their number (0), with a signature over the values in force (R481). -/
def execGetMeasurements (t : Transport) (index : Nat) (nonce : List Byte) (s : State) : Out :=
  s.clocked (.getMeasurements t index nonce) <|
  .next (s.spdm fun s =>
    if 6 < index ∧ index ≠ 0xFF then s.answer badRequest else
    let l := if index = 0 then [] else if index = 0xFF then [1, 2, 3, 4, 5, 6] else [index]
    let recs := l.flatMap s.measurement
    s.answer (.measurements recs (sign (recs ++ nonce))))

/-- Sessions of a transport. -/
def State.sessionsOf (s : State) (t : Transport) : List Session := s.secure.sessions.filter fun x => x.transport = tnum t

/-- Replace the list of sessions. -/
def State.setSessions (s : State) (l : List Session) : State := { s with secure := { s.secure with sessions := l } }

/-- KEY_EXCHANGE: up to four sessions on a transport, else Busy (R482). -/
def execKeyExchange (t : Transport) (reqSession : Nat) (s : State) : Out :=
  s.clocked (.keyExchange t reqSession) <|
  .next (s.spdm fun s =>
    if 4 ≤ (s.sessionsOf t).length then s.answer busy else
    let id := s.secure.nextSession
    let s := s.setSessions (s.secure.sessions ++ [{ transport := tnum t, id := id }])
    { s with secure := { s.secure with nextSession := id + 1 } }.answer (.keyExchange id (sign (bytesOf 4 reqSession))))

/-- A request inside a session: an unknown one is an error. -/
def State.inSession (s : State) (t : Transport) (id : Nat) (ready : Bool) (f : Session → Option Session) : State :=
  s.spdm fun s =>
    match (s.sessionsOf t).find? (fun x => x.id = id) with
    | some x =>
      if x.ready ≠ ready then s.answer badRequest
      else (s.setSessions (s.secure.sessions.filterMap fun y => if y = x then f x else some y)).answer (.done id)
    | none => s.answer badRequest

/-- FINISH: the session is established (R482). -/
def execFinish (t : Transport) (session : Nat) (s : State) : Out :=
  s.clocked (.finish t session) <|
  .next (s.inSession t session false fun x => some { x with ready := true })

/-- HEARTBEAT (R482). -/
def execHeartbeat (t : Transport) (session : Nat) (s : State) : Out :=
  s.clocked (.heartbeat t session) <|
  .next (s.inSession t session true some)

/-- KEY_UPDATE (R482). -/
def execKeyUpdate (t : Transport) (session : Nat) (s : State) : Out :=
  s.clocked (.keyUpdate t session) <|
  .next (s.inSession t session true fun x => some { x with keys := x.keys + 1 })

/-- END_SESSION (R482). -/
def execEndSession (t : Transport) (session : Nat) (s : State) : Out :=
  s.clocked (.endSession t session) <|
  .next (s.inSession t session true fun _ => none)

/-- IDE_KM (R393, R483): only inside a secured DOE session; the stream (0 link, 1 selective) becomes secure. -/
def execIdeKm (session stream : Nat) (s : State) : Out :=
  s.clocked (.ideKm session stream) <|
  .next (s.spdm fun s =>
    if stream < 2 ∧ (s.sessionsOf .doe).any (fun x => x.id = session && x.ready) then
      let ide := if stream ∈ s.host.ide then s.host.ide else stream :: s.host.ide
      ({ s with host := { s.host with ide := ide, insecure := s.host.insecure.filter (· ≠ stream) } }.fset .HOST_STATUS_IDE_ACTIVE 1).answer (.ideKm stream)
    else s.answer badRequest)

end Sys2Proof.Machine
end

