-- ==== Sys2Proof/Machine/Resets.lean ====
section
/-! DEFINITION. Restarts and resets of the management block, module resets, power states and PLLs (R435, R436, R456 to R467,
R494, R495, R499). -/

namespace Sys2Proof.Machine

/-! ### The management processor and block (R435, R436, R463, R485) -/

/-- A store in progress is abandoned: its copy is torn, and StoreStatus shows FAILED (R434, R436). -/
def State.abandonStore (s : State) : State :=
  match s.mgmt.storing with
  | none => s
  | some (copy, _) =>
    { s with mgmt := { s.mgmt with storing := none, copies := s.mgmt.copies.del copy } }.setDval 0x1010 2 2

/-- What ends with the processor: staging, requests that wait but the window's, a store, an update, every session, a margin re-plan until resume. -/
def State.processorDown (s : State) : State :=
  let s := (s.abandonStore.abandonUpdate).setSessions []
  let gone := s.mgmt.slots.map fun t => (t.path, t.tag, t.index, t.sub)
  let s := { s with mgmt := { s.mgmt with
    slots := [], gone := s.mgmt.gone ++ gone, waiting := [], restarting := true, replanDue := s.mgmt.replan.isSome } }
  s.fset .WIN_STATUS_AVAILABLE 0

/-- A reset of the management block (R463), which flushes its crossings (R460): window, firmware side of the mailboxes, staging slots, MCTP addresses. -/
def State.blockReset (s : State) : State :=
  let s := (s.processorDown.clearWindow).fwMailReset
  { (s.setDval 0x1400 1 0).setDval 0x1400 2 0 with mgmt := { s.mgmt with restarts := 0 } }.flush 26

/-- A restart of the processor, with its cause (R435): 1 WATCHDOG, 2 REQUEST, 3 ECC, 4 FIRMWARE_FAULT. Three within 10 s
reset the block (R463); whether three fell within 10 s is free. (DESIGN CHOICE, assumption 66.) -/
def State.restartMgmt (s : State) (cause : Nat) : State :=
  if s.mgmt.restarting ∨ !s.fon .WIN_STATUS_AVAILABLE then s else
  let s := (s.processorDown.fcount .WIN_COUNT_RESTARTS 1).countD 0x1500 3 1
  let s := { s.setDval 0x1500 4 cause with mgmt := { s.mgmt with restarts := s.mgmt.restarts + 1 } }
  let (i, s) := s.draw 1
  if 3 ≤ s.mgmt.restarts ∧ Config.analogFlag i then s.blockReset else s

/-- WATCHDOG_EXPIRY (R435). -/
def execWatchdogExpiry (s : State) : Out :=
  s.clocked .watchdogExpiry <|
  .next (s.restartMgmt 1)

/-- MGMT_ECC_DOUBLE (R435). -/
def execMgmtEccDouble (s : State) : Out :=
  s.clocked .mgmtEccDouble <|
  .next (s.restartMgmt 3)

/-- FIRMWARE_FAULT_TRAP (R435). -/
def execFirmwareFaultTrap (s : State) : Out :=
  s.clocked .firmwareFaultTrap <|
  .next (s.restartMgmt 4)

/-- MGMT_RST_PIN (R463, R492): the processor starts again once the firmware had started. -/
def execMgmtRstPin (s : State) : Out :=
  .next <|
    let started : Bool := s.mgmt.restarting || s.fon .WIN_STATUS_AVAILABLE
    let s := s.blockReset
    { s with mgmt := { s.mgmt with restarting := started } }

/-! ### Module reset and power (R463 to R467, R494, R495, R499) -/

/-- Dictionary entries counted since power-up, which a module reset keeps. -/
def sincePowerUp : List Nat := [dkey 0x1500 3, dkey 0x1500 5, dkey 0x5010 3, dkey 0x5020 6, dkey 0x5203 2, dkey 0x5203 3]

/-- Registers of the HCLK domain: the converters' and RESET_CAUSE. -/
def hclkReg (key : Nat) : Bool := key / 65536 / 4096 = secNo .hk || key = regKey .clock 0 0xC

/-- Everything but the HCLK domain, the logbook, management flash, what is fused, counts since power-up, and what stands
outside the module (R463, R464). DRAM is cleared by the self-test. (DEDUCED, assumption 60.) -/
def State.cleared (s : State) : State :=
  { pending := s.pending, fresh := s.fresh, mem := s.mem, memBad := s.memBad, reply := s.reply, unsupported := s.unsupported
    regs := s.regs.filter fun r => hclkReg r.1
    dict := s.dict.filter fun r => r.1 ∈ sincePowerUp
    fab := { lanes := s.fab.lanes.map fun x => (x.1, ({ totals := x.2.totals } : Lane)) }
    faults := { counts := s.faults.counts, lastRefusal := s.faults.lastRefusal }
    creepTot := s.creepTot, band := s.band
    log := s.log
    host := { mem := s.host.mem, perst := s.host.perst }
    mgmt := { copies := s.mgmt.copies, stores := s.mgmt.stores }
    hks := s.hks
    startup := { relocks := s.startup.relocks }
    power := { throttleMs := s.power.throttleMs }
    secure := { slots := s.secure.slots, active := s.secure.active, counter := s.secure.counter, keys := s.secure.keys }
    phys := { aged := s.phys.aged, agedEngines := s.phys.agedEngines, powerOns := s.phys.powerOns } }

/-- HOST_REF and FABRIC_REF of CLK_STATUS. -/
def refBits : Nat := 0x18000000

/-- A module reset with its cause of RESET_CAUSE (R463, R465, R471): start-up runs again from secure boot, from
PROTECT_OFF after the rails have come up (R499). The references of the host and the fabric show again once the PLLs lock. -/
def State.moduleReset (s : State) (cause : Nat) : State :=
  let p := s.fget .PWR_STATUS_STATE
  if p = 0 then s else
  let up : Bool := p = 2 || p = 3
  let refs := (s.rword .clock 0 0 &&& refBits) ||| s.startup.refs
  let s := (s.abandonStore.abandonUpdate).cleared
  let s := { s with startup := { s.startup with state := b2n up, refs := refs } }
  ((s.fset .PWR_STATUS_STATE (if up then 2 else 1)).fset .RESET_CAUSE_LAST cause).fcount .RESET_CAUSE_MODULE_RESETS 1

/-- MOD_RST_PIN (R463). -/
def execModRstPin (s : State) : Out := .next (s.moduleReset 1)

/-- PERST_ASSERT (R465): by PerstScope, once start-up has begun. -/
def execPerstAssert (s : State) : Out :=
  .next <|
    let s := { s with host := { s.host with perst := true } }
    if s.dval 0x1600 4 0 = 1 ∧ s.fget .PWR_STATUS_STATE ≠ 0 then s.moduleReset 3 else s.fundamental

/-- The 54 V input is gone: the module is unpowered (R494, R495). (DEDUCED, assumption 60.) -/
def State.powerOff (s : State) : State :=
  let s := (s.abandonStore.abandonUpdate).cleared
  ({ s with regs := [], dict := [], fab := {}, faults := {}, hks := [], startup := {}, power := {}, mem := [], memBad := []
            reply := [], unsupported := false, creepTot := [] }).fset .PWR_STATUS_STATE 0

/-- POWER_LOSS (R495). -/
def execPowerLoss (s : State) : Out := .next s.powerOff

/-- OVERVOLTAGE (R494): unpowered, and no record is written. -/
def execOvervoltage (s : State) : Out := .next s.powerOff

/-- POWER_INPUT_IN_RANGE (R463, R467, R495): power good rises and PowerOnCount is incremented. -/
def execPowerInputInRange (s : State) : Out :=
  .next <| if s.fget .PWR_STATUS_STATE ≠ 0 then s else
    { s with regs := [], phys := { s.phys with powerOns := (s.phys.powerOns + 1) % 2 ^ 32 } }

/-- Registers of the compute dies. -/
def coreReg (key : Nat) : Bool :=
  let sec := key / 65536 / 4096
  [Sec.array, Sec.engine, Sec.vector, Sec.seq, Sec.watch].any fun x => decide (secNo x = sec)

/-- Compute dies and memory lose their rails: no attempt, no core, no DRAM; the module is not ready.
(DEDUCED, assumption 67.) -/
def State.diesOff (s : State) : State :=
  let s := { s with
    cores := [], mem := [], memBad := [], regs := s.regs.filter fun r => !coreReg r.1
    job := { stepCounter := s.job.stepCounter, controls := s.job.controls }
    faults := { s.faults with raised := [], next := [], recorded := [] } }
  (s.stepState 0 0).fset .HOST_STATUS_READY 0

/-- A protective shutdown (R499): its record, the rails it turns off, PROTECT_OFF. (DEDUCED, assumption 67.) -/
def State.protect (s : State) (cause : Nat) : State :=
  let p := s.fget .PWR_STATUS_STATE
  if p = 0 ∨ p = 4 then s else
  let s := (s.plainStatus [BitVec.ofNat 8 cause]).setDval 0x5020 6 cause
  let s := if cause ≤ 2 then s.diesOff else (s.abandonStore.abandonUpdate).cleared
  let s := { s with mem := [], memBad := [], power := { throttleMs := s.power.throttleMs } }
  let s := (List.range 4).foldl (fun s d => s.fset (levelFld d) 0) s
  (s.powerState 4).fset .PWR_STATUS_CAUSE cause

/-- UNDERVOLTAGE (R494, R499). -/
def execUndervoltage (s : State) : Out := .next (s.protect 4)

/-- CRITICAL_TEMPERATURE (R499): of a compute die, or of the hub die. -/
def execCriticalTemperature (die : Nat) (s : State) : Out :=
  .next (if die < 4 then s.protect 1 else if die = 4 then s.protect 3 else s)

/-- SELFTEST_FAIL with a FAULT record, and the module in FAILED (R469). -/
def State.startFailed (s : State) (loc : Nat) (detail : List Byte) : State :=
  let s := (s.countCode .selftestFail).logWrite recFault 4 Code.selftestFail.number loc (s.rword .power 0 0) 0xFFFFFFFF detail
  { s with startup := { s.startup with state := 6, recovery := false } }.hostEvent .HOST_EVENT_SELFTEST_FAIL

/-- RAIL_OUT_OF_REGULATION (R467, R499): in the power sequence it stops the sequence, with the rail in Location. -/
def execRailOutOfRegulation (rail : Nat) (s : State) : Out :=
  .next <| if s.startup.state = 0 ∧ s.fget .PWR_STATUS_STATE = 1 then s.startFailed (locHub rail) [0] else s.protect 2

/-! ### PLLs (R456 to R459) -/

/-- Lock bit of a PLL in CLK_STATUS (R471). -/
def State.setLock (s : State) (p : Pll) (b : Bool) : State := s.setRword .clock 0 0 (setBits (s.rword .clock 0 0) p 1 (b2n b))

/-- PLL_LOCK_LOSS (R458): the clock is gated off, and its domain holds its state. In the POWER stage it is a PLL that does
not come to lock (R459, R467). Whether PCLK went with the host reference is free (R456). (DESIGN CHOICE, assumption 67.) -/
def execPllLockLoss (p : Pll) (s : State) : Out :=
  .next <| if 27 ≤ p ∨ p ∈ s.startup.offPlls ∨ (!bit (s.rword .clock 0 0) p ∧ ¬ (s.startup.state = 0 ∧ s.fget .PWR_STATUS_STATE = 1)) then s
    else
      let s := { s with startup := { s.startup with offPlls := p :: s.startup.offPlls } }.setLock p false
      if p = 25 then
        let (i, s) := s.draw 1
        s.fset .CLK_STATUS_HOST_REF (b2n (s.fon .CLK_STATUS_HOST_REF && Config.analogFlag i))
      else s

/-- A PLL has locked again (R458): its domain runs on. -/
def State.relocked (s : State) (p : Pll) : State :=
  let s := { s with startup := { s.startup with
    offPlls := s.startup.offPlls.filter (· ≠ p), relocks := satAdd 0xFFFFFFFF s.startup.relocks 1 } }
  (s.setLock p true).fcount .CLK_COUNT_RELOCKS 1

/-- CLOCK_FAIL (R459): a PLL that has not relocked; its domain stays stopped until a module reset. -/
def execClockFail (p : Pll) (s : State) : Out :=
  .next <| if p ∉ s.startup.offPlls ∨ p ∈ s.startup.failedPlls then s else
    let s := { s with startup := { s.startup with failedPlls := p :: s.startup.failedPlls } }.fset .CLK_STATUS_CLOCK_FAIL 1
    s.statusRecord .clockFail (locHub p) (s.rword .clock 0 0)

end Sys2Proof.Machine
end

