-- ==== Sys2Proof/Machine/Dict.lean ====
section
/-! DEFINITION. The entries of the object dictionary: types, access, defaults and ranges (R65, R102, R126, R162, R196, R241,
R276, R307, R349, R378, R389, R417 to R421, R431, R439, R455, R472, R486, R503). -/

namespace Sys2Proof.Machine

/-- Types of R419 that the T1's entries use. -/
inductive DTyp where
  | bool | u8 | u16 | u32 | u64 | f32 | string | domain
  deriving DecidableEq, Repr

/-- Access codes of R420. -/
inductive DAcc where
  | ro | rw | wo | rws
  deriving DecidableEq, Repr

/-- Range of a scalar entry: any, from `lo` to `hi`, 0 or from `lo` to `hi`, a multiple, one of two values, a fabric address
or 0xFFFF, and a finite binary32 from one value to another (by bits, -0.0 as 0x80000000). -/
inductive Rng where
  | any | le (lo hi : Nat) | zeroOr (lo hi : Nat) | mul (m : Nat) | oneOf (a b : Nat) | addr | f32 (lo hi : Nat)
  deriving DecidableEq, Repr

/-- An entry of the dictionary. -/
structure DEnt where
  index : Nat
  sub : Nat
  typ : DTyp
  acc : DAcc
  dflt : Nat
  rng : Rng
  deriving DecidableEq, Repr

/-- Type code of R419. -/
def DTyp.code : DTyp → Nat
  | .bool => 1 | .u8 => 2 | .u16 => 3 | .u32 => 4 | .u64 => 5 | .f32 => 10 | .string => 11 | .domain => 12

/-- Size in bytes of a scalar type; 0 for STRING and DOMAIN. -/
def DTyp.size : DTyp → Nat
  | .bool => 1 | .u8 => 1 | .u16 => 2 | .u32 => 4 | .u64 => 8 | .f32 => 4 | .string => 0 | .domain => 0

/-- Access code of an INFO response (R423). -/
def DAcc.code : DAcc → Nat
  | .ro => 0 | .rw => 1 | .wo => 2 | .rws => 3

/-- The value lies in the range. -/
def Rng.ok : Rng → Nat → Bool
  | .any, _ => true
  | .le lo hi, v => decide (lo ≤ v) && decide (v ≤ hi)
  | .zeroOr lo hi, v => v = 0 || (decide (lo ≤ v) && decide (v ≤ hi))
  | .mul m, v => v % m = 0
  | .oneOf a b, v => v = a || v = b
  | .addr, v => decide (v < 16384) || v = 0xFFFF
  | .f32 lo hi, v => if lo = 0x80000000 then v = lo || decide (v ≤ hi) else decide (lo ≤ v) && decide (v ≤ hi)

/-- A scalar value fits its type and range (R419, R421). -/
def DEnt.fits (e : DEnt) (v : Nat) : Bool :=
  (match e.typ with
    | .bool => decide (v ≤ 1)
    | .f32 => decide (bits v 23 8 ≠ 255)
    | _ => true) && e.rng.ok v

/-- Entries of R65. -/
def dictNumerics : List DEnt :=
  [⟨0x4000, 1, .u8, .rws, 8, .le 1 16⟩, ⟨0x4000, 2, .u8, .rws, 0, .le 0 3⟩,
   ⟨0x4000, 3, .bool, .wo, 0, .any⟩, ⟨0x4001, 1, .u16, .rws, 0x100, .any⟩,
   ⟨0x4001, 2, .domain, .ro, 0, .any⟩, ⟨0x4002, 1, .u8, .rws, 12, .zeroOr 6 16⟩,
   ⟨0x4002, 2, .u8, .ro, 0, .any⟩, ⟨0x4003, 1, .domain, .ro, 0, .any⟩,
   ⟨0x4100, 1, .domain, .ro, 0, .any⟩, ⟨0x4101, 1, .domain, .ro, 0, .any⟩]

/-- Entries of R102. -/
def dictArrays : List DEnt :=
  [⟨0x2100, 1, .bool, .rws, 0, .any⟩, ⟨0x4102, 1, .domain, .ro, 0, .any⟩,
   ⟨0x5200, 1, .domain, .ro, 0, .any⟩, ⟨0x5200, 2, .u32, .ro, 0, .any⟩,
   ⟨0x5201, 1, .u8, .rw, 0x1D, .le 16 32⟩, ⟨0x5201, 2, .bool, .rw, 1, .any⟩]

/-- Entries of R126. -/
def dictCalibration : List DEnt :=
  [⟨0x5202, 1, .u32, .rw, 0xC8, .le 10 60000⟩, ⟨0x5202, 2, .u8, .rw, 0x23, .le 33 56⟩,
   ⟨0x5202, 3, .u8, .rw, 0x30, .le 36 80⟩, ⟨0x5202, 4, .u8, .rw, 0x60, .le 64 127⟩,
   ⟨0x5203, 1, .u16, .rw, 0x64, .le 10 10000⟩, ⟨0x5203, 2, .u32, .ro, 0, .any⟩,
   ⟨0x5203, 3, .u32, .ro, 0, .any⟩, ⟨0x5204, 1, .domain, .ro, 0, .any⟩,
   ⟨0x5205, 1, .domain, .ro, 0, .any⟩, ⟨0x5205, 2, .domain, .ro, 0, .any⟩,
   ⟨0x5205, 3, .u32, .ro, 0, .any⟩, ⟨0x5206, 1, .domain, .ro, 0, .any⟩]

/-- Entries of R162. -/
def dictEngine : List DEnt :=
  [⟨0x4104, 1, .domain, .ro, 0, .any⟩, ⟨0x5210, 1, .domain, .ro, 0, .any⟩]

/-- Entries of R196. -/
def dictVector : List DEnt :=
  [⟨0x5211, 1, .domain, .ro, 0, .any⟩, ⟨0x5211, 2, .u32, .ro, 0, .any⟩,
   ⟨0x5211, 3, .u32, .ro, 0, .any⟩]

/-- Entries of R241. -/
def dictTimetable : List DEnt :=
  [⟨0x2200, 1, .u64, .rw, 0, .mul 4096⟩, ⟨0x2200, 2, .bool, .wo, 0, .any⟩,
   ⟨0x2200, 3, .u32, .ro, 0, .any⟩, ⟨0x2200, 4, .u32, .ro, 0, .any⟩,
   ⟨0x2201, 1, .u32, .rws, 0x7D0, .zeroOr 10 60000⟩, ⟨0x4103, 1, .domain, .ro, 0, .any⟩,
   ⟨0x5212, 1, .domain, .ro, 0, .any⟩]

/-- Entries of R276. -/
def dictUpdate : List DEnt :=
  [⟨0x2300, 1, .u64, .rw, 0, .mul 67108864⟩, ⟨0x2300, 2, .u64, .rw, 0, .mul 67108864⟩,
   ⟨0x2300, 3, .u8, .wo, 0, .le 1 3⟩, ⟨0x2300, 4, .u8, .rw, 0, .le 0 1⟩,
   ⟨0x2300, 5, .u32, .ro, 0, .any⟩, ⟨0x2300, 6, .u8, .ro, 0, .any⟩,
   ⟨0x2300, 7, .u64, .rw, 0, .mul 4096⟩, ⟨0x2300, 8, .u64, .rw, 0, .any⟩,
   ⟨0x2300, 9, .u32, .ro, 0, .any⟩, ⟨0x2302, 1, .u8, .rw, 0, .le 0 1⟩,
   ⟨0x2302, 2, .u8, .rw, 0, .le 0 2⟩, ⟨0x2303, 1, .u64, .rw, 0, .mul 16⟩,
   ⟨0x2303, 2, .u32, .rw, 0, .le 0 65536⟩, ⟨0x3000, 1, .u64, .ro, 0, .any⟩,
   ⟨0x3000, 2, .u16, .ro, 0, .any⟩, ⟨0x3100, 1, .f32, .rw, 0, .f32 0x80000000 0x7F7FFFFF⟩,
   ⟨0x3100, 2, .u32, .ro, 0, .any⟩, ⟨0x3100, 3, .f32, .rw, 0x3F800000, .f32 1 0x7F7FFFFF⟩,
   ⟨0x4005, 1, .f32, .ro, 0, .any⟩, ⟨0x4005, 2, .f32, .ro, 0x3F800000, .any⟩,
   ⟨0x4006, 1, .domain, .ro, 0, .any⟩] ++
  ((List.range 15).map fun i => ⟨0x2301, i + 1, .domain, .rw, 0, .any⟩) ++
  ((List.range 64).map fun i => ⟨0x3101, i + 1, .domain, .rw, 0, .any⟩)

/-- Entries of R307. -/
def dictReduction : List DEnt :=
  [⟨0x2400, 1, .u64, .rw, 0, .mul 4096⟩, ⟨0x2400, 2, .bool, .wo, 0, .any⟩,
   ⟨0x2400, 3, .u32, .ro, 0, .any⟩, ⟨0x2400, 4, .u32, .ro, 0, .any⟩,
   ⟨0x2401, 1, .u8, .rws, 8, .zeroOr 4 12⟩, ⟨0x4007, 1, .bool, .wo, 0, .any⟩,
   ⟨0x4007, 2, .bool, .ro, 1, .any⟩, ⟨0x4008, 1, .domain, .ro, 0, .any⟩]

/-- Entries of R349. -/
def dictFabric : List DEnt :=
  [⟨0x6000, 1, .u16, .rw, 0xFFFF, .addr⟩, ⟨0x6000, 2, .u8, .rws, 0x20, .le 2 64⟩,
   ⟨0x6001, 1, .u8, .rws, 0, .le 0 31⟩, ⟨0x6001, 2, .u16, .rws, 0xFFF, .le 0 4095⟩,
   ⟨0x6001, 3, .u8, .wo, 0, .any⟩, ⟨0x6002, 1, .domain, .ro, 0, .any⟩,
   ⟨0x6002, 2, .domain, .ro, 0, .any⟩, ⟨0x6003, 1, .domain, .ro, 0, .any⟩,
   ⟨0x6004, 1, .domain, .rw, 0, .any⟩, ⟨0x6004, 2, .u32, .ro, 1, .any⟩,
   ⟨0x6005, 1, .u64, .rw, 0, .mul 16⟩, ⟨0x6005, 2, .bool, .wo, 0, .any⟩,
   ⟨0x6005, 3, .u32, .ro, 0, .any⟩, ⟨0x6006, 1, .u16, .rw, 0xFFFF, .addr⟩,
   ⟨0x6006, 2, .domain, .rw, 0, .any⟩, ⟨0x6006, 3, .u16, .rw, 1, .le 1 16384⟩,
   ⟨0x6007, 1, .u64, .rw, 0, .mul 16⟩, ⟨0x6007, 2, .bool, .wo, 0, .any⟩,
   ⟨0x6007, 3, .u32, .ro, 0, .any⟩, ⟨0x6007, 4, .u64, .rw, 0, .mul 4096⟩,
   ⟨0x6007, 5, .u64, .rw, 0, .any⟩, ⟨0x6008, 1, .u64, .rw, 0, .mul 4096⟩,
   ⟨0x6008, 2, .u64, .rw, 0, .any⟩, ⟨0x6009, 1, .u16, .rws, 0x20, .le 4 256⟩,
   ⟨0x6009, 2, .u16, .rws, 0x64, .le 1 10000⟩, ⟨0x6009, 3, .u16, .ro, 0, .any⟩,
   ⟨0x600A, 1, .domain, .ro, 0, .any⟩]

/-- Entries of R378. -/
def dictRecovery : List DEnt :=
  [⟨0x3200, 1, .u8, .rws, 3, .any⟩, ⟨0x3200, 2, .bool, .wo, 0, .any⟩,
   ⟨0x3200, 3, .u16, .rw, 0, .any⟩, ⟨0x3200, 4, .u8, .wo, 0, .le 1 2⟩,
   ⟨0x3200, 5, .u8, .ro, 0, .any⟩, ⟨0x5000, 1, .u8, .rws, 6, .le 3 12⟩,
   ⟨0x5000, 2, .domain, .ro, 0, .any⟩, ⟨0x5000, 3, .domain, .ro, 0, .any⟩,
   ⟨0x5001, 1, .domain, .ro, 0, .any⟩, ⟨0x5001, 2, .u8, .rws, 3, .le 1 20⟩,
   ⟨0x5002, 1, .domain, .ro, 0, .any⟩, ⟨0x5002, 2, .domain, .ro, 0, .any⟩,
   ⟨0x7000, 1, .u32, .ro, 0, .any⟩, ⟨0x7000, 2, .u16, .ro, 0, .any⟩,
   ⟨0x7000, 3, .u16, .rw, 0, .any⟩, ⟨0x7000, 4, .domain, .ro, 0, .any⟩]

/-- Entries of R389. -/
def dictCheck : List DEnt :=
  ((List.range 16).map fun i => ⟨0x2500, i + 1, .domain, .rw, 0, .any⟩) ++
  ((List.range 16).map fun i => ⟨0x2501, i + 1, .domain, .ro, 0, .any⟩)

/-- Entries of R417. -/
def dictHost : List DEnt :=
  [⟨0x3300, 1, .u64, .rw, 0, .mul 4096⟩, ⟨0x3300, 2, .u64, .rw, 0, .mul 4096⟩,
   ⟨0x3300, 3, .u64, .rw, 0, .mul 4096⟩, ⟨0x3300, 4, .u64, .rw, 0, .mul 64⟩,
   ⟨0x3300, 5, .u64, .rw, 0, .mul 4096⟩, ⟨0x3300, 6, .u32, .ro, 0, .any⟩,
   ⟨0x1300, 1, .u32, .ro, 0, .any⟩]

/-- Entries of R431. -/
def dictIdentity : List DEnt :=
  [⟨0x1008, 1, .string, .ro, 0, .any⟩, ⟨0x1009, 1, .string, .ro, 0, .any⟩,
   ⟨0x100A, 1, .string, .ro, 0, .any⟩, ⟨0x1010, 1, .bool, .wo, 0, .any⟩,
   ⟨0x1010, 2, .u8, .ro, 0, .any⟩, ⟨0x1010, 3, .u32, .ro, 0, .any⟩,
   ⟨0x1011, 1, .bool, .wo, 0, .any⟩, ⟨0x1012, 1, .u8, .ro, 0, .any⟩,
   ⟨0x1012, 2, .u32, .ro, 0, .any⟩, ⟨0x1012, 3, .u16, .ro, 0, .any⟩,
   ⟨0x1018, 1, .u32, .ro, 0, .any⟩, ⟨0x1018, 2, .u32, .ro, 0, .any⟩,
   ⟨0x1018, 3, .u32, .ro, 0, .any⟩, ⟨0x1018, 4, .u64, .ro, 0, .any⟩,
   ⟨0x1400, 1, .u8, .ro, 0, .any⟩, ⟨0x1400, 2, .u8, .ro, 0, .any⟩,
   ⟨0x1500, 1, .u8, .ro, 0, .any⟩, ⟨0x1500, 2, .bool, .wo, 0, .any⟩,
   ⟨0x1500, 3, .u32, .ro, 0, .any⟩, ⟨0x1500, 4, .u8, .ro, 0, .any⟩,
   ⟨0x1500, 5, .u32, .ro, 0, .any⟩]

/-- Entries of R439. -/
def dictMargin : List DEnt :=
  [⟨0x5010, 1, .u16, .rws, 0x18, .le 1 168⟩, ⟨0x5010, 2, .bool, .wo, 0, .any⟩,
   ⟨0x5010, 3, .u32, .ro, 0, .any⟩, ⟨0x5010, 4, .domain, .ro, 0, .any⟩,
   ⟨0x5011, 1, .domain, .ro, 0, .any⟩, ⟨0x5011, 2, .u16, .rws, 0x3C, .le 0 100⟩,
   ⟨0x5012, 1, .domain, .ro, 0, .any⟩, ⟨0x5013, 1, .domain, .ro, 0, .any⟩]

/-- Entries of R455. -/
def dictConverter : List DEnt :=
  [⟨0x8F00, 1, .u8, .rws, 0x32, .oneOf 50 60⟩, ⟨0x8F00, 2, .u32, .rws, 0xEA60, .le 1000 3600000⟩,
   ⟨0x8F00, 3, .bool, .rws, 0, .any⟩] ++
  ((List.range 5).flatMap fun d =>
    [⟨0x8000 + 256 * d, 1, .domain, .ro, 0, .any⟩,
     ⟨0x8000 + 256 * d, 2, .domain, .rws, 0, .any⟩,
     ⟨0x8000 + 256 * d, 3, .domain, .rws, 0, .any⟩,
     ⟨0x8000 + 256 * d, 4, .u8, .rws, 7, .le 0 7⟩,
     ⟨0x8000 + 256 * d, 5, .f32, .rws, 0x42BE0000, .f32 0x42200000 0x42DC0000⟩,
     ⟨0x8000 + 256 * d, 6, .f32, .ro, 0, .any⟩,
     ⟨0x8000 + 256 * d, 7, .u32, .ro, 0, .any⟩,
     ⟨0x8000 + 256 * d, 8, .bool, .wo, 0, .any⟩,
     ⟨0x8000 + 256 * d, 9, .domain, .ro, 0, .any⟩])

/-- Entries of R472. -/
def dictClock : List DEnt :=
  [⟨0x1600, 1, .u8, .ro, 0, .any⟩, ⟨0x1600, 2, .domain, .ro, 0, .any⟩,
   ⟨0x1600, 3, .bool, .wo, 0, .any⟩, ⟨0x1600, 4, .u8, .rws, 0, .le 0 1⟩,
   ⟨0x1600, 5, .domain, .ro, 0, .any⟩]

/-- Entries of R486. -/
def dictSecurity : List DEnt :=
  [⟨0x9000, 1, .domain, .ro, 0, .any⟩, ⟨0x9000, 2, .domain, .ro, 0, .any⟩,
   ⟨0x9001, 1, .domain, .ro, 0, .any⟩, ⟨0x9001, 2, .u8, .ro, 0, .any⟩,
   ⟨0x9001, 3, .u64, .rw, 0, .mul 4096⟩, ⟨0x9001, 4, .u8, .wo, 0, .le 0 1⟩,
   ⟨0x9001, 5, .u8, .wo, 0, .le 0 1⟩, ⟨0x9001, 6, .u8, .ro, 0, .any⟩,
   ⟨0x9001, 7, .bool, .ro, 0, .any⟩, ⟨0x9002, 1, .u8, .ro, 0, .any⟩,
   ⟨0x9002, 2, .bool, .wo, 0, .any⟩, ⟨0x9003, 1, .domain, .ro, 0, .any⟩,
   ⟨0x9004, 1, .u8, .rws, 7, .le 0 7⟩, ⟨0x9005, 1, .u8, .ro, 0, .any⟩,
   ⟨0x9005, 2, .domain, .ro, 0, .any⟩]

/-- Entries of R503. -/
def dictPower : List DEnt :=
  [⟨0x5020, 1, .u8, .ro, 0, .any⟩, ⟨0x5020, 2, .u16, .rws, 0xAF0, .le 1400 2800⟩,
   ⟨0x5020, 3, .f32, .ro, 0, .any⟩, ⟨0x5020, 4, .domain, .ro, 0, .any⟩,
   ⟨0x5020, 5, .domain, .ro, 0, .any⟩, ⟨0x5020, 6, .u8, .ro, 0, .any⟩]

/-- Every entry. -/
def dictionary : List DEnt :=
  dictNumerics ++ dictArrays ++ dictCalibration ++ dictEngine ++ dictVector ++ dictTimetable ++ dictUpdate ++ dictReduction ++ dictFabric ++
  dictRecovery ++ dictCheck ++ dictHost ++ dictIdentity ++ dictMargin ++ dictConverter ++ dictClock ++ dictSecurity ++ dictPower

/-- An entry by index and subindex. -/
def findEntry (index sub : Nat) : Option DEnt := dictionary.find? fun e => e.index = index && e.sub = sub

/-- Highest subindex in use at an index, if the index exists (R418). -/
def highestSub (index : Nat) : Option Nat :=
  match (dictionary.filter fun e => e.index = index).map DEnt.sub with
  | [] => none
  | x :: r => some (r.foldl max x)

end Sys2Proof.Machine
end

