-- ==== Sys2Proof/Machine/DictRead.lean ====
section
/-! DEFINITION. What the entries of the dictionary hold (R66, R103, R163, R242, R277, R308, R350, R374, R379, R389, R424, R440,
R455, R472, R474, R486, R503). -/

namespace Sys2Proof.Machine

/-- Layers of the loaded plan (DESIGN CHOICE, assumption 13). -/
def State.layers (s : State) : Nat := if s.plan.loaded then Config.layers s.plan.id % 257 else 0

/-- One record per layer of the loaded plan. -/
def State.perLayer (s : State) (f : Nat → List Byte) : List Byte := (List.range s.layers).flatMap f

/-- A count that saturates in 32 bits. -/
def u32 (n : Nat) : List Byte := bytesOf 4 (min n 0xFFFFFFFF)

/-- 32 bytes with one bit for each of layers 0 to 255 (R65). -/
def State.layerBits (s : State) (f : Nat → Bool) : List Byte :=
  (List.range 32).map fun i => BitVec.ofNat 8
    (((List.range 8).map fun k => if 8 * i + k < s.layers ∧ f (8 * i + k) then 2 ^ k else 0).foldl (· + ·) 0)

/-- A number of n parts in d as a binary32, rounded once. -/
def ratio (n d : Nat) : Word := if d = 0 then 0 else (fDiv (roundLane (.fin false n 0)).1 (roundLane (.fin false d 0)).1).1

/-- A LayerNumerics record (R66). -/
def State.layerNumerics (s : State) (l : Nat) : List Byte :=
  let t := s.lastStats
  let n := t.nwSamples.get l 0
  let full : Bool := t.overflow.get l 0 ≠ 0
  List.flatten [u32 (t.sat.get l 0), u32 (t.zero.get l 0), u32 (t.outliers.get l 0), u32 (t.overflow.get l 0),
    bytesOf 2 (min 65535 (s.upd.dormant.get l 0)),
    bytesOf 1 (b2n full + 2 * b2n (s.upd.dormantBits.contains l) + 4 * b2n (t.cold.contains l)), [0], u32 n,
    u32 (t.nwElems.get l 0), bytesOf 4 (if n = 0 then 0 else (ratio (t.nwAgree.get l 0) (t.nwElems.get l 0)).toNat),
    bytesOf 4 (if n = 0 then 0 else quotF32 (t.nwDiff.get l {}) (t.nwRef.get l {})), bytesOf 4 (t.nwMax.get l 0),
    bytesOf 4 t.step, List.replicate 4 0]

/-- A word of every core's register. -/
def State.everyCore (_s : State) (f : Nat → List Byte) : List Byte := (List.range 4096).flatMap f

/-- Bits 0 to 8n - 1 as n bytes. -/
def bitBytes (n : Nat) (f : Nat → Bool) : List Byte :=
  (List.range n).map fun i => BitVec.ofNat 8 (((List.range 8).map fun k => if f (8 * i + k) then 2 ^ k else 0).foldl (· + ·) 0)

/-- Columns marked bad that no spare serves or will serve (R123, R126); a spare that is itself marked serves none. -/
def State.sparesExhausted (s : State) : Nat :=
  let cols := fun (c : Nat) (k : Core) => (k.arrays.map fun (x : Nat × Arr) =>
    (x.2.cols.filter fun (m : Nat × ColMark) => decide (m.1 < 256) && m.2.bad && !((List.range 4).any fun n =>
      (s.fon .SPARE_COL_IN_USE c x.1 n || s.fon .SPARE_COL_PENDING c x.1 n) && s.fget .SPARE_COL_COLUMN c x.1 n = m.1 &&
      !(x.2.cols.get (256 + n) {}).bad)).length)
  ((s.cores.flatMap fun x => cols x.1 x.2)).foldl (· + ·) 0

/-- Arrays in FAILED (R102): bank state 4 of ARRAY_STATUS. -/
def State.failedArrays (s : State) : Nat :=
  ((s.cores.map (·.1)).flatMap fun c => (List.range 8).filter fun a => s.fget .ARRAY_STATUS_STATE c a = 4).length

/-! ### The logbook -/

/-- Identity slots 0 and 1 (R474). -/
def identitySlot (i : Nat) : List Byte :=
  let withCheck (b : List Byte) : List Byte := b ++ bytesOf 4 (crc c32 b)
  if i = 0 then withCheck (padTo 60 0 (List.flatten [[0x0B, 0xFF, 0, 0], bytesOf 8 (Config.identity 0x1018 4), bytesOf 4 productCode,
    bytesOf 4 (Config.identity 0x1018 5)]))
  else withCheck (padTo 60 0 ([0x0B, 0xFF, 1, 0] ++ sm3 (padTo 64 0 (Config.identityBytes 0x9000 1))))

/-- The 64 bytes of a logbook slot; a slot that no record has been written to holds zero. (DEDUCED, assumption 64.) -/
def State.logSlot (s : State) (i : Nat) : List Byte :=
  if i < 2 then identitySlot i else if i < 16 then List.replicate 64 0
  else (s.log.slots.find? i).getD (List.replicate 64 0)

/-- LOGBOOK_I3C_READ (R373): out of band, without hub or firmware, while the always-on rail is up. -/
def execLogbookI3cRead (slot : Nat) (s : State) : Out :=
  .next (if 65536 ≤ slot ∨ s.fget .PWR_STATUS_STATE = 0 then s else { s with reply := s.logSlot slot })

/-! ### Housekeeping -/

/-- Inputs that are not connected (R445). -/
def hkUnconnected (h i : Nat) : Bool := h = 4 && ((8 ≤ i && i < 16) || (33 ≤ i && i < 48))

/-- Unit code of an input (R445, R455). -/
def hkUnit (i : Nat) : Nat := if i < 16 then 0 else if i < 28 then 1 else if i < 40 then 2 else if i < 48 then 3 else 4

/-- An HkValues record (R455); its age is a free value. -/
def State.hkRecord (s : State) (h i free : Nat) : List Byte :=
  let nan : Bool := hkUnconnected h i || (s.hkOf h).failed.contains i || s.fon .HK_RINFO_FAILED h i || s.fon .HK_RINFO_OVER_RANGE h i
  List.flatten [bytesOf 4 (if nan then 0x7FC00000 else (s.hkReading h i).toNat), bytesOf 4 (wrap 32 ((s.hkOf h).codes.get i 0)),
    bytesOf 1 (s.rword .hk h (0x104 + 8 * i) % 32), bytesOf 1 (hkUnit i), bytesOf 2 (s.fget .HK_RINFO_COUNT h i),
    bytesOf 4 (Config.freeNat (free + i))]

/-! ### Values by entry -/

/-- Values of identity, communication and start-up entries (R417, R431, R472). -/
def State.valueIdentity (s : State) (index sub : Nat) : Option (List Byte) :=
  match index, sub with
  | 0x1008, _ => some [0x54, 0x61, 0x72, 0x6C, 0x69, 0x73, 0x20, 0x54, 0x31]
  | 0x1009, _ => some (asciiText (Config.identityBytes 0x1009 1))
  | 0x100A, _ => some (asciiText (Config.identityBytes 0x100A ((s.secure.image.map Image.version).getD 0)))
  | 0x1010, 3 => some (u32 s.mgmt.stores)
  | 0x1018, 2 => some (bytesOf 4 productCode)
  | 0x1018, 4 => some (bytesOf 8 (Config.identity 0x1018 4))
  | 0x1018, k => some (bytesOf 4 (Config.identity 0x1018 k))
  | 0x1300, _ => some (bytesOf 4 (s.mgmt.linkState.getD (Config.identity 0x1300 1)))
  | 0x1500, 1 => some [BitVec.ofNat 8 (b2n s.mgmt.restarting)]
  | 0x1600, 1 => some [BitVec.ofNat 8 s.startup.state]
  | 0x1600, 2 => some (s.startup.times.flatMap u32)
  | 0x1600, 5 => some (List.flatten [bytesOf 4 (s.rword .clock 0 0), bytesOf 4 (s.rword .clock 0 8),
      bytesOf 4 (s.rword .clock 0 0xC), u32 s.startup.relocks, u32 s.startup.merged])
  | _, _ => none

/-- Values of plan, step and numerics entries (R65, R102, R162, R196, R241, R276, R307). -/
def State.valueStep (s : State) (index sub : Nat) : Option (List Byte) :=
  let t := s.lastStats
  match index, sub with
  | 0x2300, 6 => some [BitVec.ofNat 8 s.ledger.page]
  | 0x2301, k => some (s.dom 0x2301 k (programDefault k))
  | 0x3000, 1 => some (bytesOf 8 s.job.stepCounter)
  | 0x3000, _ => some (bytesOf 2 s.job.attempt)
  | 0x3101, k => some (s.dom 0x3101 k groupDefault)
  | 0x3200, 5 => some [BitVec.ofNat 8 (s.fget .RECOVERY_STATUS_STATE)]
  | 0x4001, 2 => some (s.layerBits fun l => s.upd.dormantBits.contains l)
  | 0x4002, 2 => some [BitVec.ofNat 8 s.plan.nwRate]
  | 0x4003, _ => some (s.layerBits fun l => t.overflow.get l 0 ≠ 0)
  | 0x4006, _ => some (padTo 1024 0 s.upd.lastStats)
  -- ExchangeHistoryCold shows a reset that waits for its attempt too (DESIGN CHOICE, assumption 98).
  | 0x4007, 2 => some [BitVec.ofNat 8 (b2n (!s.ledger.loaded || s.historyCold || s.exch.resetDue))]
  | 0x4008, _ => some (padTo 32 0 s.exch.lastStats)
  | 0x4100, _ => some (s.perLayer fun l => bytesOf 2 (((s.plan.ratios.find? fun x => x.1 = l).map (·.2)).getD 0))
  | 0x4101, _ => some (s.perLayer s.layerNumerics)
  | 0x4102, _ => some (s.perLayer fun l => List.flatten [u32 (t.overRange.get l 0), u32 (t.missFix.get l 0),
      u32 (t.zeroSkip.get l 0), u32 (t.zeroGroups.get l 0), u32 (t.arraySlots.get l 0), bytesOf 4 t.step])
  | 0x4103, _ => some (List.flatten [u32 t.primaryMax, u32 t.chunks, u32 t.skipped, bytesOf 4 t.step])
  | 0x4104, _ => some (s.perLayer fun l => List.flatten [u32 (t.windowLoss.get l 0), u32 (t.headroom.get l 0),
      u32 (t.bands.get l 0), u32 (t.crossed.get l 0), bytesOf 4 t.step])
  | _, _ => none

/-- Values of fault, health and margin entries (R102, R126, R162, R196, R241, R378, R439, R503). (DEDUCED, assumption 64.) -/
def State.valueHealth (s : State) (index sub : Nat) : Option (List Byte) :=
  match index, sub with
  | 0x5000, 2 => some (allCodes.flatMap fun c => u32 (s.faults.counts.get c.number 0))
  | 0x5000, 3 => some (padTo 32 0 s.faults.lastRefusal)
  | 0x5001, 1 => some (bitBytes 512 (fun c => s.phys.pendingCores.contains c) ++ (List.range 4).flatMap fun d =>
      bitBytes 16 fun r => s.phys.aged.any fun x => x.1 = d && x.2.2 = r)
  | 0x5002, 1 => some ((List.range 4).flatMap (fun d => bytesOf 4 (s.phys.testBits.get d 0) ++ (List.range 32).flatMap fun k =>
      bytesOf 1 (s.phys.spareRow.get (32 * d + k) 32)) ++ bytesOf 4 (s.phys.testBits.get 4 0))
  | 0x5002, _ => some ((List.range 16).flatMap fun k =>
      let l := (s.phys.exclusions.filter fun x => x.1 = k).map (·.2)
      bytesOf 1 l.length ++ (padTo 2 0xFF l).flatMap fun p => bytesOf 1 p)
  | 0x5010, 4 => some (padTo 64 0 (s.dom 0x5010 4 []))
  | 0x5011, 1 => some (s.mgmt.guard.flatMap fun g => bytesOf 2 g)
  | 0x5012, _ => some (padTo 4096 0xFF (s.dom 0x5012 1 []))
  | 0x5013, _ => some (padTo 64 0 (s.dom 0x5013 1 []))
  | 0x5020, 1 => some [BitVec.ofNat 8 (s.fget .PWR_STATUS_STATE)]
  | 0x5020, 3 => some (bytesOf 4 (roundLane (.fin false s.power.watts 0)).1.toNat)
  | 0x5020, 4 => some ((List.range 4).map fun d => BitVec.ofNat 8 (s.fget (levelFld d)))
  | 0x5020, 5 => some ((List.range 4).flatMap fun d => u32 (s.power.throttleMs.get d 0))
  | 0x5200, 1 => some (s.everyCore fun c => (List.range 8).flatMap fun a => bytesOf 4 (s.arrayStatus c a))
  | 0x5200, _ => some (u32 s.failedArrays)
  | 0x5204, _ => some (s.everyCore fun c => (List.range 8).flatMap fun a => bytesOf 2 ((s.core c).arrays.get a {}).rate)
  | 0x5205, 1 => some (s.everyCore fun c => (List.range 32).flatMap fun k => bytesOf 2 (s.rword .array c (0x100 + 4 * k)))
  | 0x5205, 2 => some (s.everyCore fun c => (List.range 4).flatMap fun k => bytesOf 2 (s.rword .array c (0xA0 + 4 * k)))
  | 0x5205, _ => some (u32 s.sparesExhausted)
  | 0x5206, _ => some (s.everyCore fun c => (List.range 8).flatMap fun a =>
      let x := s.creepTot.get (8 * c + a) (0, 0, 0)
      List.flatten [u32 x.1, u32 x.2.1, u32 x.2.2])
  | 0x5210, _ => some (s.everyCore fun c => bytesOf 4 (s.rword .engine c 0))
  | 0x5211, 1 => some (s.everyCore fun c => bytesOf 4 (s.vecSnap.get c (resetReg .vector c 0)))
  | 0x5211, 2 => some (u32 s.lastStats.mwLoss)
  | 0x5211, _ => some (u32 s.lastStats.mwOvf)
  | 0x5212, _ => some (s.everyCore fun c => bytesOf 4 (s.seqSnap.get c (resetReg .seq c 0)))
  | _, _ => none

/-- Values of fabric and logbook entries (R349, R350, R378). -/
def State.valueFabric (s : State) (index sub : Nat) : Option (List Byte) :=
  let t := s.lastStats
  match index, sub with
  | 0x6002, 1 => some s.laneStatusTable
  | 0x6002, _ => some ((List.range 12).flatMap fun l =>
      let x := (s.lane l).totals
      List.flatten [u32 x.1, u32 x.2.1, u32 x.2.2])
  | 0x6003, _ => some s.neighbourTable
  | 0x6004, 1 => some (s.dom 0x6004 1 (routingDefault s.address))
  | 0x6006, 2 => some (s.dom 0x6006 2 [])
  | 0x6009, 3 => some (bytesOf 2 s.fab.ctxs.length)
  | 0x600A, _ => some ((List.range s.itin.layers.length).flatMap fun l => List.flatten [u32 (t.travSent.get l 0), u32 (t.travAccepted.get l 0),
      u32 (t.travRefused.get l 0), u32 (t.travDropped.get l 0), bytesOf 4 t.step])
  | 0x7000, 1 => some (u32 ((s.log.slots.filter fun x => 1040 ≤ x.1).length))
  | 0x7000, 2 => some (bytesOf 2 s.log.keepUsed)
  | 0x7000, 4 => some (s.logSlot (s.dval 0x7000 3 0))
  | _, _ => none

/-- Values of check-value unit, converter and security entries (R389, R455, R486); free values are numbered from `free`. -/
def State.valueUnits (s : State) (index sub free : Nat) : Option (List Byte) :=
  let h := (index - 0x8000) / 256
  if 0x8000 ≤ index ∧ index ≤ 0x8400 then
    match sub with
    | 1 => some ((List.range 64).flatMap fun i => s.hkRecord h i free)
    | 2 => some ((s.surveyList h).flatMap fun w => bytesOf 2 w)
    | 3 => some ((s.burstList h).flatMap fun w => bytesOf 2 w)
    | 4 => some [BitVec.ofNat 8 (s.fget .HK_CTRL_TRIG_EN h)]
    | 6 => some (bytesOf 4 ((s.dieTemperature h).getD 0x7FC00000).toNat)
    | 7 => some (u32 (s.hkOf h).dropped)
    | 9 => some ((List.range 8).map fun k => BitVec.ofNat 8 (s.rword .hk h (0xE0 + 4 * k)))
    | _ => none
  else match index, sub with
  | 0x2500, k => some ((List.range 24).flatMap fun i => bytesOf 4 (s.regRead .gu (k - 1) (4 * i)).1)
  | 0x2501, k => some (List.flatten [bytesOf 4 (s.regRead .gu (k - 1) 0xC).1, bytesOf 4 (s.regRead .gu (k - 1) 0x10).1,
      bytesOf 8 (s.gu64 (k - 1) .GU_RESULT_LO_VALUE .GU_RESULT_HI_VALUE)])
  | 0x9000, 1 => some (padTo 64 0 (Config.identityBytes 0x9000 1))
  | 0x9000, _ => some certChain
  | 0x9001, 1 => some ((List.range 2).flatMap fun i => match s.slotImage i with
      | some m => List.flatten [[1], bytesOf 1 m.signer, bytesOf 2 m.svn, bytesOf 4 m.version, List.replicate 8 0]
      | none => List.replicate 16 0)
  | 0x9001, 2 => some [BitVec.ofNat 8 s.secure.running]
  | 0x9001, 7 => some [BitVec.ofNat 8 (b2n s.secure.fallback)]
  | 0x9002, 1 => some [BitVec.ofNat 8 s.rollback]
  | 0x9003, _ => some ([1, 2, 3, 4, 5, 6].flatMap s.measurement)
  | 0x9005, 1 => some [BitVec.ofNat 8 s.secure.sessions.length]
  | 0x9005, _ => some ((List.range 4).map fun k => BitVec.ofNat 8 (s.keyState k))
  | _, _ => none

/-- The value of an entry in bytes: what the state gives, else the stored scalar. -/
def State.entryBytes (s : State) (e : DEnt) (free : Nat) : List Byte :=
  let v := if e.index < 0x2000 then s.valueIdentity e.index e.sub
    else if e.index < 0x5000 ∧ e.index ≠ 0x2500 ∧ e.index ≠ 0x2501 then s.valueStep e.index e.sub
    else if 0x5000 ≤ e.index ∧ e.index < 0x6000 then s.valueHealth e.index e.sub
    else if 0x6000 ≤ e.index ∧ e.index < 0x8000 then s.valueFabric e.index e.sub
    else s.valueUnits e.index e.sub free
  v.getD (bytesOf e.typ.size (s.dval e.index e.sub e.dflt))

/-- An entry's present size in bytes. -/
def State.entrySize (s : State) (e : DEnt) : Nat :=
  if e.typ = .domain ∨ e.typ = .string then (s.entryBytes e 0).length else e.typ.size

end Sys2Proof.Machine
end

