-- ==== Sys2Proof/Machine/DictWrite.lean ====
section
/-! DEFINITION. Writes of dictionary entries: their checks and what they do (R256, R260, R267, R313, R320 to R322, R331, R333,
R362 to R364, R389, R420, R421, R431 to R434, R437, R478, R480). A write answers a status of R423 and a state. -/

namespace Sys2Proof.Machine

/-- Status codes of R423 that a write answers. -/
def dOk : Nat := 0
def dNoIndex : Nat := 1
def dNoSub : Nat := 2
def dReadOnly : Nat := 3
def dWriteOnly : Nat := 4
def dLength : Nat := 5
def dRange : Nat := 6
def dState : Nat := 7
def dNoStaging : Nat := 8
def dBadRequest : Nat := 9
def dBusy : Nat := 10
def dLocked : Nat := 11

/-! ### Update programs and groups (R254 to R256, R260) -/

/-- A binary32 from 0 to 1, 1 excluded. -/
def betaOk (v : Nat) : Bool := v < 0x3F800000 || v = 0x80000000

/-- A finite binary32 of at least 0. -/
def nonNegative (v : Nat) : Bool := v < 0x7F800000 || v = 0x80000000

/-- An instruction word has no reserved value (R256). -/
def progWordOk (w : Nat) : Bool :=
  let (op, f) := udec w
  decide (op ≤ 12) && decide (w < 2 ^ 25) && decide (f.ksel ≠ 3)
  && (f.ksel = 0 || [3, 4, 5, 6, 8, 9].contains op) && (decide (f.ksel ≠ 2) || op = 6)
  && (if op = 7 then decide (f.sub ≤ 4) else if op = 2 ∨ op = 11 then decide (f.sub ≤ 1) else f.sub = 0)

/-- Registers an instruction reads, and the one it writes (R255). -/
def progReads (w : Nat) : List Nat :=
  let (op, f) := udec w
  let b := if f.ksel = 1 then [] else [f.b]
  let c := if f.ksel = 2 then [] else [f.c]
  if op = 6 then f.a :: b ++ c
  else if op ≤ 2 then [] else if op = 7 ∨ 10 ≤ op then [f.a] else f.a :: b
def progWrites (w : Nat) : List Nat := if (udec w).1 ≤ 9 then [(udec w).2.dst] else []

/-- No register is read before an earlier instruction writes it. -/
def progOrder (written : List Nat) : List Nat → Bool
  | [] => true
  | w :: r => (progReads w).all written.contains && progOrder (progWrites w ++ written) r

/-- An UpdateProgram record is valid (R256), or empty (R260). -/
def programOk (b : List Byte) : Bool :=
  let n := fieldAt b 0 1
  let code := progCode b
  let count (op sub : Nat) : Nat := (code.filter fun w => (udec w).1 = op && ((udec w).2.sub = sub)).length
  zeroAt b 1 3 && zeroAt b 52 4 && decide (n ≤ 24) && zeroAt b (56 + 4 * n) (96 - 4 * n)
  && betaOk (fieldAt b 4 4) && betaOk (fieldAt b 8 4)
  && (n = 0 || (code.all progWordOk && progOrder [] code && count 10 0 = 1 && count 12 0 = 1
      && decide (count 11 0 ≤ 1) && decide (count 11 1 ≤ 1)))

/-- A GroupControl record lies in its ranges (R260). -/
def groupOk (b : List Byte) : Bool :=
  let g := readGroup b
  nonNegative g.lrScale.toNat && nonNegative g.decay.toNat && decide (-64 ≤ g.r ∧ g.r ≤ 64) && decide (g.program ≤ 15)
  && zeroAt b 10 2

/-- The dictionary's program `k` is empty. -/
def State.programEmpty (s : State) (k : Nat) : Bool := fieldAt (s.dom 0x2301 k (programDefault k)) 0 1 = 0

/-- A group of the dictionary names the program. -/
def State.programNamed (s : State) (k : Nat) : Bool :=
  (List.range 64).any fun g => (readGroup (s.dom 0x3101 (g + 1) groupDefault)).program = k

/-- AgeingTable (R439) of predicted margins by core, 0.01 % each; a core without one shows 255. -/
def marginTable (cs : List (Nat × Nat)) : List Byte :=
  (cs.filter fun x => x.1 < 4096).foldl (fun t x => setAt t x.1 (BitVec.ofNat 8 (min 255 (x.2 / 10)))) (List.replicate 4096 0xFF)

/-- Put a DOMAIN value. -/
def State.putDom (s : State) (index sub : Nat) (v : List Byte) : State := { s with doms := s.doms.put (dkey index sub) v }

/-! ### Stored configuration (R432 to R434) -/

/-- A record of a copy (R433). -/
def storeRecord (e : DEnt) (v : List Byte) : List Byte :=
  List.flatten [bytesOf 2 e.index, bytesOf 1 e.sub, bytesOf 1 e.typ.code, bytesOf 2 v.length, [0, 0], v,
    List.replicate ((4 - v.length % 4) % 4) 0]

/-- The RWS entries. -/
def storedEntries : List DEnt := dictionary.filter fun e => e.acc = .rws

/-- A copy of the values in force, with a sequence number (R433). -/
def State.configCopy (s : State) (seq : Nat) : List Byte :=
  let recs := storedEntries.flatMap fun e => storeRecord e (s.entryBytes e 0)
  let b := List.flatten [bytesOf 4 0x74740050, bytesOf 2 1, bytesOf 2 0, bytesOf 4 seq, bytesOf 4 storedEntries.length,
    bytesOf 4 recs.length, List.replicate 12 0, recs]
  b ++ bytesOf 4 (crc c32 b)

/-- A copy is valid: Magic, Version and CheckValue (R434). -/
def copyValid (b : List Byte) : Bool :=
  let n := fieldAt b 16 4
  fieldAt b 0 4 = 0x74740050 && fieldAt b 4 2 = 1 && decide (32 + n + 4 ≤ b.length) &&
  fieldAt b (32 + n) 4 = crc c32 (b.take (32 + n))

/-- Sequence of a copy, if it is valid; copies A and B are 0 and 1. -/
def State.copySeq (s : State) (i : Nat) : Option Nat :=
  match s.mgmt.copies.find? i with
  | some b => if copyValid b then some (fieldAt b 8 4) else none
  | none => none

/-- Sequence `a` is higher than `b` in serial arithmetic modulo 2^32. -/
def serialHigher (a b : Nat) : Bool := decide (0 < (a + 2 ^ 32 - b) % 2 ^ 32) && decide ((a + 2 ^ 32 - b) % 2 ^ 32 < 2 ^ 31)

/-- StoreConfig (R433): into the invalid copy, or else the one with the lower Sequence. (DEDUCED, assumption 68.) -/
def State.storeConfig (s : State) : Nat × State :=
  if s.mgmt.storing.isSome then (dState, s) else
  let (copy, seq) := match s.copySeq 0, s.copySeq 1 with
    | none, none => (0, 1)
    | none, some b => (0, (b + 1) % 2 ^ 32)
    | some a, none => (1, (a + 1) % 2 ^ 32)
    | some a, some b => if serialHigher b a then (0, (b + 1) % 2 ^ 32) else (1, (a + 1) % 2 ^ 32)
  let b := s.configCopy seq
  (dOk, { s with mgmt := { s.mgmt with storing := some (copy, seq), copies := s.mgmt.copies.put copy b } }.setDval 0x1010 2 1)

/-- STORE_COMPLETE (R433): the copy has been read back. (DEDUCED, assumption 68.) -/
def execStoreComplete (verified : Bool) (s : State) : Out :=
  s.clocked (.storeComplete verified) <|
  .next <| match s.mgmt.storing with
    | none => s
    | some (copy, _) =>
      let copies := if verified then s.mgmt.copies else s.mgmt.copies.del copy
      { s with mgmt := { s.mgmt with storing := none, copies := copies, stores := satAdd 0xFFFFFFFF s.mgmt.stores 1 } }.setDval
        0x1010 2 (if verified then 0 else 2)

/-! ### What a write does -/

/-- A write of a scalar that has passed its type and range. -/
def State.writeScalar (s : State) (e : DEnt) (n : Nat) : Nat × State :=
  let keep := s.setDval e.index e.sub n
  let act (f : State → State) : Nat × State := if n = 0 then (dOk, s) else (dOk, f s)
  let allCores (f : Fld) : Nat × State := (dOk, (List.range 4096).foldl (fun s c => s.fset f n c) keep)
  let h := (e.index - 0x8000) / 256
  if 0x8000 ≤ e.index ∧ e.index ≤ 0x8400 then
    match e.sub with
    | 4 => (dOk, s.fset .HK_CTRL_TRIG_EN n h)
    | 8 => act fun s => s.selfcalRequest h
    | _ => (dOk, keep)
  else match e.index, e.sub with
  | 0x1010, 1 => if n = 0 then (dOk, s) else s.storeConfig
  | 0x1500, 2 => (dOk, s)
  | 0x1600, 3 => (dOk, s)
  | 0x2200, 2 => act State.timetableLoad
  | 0x2300, 3 => (dOk, s.ledgerLoad n)
  | 0x2302, 1 => if n = 0 ∧ s.dval 0x2302 2 0 = 2 then (dState, s) else (dOk, keep)
  | 0x2302, 2 => if n = 2 ∧ s.dval 0x2302 1 0 = 0 then (dState, s) else (dOk, keep)
  | 0x2400, 2 => act State.reductionLoad
  | 0x3100, 1 => (dOk, { keep with job := { keep.job with ageReset := true } })
  | 0x3200, 2 => if n ≠ 0 ∧ s.fget .RECOVERY_STATUS_STATE = 3 then (dState, s) else act State.holdRequest
  | 0x3200, 4 => if s.fget .RECOVERY_STATUS_STATE ≠ 3 then (dState, s) else (dOk, s.voteResolve (n = 1))
  | 0x4000, 3 => act State.scaleReset
  | 0x4007, 1 => act State.exchangeReset
  | 0x5010, 2 => act fun s => if s.mgmt.replan.isSome then s else { s with mgmt := { s.mgmt with replan := some 1 } }
  | 0x5201, 1 => allCores .ARRAY_CTRL_VERIFY_WINDOW
  | 0x5201, 2 => allCores .ARRAY_CTRL_URGENT_BORROW
  | 0x5202, 2 => if n < s.dval 0x5202 3 48 then (dOk, keep) else (dState, s)
  | 0x5202, 3 => if s.dval 0x5202 2 35 < n ∧ n < s.dval 0x5202 4 96 then (dOk, keep) else (dState, s)
  | 0x5202, 4 => if s.dval 0x5202 3 48 < n then (dOk, keep) else (dState, s)
  | 0x6000, 1 => if s.inStep then (dState, s) else (dOk, s.setAddress n)
  | 0x6001, 2 => (dOk, (s.applyPortEnable n).setDval 0x6001 2 n)
  | 0x6001, 3 =>
    let port := bits n 0 4
    let spare := bits n 4 1
    if bits n 5 2 ≠ 0 ∨ (!bit n 7 ∧ 10 ≤ port) then (dRange, s)
    else if bit n 7 then (dOk, s.requestSpare (none, spare))
    else if s.spareAllowed port spare then (dOk, s.requestSpare (some port, spare)) else (dState, s)
  | 0x6005, 2 => act State.ringLoad
  | 0x6006, _ => if s.inStep then (dOk, latchDict s (dkey e.index e.sub) (bytesOf 2 n)) else (dOk, keep)
  | 0x6007, 2 => act State.itineraryLoad
  | 0x8F00, 1 => (dOk, (List.range 5).foldl (fun s h => s.fset .HK_CTRL_MAINS60 (b2n (n = 60)) h) keep)
  | 0x8F00, 3 => (dOk, (List.range 5).foldl (fun s h => (s.fset .HK_CTRL_PACK n h).repack h) keep)
  | 0x9001, 4 => s.firmwareUpdate n
  | 0x9001, 5 => s.firmwareActivate n
  | 0x9002, 2 => if n = 0 then (dOk, s) else s.rollbackCommit
  | _, _ => (dOk, keep)

/-- Entry words of a converter list: 16-bit, bits [15:8] zero. -/
def hkWords (v : List Byte) : List Nat := (List.range (v.length / 2)).map fun i => fieldAt v (2 * i) 2

/-- A write of a DOMAIN value. -/
def State.writeDomain (s : State) (e : DEnt) (v : List Byte) : Nat × State :=
  let h := (e.index - 0x8000) / 256
  let sized (n : Nat) (r : Nat × State) : Nat × State := if v.length = n then r else (dLength, s)
  match e.index, e.sub with
  | 0x2301, k => sized 152 (
      if !programOk v then (dRange, s)
      else if fieldAt v 0 1 = 0 ∧ s.programNamed k then (dState, s) else (dOk, s.putDom 0x2301 k v))
  | 0x3101, k => sized 16 (
      let p := (readGroup v).program
      if !groupOk v then (dRange, s)
      else if p ≠ 0 ∧ s.programEmpty p then (dState, s)
      else (dOk, { s.putDom 0x3101 k v with job := { s.job with ageReset := true } }))
  | 0x6004, _ => sized 65536 (
      if s.inStep then (dOk, s.routingWrite v)
      else if routingBad s.address v then (dRange, s.routingWrite v) else (dOk, s.routingWrite v))
  | 0x6006, _ =>
      if v.length % 2 ≠ 0 ∨ 32 < v.length then (dLength, s)
      else if (hkWords v).any (16383 < ·) then (dRange, s)
      else if s.inStep then (dOk, latchDict s (dkey 0x6006 2) v) else (dOk, s.putDom 0x6006 2 v)
  | 0x2500, k => sized 96 (dOk, (List.range 24).foldl (fun s i => s.guWrite (k - 1) (4 * i) (fieldAt v (4 * i) 4)) s)
  | _, sub =>
      if v.length % 2 ≠ 0 ∨ (if sub = 2 then 64 else 8) < v.length then (dLength, s)
      else if (hkWords v).any (255 < ·) then (dRange, s)
      else (dOk, if sub = 2 then s.setSurvey h (hkWords v) else s.setBurst h (hkWords v))

/-- A write of a whole value (R419, R421): type and size, range, then the entry's own rules. -/
def State.writeValue (s : State) (e : DEnt) (v : List Byte) : Nat × State :=
  if e.typ = .domain ∨ e.typ = .string then s.writeDomain e v
  else if v.length ≠ e.typ.size then (dLength, s)
  else if !e.fits (natOf v) then (dRange, s)
  else s.writeScalar e (natOf v)

/-- The default of an RWS entry in bytes: a converter list as R454 gives it. -/
def DEnt.defaultBytes (e : DEnt) : List Byte :=
  if e.typ ≠ .domain then bytesOf e.typ.size e.dflt
  else
    let s : State := {}
    let h := (e.index - 0x8000) / 256
    (if e.sub = 2 then s.surveyList h else s.burstList h).flatMap fun w => bytesOf 2 w

/-- RestoreDefaults (R431): every RWS entry takes its default as if written. -/
def State.restoreDefaults (s : State) : State := storedEntries.foldl (fun s e => (s.writeValue e e.defaultBytes).2) s

/-- A write of a whole value, RestoreDefaults included. -/
def State.writeEntry (s : State) (e : DEnt) (v : List Byte) : Nat × State :=
  if e.index = 0x1011 then
    if v.length ≠ 1 then (dLength, s) else if 1 < natOf v then (dRange, s)
    else (dOk, if natOf v = 1 then s.restoreDefaults else s)
  else s.writeValue e v

end Sys2Proof.Machine
end

