-- ==== Sys2Proof/Machine/Manage.lean ====
section
/-! DEFINITION. Dictionary requests on the three paths, the management window, the MCTP port, restarts of the firmware, and the
margin re-plan (R418 to R429, R435 to R440, R484). -/

namespace Sys2Proof.Machine

/-! ### Requests and responses (R422 to R425) -/

/-- Number of a path and its source. -/
def pathNo : DPath → Nat
  | .window => 0
  | .fabric src => 1 + src
  | .mctp eid => 65537 + eid

/-- Largest Length on a path (R422). -/
def pathMax : DPath → Nat
  | .window => 32768
  | _ => 1024

/-- The path may write (R484): PathWriteMask itself only through the window, and there always. -/
def State.mayWrite (s : State) (p : DPath) (e : DEnt) : Bool :=
  match p with
  | .window => e.index = 0x9004 || bit (s.dval 0x9004 1 7) 0
  | .fabric _ => decide (e.index ≠ 0x9004) && bit (s.dval 0x9004 1 7) 1
  | .mctp _ => decide (e.index ≠ 0x9004) && bit (s.dval 0x9004 1 7) 2

/-- What a request led to: status, data, size of the entry, and the state. -/
structure Ran where
  status : Nat
  data : List Byte := []
  total : Nat := 0
  state : State

/-- The entry a request names, subindex 0 included (R418), or the status that says which of the two does not exist. -/
def lookup (index sub : Nat) : Except Nat DEnt :=
  match highestSub index with
  | none => .error dNoIndex
  | some n =>
    if sub = 0 then .ok ⟨index, 0, .u8, .ro, n, .any⟩
    else match findEntry index sub with
      | some e => .ok e
      | none => .error dNoSub

/-- The value of an entry, subindex 0 included. -/
def State.valueOf (s : State) (e : DEnt) (free : Nat) : List Byte :=
  if e.sub = 0 then bytesOf 1 e.dflt else s.entryBytes e free

/-- Single-bit errors that management memory has corrected since the entry was last read are counted (R435); how many is
free (DESIGN CHOICE, assumption 70). -/
def State.eccCorrected (s : State) : State :=
  let (i, s) := s.draw 1
  s.countD 0x1500 5 (Config.freeNat i)

/-- READ (R424). A read of a check unit's result takes its read-clear count with it (R389). -/
def State.runRead (s : State) (q : DReq) : Ran :=
  match lookup q.index q.sub with
  | .error c => { status := c, state := s }
  | .ok e =>
    let s := if q.index = 0x1500 ∧ q.sub = 5 then s.eccCorrected else s
    let (i, s) := s.draw 64
    let v := s.valueOf e i
    let n := v.length
    let scalar : Bool := e.typ ≠ .domain && e.typ ≠ .string
    if e.acc = .wo then { status := dWriteOnly, total := e.typ.size, state := s }
    else if n < q.offset ∨ (scalar ∧ q.offset ≠ 0) then { status := dLength, total := n, state := s }
    else
      let s := if q.index = 0x2501 then (s.regRead .gu (q.sub - 1) 0x10).2 else s
      { status := dOk, data := (v.drop q.offset).take q.length, total := n, state := s }

/-- INFO (R423): type, access, two zero bytes. -/
def State.runInfo (s : State) (q : DReq) : Ran :=
  match lookup q.index q.sub with
  | .error c => { status := c, state := s }
  | .ok e =>
    let n := if e.acc = .wo ∨ e.sub = 0 then e.typ.size else s.entrySize e
    { status := dOk, data := [BitVec.ofNat 8 e.typ.code, BitVec.ofNat 8 e.acc.code, 0, 0], total := n, state := s }

/-- Key of a staging slot (R425): path, tag, index and subindex. -/
def stageKey (q : DReq) : Nat × Nat × Nat × Nat := (pathNo q.path, q.tag, q.index, q.sub)

/-- Drop a staging slot, or discard one of an unfinished write, or replace its bytes. -/
def State.dropStage (s : State) (i : Nat) : State :=
  { s with mgmt := { s.mgmt with slots := s.mgmt.slots.eraseIdx i } }
def State.discardStage (s : State) (i : Nat) : State :=
  match s.mgmt.slots[i]? with
  | none => s
  | some t => { s.dropStage i with mgmt := { (s.dropStage i).mgmt with gone := s.mgmt.gone ++ [(t.path, t.tag, t.index, t.sub)] } }
def State.setStage (s : State) (i : Nat) (t : Staging) : State :=
  { s with mgmt := { s.mgmt with slots := setAt s.mgmt.slots i t } }

/-- Place of the staging slot with a key (R425). -/
def State.stageOf (s : State) (q : DReq) : Option Nat :=
  s.mgmt.slots.findIdx? fun t =>
    t.path = pathNo q.path && t.tag = q.tag && t.index = q.index && t.sub = q.sub

/-- Bytes of a staging slot, and how many there are (R425). -/
def stageSize : Nat := 65536
def stageCount : Nat := 16

/-- A segment of a DOMAIN or STRING value (R425). A later segment of a discarded slot finds no staging; one of a write that
has not begun leaves a gap from 0. -/
def State.runSegment (s : State) (e : DEnt) (q : DReq) : Nat × State :=
  match s.stageOf q with
  | some i =>
    let t := (s.mgmt.slots[i]?).getD ⟨0, 0, 0, 0, []⟩
    if q.offset ≠ t.data.length ∨ stageSize < t.data.length + q.data.length then (dLength, s.discardStage i)
    else if q.last then (s.dropStage i).writeEntry e (t.data ++ q.data)
    else (dOk, s.setStage i { t with data := t.data ++ q.data })
  | none =>
    if q.offset ≠ 0 then (if stageKey q ∈ s.mgmt.gone then dNoStaging else dLength, s)
    else if q.last then s.writeEntry e q.data
    else if stageCount ≤ s.mgmt.slots.length then (dNoStaging, s)
    else (dOk, { s with mgmt := { s.mgmt with
      gone := s.mgmt.gone.filter (· ≠ stageKey q)
      slots := s.mgmt.slots ++ [⟨pathNo q.path, q.tag, q.index, q.sub, q.data⟩] } })

/-- A whole value written on a path. RestoreDefaults from the fabric or MCTP leaves PathWriteMask, which only the window
writes (R431, R484; DEDUCED, assumption 84). -/
def State.writeFrom (s : State) (p : DPath) (e : DEnt) (v : List Byte) : Nat × State :=
  let r := s.writeEntry e v
  let mask := s.dval 0x9004 1 7
  if e.index = 0x1011 ∧ p ≠ .window ∧ r.2.dval 0x9004 1 7 ≠ mask then (r.1, r.2.setDval 0x9004 1 mask) else r

/-- WRITE (R420, R421, R425, R484). -/
def State.runWrite (s : State) (q : DReq) : Ran :=
  match lookup q.index q.sub with
  | .error c => { status := c, state := s }
  | .ok e =>
    let r : Nat × State :=
      if e.acc = .ro then (dReadOnly, s)
      else if !s.mayWrite q.path e then (dLocked, s)
      else if q.data.length ≠ q.length then (dLength, s)
      else if e.typ = .domain ∨ e.typ = .string then s.runSegment e q
      else if q.offset ≠ 0 ∨ !q.last then (dLength, s)
      else s.writeFrom q.path e q.data
    { status := r.1, total := if e.acc = .wo ∨ e.sub = 0 then e.typ.size else r.2.entrySize e, state := r.2 }

/-- Run a request: Op 1 READ, 2 WRITE, 3 INFO (R422, R423). -/
def State.run (s : State) (op : Nat) (q : DReq) : Ran :=
  if op = 0 ∨ 3 < op ∨ q.flagsBad then { status := dBadRequest, state := s }
  else if pathMax q.path < q.length then { status := dLength, state := s }
  else if op = 1 then s.runRead q else if op = 2 then s.runWrite q else s.runInfo q

/-- A response (R422). (DEDUCED, assumption 59.) -/
def responseBytes (op : Nat) (q : DReq) (r : Ran) : List Byte :=
  List.flatten [bytesOf 1 (op % 128 + 128), [0], bytesOf 2 q.tag, bytesOf 2 q.index, bytesOf 1 q.sub, bytesOf 1 r.status,
    bytesOf 4 q.offset, bytesOf 2 r.data.length, [0, 0], bytesOf 4 (r.state.job.stepCounter % 2 ^ 32), bytesOf 4 r.total, r.data]

/-- A request from its bytes: its Op and the rest (R422). -/
def readRequest (p : DPath) (b : List Byte) : Nat × DReq :=
  let fl := fieldAt b 1 1
  let n := fieldAt b 12 2
  (fieldAt b 0 1,
   { path := p, tag := fieldAt b 2 2, index := fieldAt b 4 2, sub := fieldAt b 6 1, offset := fieldAt b 8 4, length := n
     last := bit fl 0, flagsBad := decide (1 < fl) || !zeroAt b 7 1 || !zeroAt b 14 2 || !zeroAt b 16 8
     data := (b.drop 24).take n })

/-- The T1's PCI vendor ID (R431). -/
def vendorId : Nat := Config.identity 0x1018 1 % 65536

/-- A dictionary message as MCTP carries it (R428): type 0x7E, the vendor ID with its high byte first (PRESUMED,
assumption 112), the byte 0x01, header and data. -/
def mctpBytes (b : List Byte) : List Byte := List.flatten [[0x7E], bytesOf 1 (vendorId / 256), bytesOf 1 vendorId, [1], b]

/-- A response leaves on its path: into the window's buffer, as a DICTIONARY message or along a route, or through the MCTP
port (R426 to R428). -/
def State.respond (s : State) (p : DPath) (b : List Byte) (route : Option (List Nat) := none) : State :=
  let out := match p with | .mctp _ => mctpBytes b | _ => b
  let s := { s with reply := b, mgmt := { s.mgmt with sent := s.mgmt.sent ++ [(pathNo p, out)] } }
  match p with
  | .window =>
    let s := { s with mgmt := { s.mgmt with respBuf := b } }
    (((s.fset .WIN_STATUS_DONE 1).fset .WIN_STATUS_BUSY 0).fset .WIN_STATUS_HELD 0).fcount .WIN_COUNT_REQUESTS 1
  | .fabric src => (match route with
    | some r => s.post 0xFFFF (.srouted 5 r b)
    | none => s.post src (.dict b))
  | .mctp _ => s

/-- What follows a response: MgmtRestart and ModuleReset (R435, R472). -/
def State.after (s : State) (op : Nat) (q : DReq) (status : Nat) : State :=
  if op ≠ 2 ∨ status ≠ dOk ∨ natOf q.data ≠ 1 then s
  else if q.index = 0x1500 ∧ q.sub = 2 then s.restartMgmt 2
  else if q.index = 0x1600 ∧ q.sub = 3 then s.moduleReset 2 else s

/-- The firmware runs one request in one act and answers it (R429). -/
def State.serve (s : State) (op : Nat) (q : DReq) (route : Option (List Nat) := none) : State :=
  let r := s.run op q
  (r.state.respond q.path (responseBytes op q r) route).after op q r.status

/-- A request of a path that is at its limit is answered with BUSY and does nothing (R427, R428). -/
def State.serveBusy (s : State) (op : Nat) (q : DReq) (route : Option (List Nat)) : State :=
  s.respond q.path (responseBytes op q { status := dBusy, state := s }) route

/-- A whole value written by one command on a path, as one request (R425, R484). A value that one message cannot carry
comes in segments; here it is written at its last. -/
def State.serveWhole (s : State) (q : DReq) : State :=
  match findEntry q.index q.sub with
  | none => s
  | some e =>
    let r := if s.mayWrite q.path e then s.writeFrom q.path e q.data else (dLocked, s)
    let ran : Ran := { status := r.1, total := if e.acc = .wo then e.typ.size else r.2.entrySize e, state := r.2 }
    (r.2.respond q.path (responseBytes 2 q ran)).after 2 q r.1

/-- Op of a command that is the write of one whole value: no message carries it. -/
def wholeOp : Nat := 256

/-- Run a request that has waited, or now. -/
def State.serveOne (s : State) (w : Waiting) : State :=
  if w.busy then s.serveBusy (if w.op = wholeOp then 2 else w.op) w.q w.route
  else if w.op = wholeOp then s.serveWhole w.q else s.serve w.op w.q w.route

/-- Requests of a source that wait (R427, R428). -/
def State.outstanding (s : State) (p : DPath) : Nat :=
  (s.mgmt.waiting.filter fun w => decide (w.q.path = p) && !w.busy).length

/-- A request reaches the firmware. While MCLK is stopped it waits (R458), a fifth of its source for BUSY (R427, R428); during a
restart the window holds its request and the other paths drop theirs (R426, R436). -/
def State.arrives (s : State) (w : Waiting) : State :=
  if s.serving then s.serveOne w
  else match w.q.path with
    | .window =>
      if s.fon .WIN_STATUS_BUSY then s.fset .WIN_STATUS_OVERRUN 1
      else
        { s.fset .WIN_STATUS_BUSY 1 with mgmt := { s.mgmt with heldReq := some w } }.fset .WIN_STATUS_HELD
          (b2n (!s.fon .WIN_STATUS_AVAILABLE))
    | p =>
      if !s.fon .WIN_STATUS_AVAILABLE then s else
      { s with mgmt := { s.mgmt with waiting := s.mgmt.waiting ++ [{ w with busy := decide (4 ≤ s.outstanding p) }] } }

/-- A request that came as a message. -/
def State.serveIf (s : State) (op : Nat) (q : DReq) : State := s.arrives { op := op, q := q }

/-- DICT_READ (R424). -/
def execDictRead (q : DReq) (s : State) : Out :=
  s.clocked (.dictRead q) <|
  .next (s.serveIf 1 q)

/-- DICT_WRITE (R425). -/
def execDictWrite (q : DReq) (s : State) : Out :=
  s.clocked (.dictWrite q) <|
  .next (s.serveIf 2 q)

/-- DICT_INFO (R423). -/
def execDictInfo (q : DReq) (s : State) : Out :=
  s.clocked (.dictInfo q) <|
  .next (s.serveIf 3 q)

/-- STAGING_SLOT_TIMEOUT (R425). -/
def execStagingSlotTimeout (slot : Nat) (s : State) : Out :=
  s.clocked (.stagingSlotTimeout slot) <|
  .next (s.discardStage slot)

/-! ### The management window (R426) -/

/-- The request in the request buffer. -/
def State.windowBytes (s : State) : List Byte :=
  let n := 24 + (s.mgmt.reqBuf.get 3 0).toNat % 65536
  ((List.range (ceilDiv (min n 32792) 4)).flatMap fun i => bytesOf 4 (s.mgmt.reqBuf.get i 0).toNat).take n

/-- The firmware runs the window's request. -/
def State.windowRun (s : State) : State :=
  match s.mgmt.heldReq with
  | some w => { s with mgmt := { s.mgmt with heldReq := none } }.serveOne w
  | none =>
    let (op, q) := readRequest .window s.windowBytes
    s.serve op q

/-- The firmware takes what has waited, in the order in which it came; the window's request last, since it came while every
path waited. (DEDUCED, assumption 59.) -/
def State.serveWaiting (s : State) : State :=
  let s := s.mgmt.waiting.foldl (fun s w => if s.serving then s.serveOne w else s) { s with mgmt := { s.mgmt with waiting := [] } }
  if s.serving && s.fon .WIN_STATUS_BUSY then s.windowRun else s

/-- GO (R426): ignored while BUSY, held while the firmware is away; while only MCLK is stopped it waits. -/
def State.winGo (s : State) : State :=
  if s.fon .WIN_STATUS_BUSY then s.fset .WIN_STATUS_OVERRUN 1
  else
    let s := s.fset .WIN_STATUS_BUSY 1
    if s.serving then s.windowRun else s.fset .WIN_STATUS_HELD (b2n (!s.fon .WIN_STATUS_AVAILABLE))

/-- WIN_GO (R426). -/
def execWinGo (s : State) : Out :=
  s.clocked .winGo <|
  .next (s.hostAccess State.winGo)

/-- A host write of a dword of the window: registers, then the request buffer; everything else is ignored. -/
def State.winWrite (s : State) (off v : Nat) : State :=
  if off = 0 then (if bit v 0 then s.winGo else s)
  else if 0x10000 ≤ off ∧ off < 0x10000 + 32792 then
    { s with mgmt := { s.mgmt with reqBuf := s.mgmt.reqBuf.put ((off - 0x10000) / 4) (word v) } }
  else s.regWrite .win 0 off v

/-- A host read of a dword of the window. -/
def State.winRead (s : State) (off : Nat) : Nat × State :=
  if 0x10000 ≤ off ∧ off < 0x10000 + 32792 then ((s.mgmt.reqBuf.get ((off - 0x10000) / 4) 0).toNat, s)
  else if 0x30000 ≤ off ∧ off < 0x30000 + 32792 then (fieldAt s.mgmt.respBuf (off - 0x30000) 4, s)
  else s.regRead .win 0 off

/-! ### MCTP (R428) -/

/-- MCTP_DICTIONARY_MESSAGE (R428): type 0x7E with the T1's vendor ID and the byte 0x01; any other is dropped. -/
def execMctpDictionaryMessage (eid type vendor mark : Nat) (msg : List Byte) (s : State) : Out :=
  .next <|
    if type ≠ 0x7E ∨ vendor ≠ vendorId ∨ mark ≠ 1 ∨ msg.length < 24 then s
    else let (op, q) := readRequest (.mctp eid) msg; s.serveIf op q

/-- DYNAMIC_ADDRESS_ASSIGNMENT (R428). -/
def execDynamicAddressAssignment (addr : Nat) (s : State) : Out :=
  .next (if 128 ≤ addr ∨ s.fget .PWR_STATUS_STATE = 0 then s else s.setDval 0x1400 2 addr)

/-- ENDPOINT_ID_ASSIGNMENT (R428). -/
def execEndpointIdAssignment (eid : Nat) (s : State) : Out :=
  .next (if 256 ≤ eid ∨ s.fget .PWR_STATUS_STATE = 0 then s else s.setDval 0x1400 1 eid)

/-! ### The firmware resumes (R426, R435 to R437, R479) -/

/-- The firmware that an image started serves again (R435, R470): its BOOT record, then the held request of the window. -/
def State.resumed (s : State) : State :=
  let s := { s with mgmt := { s.mgmt with restarting := false, replanDue := false } }
  ((s.fset .WIN_STATUS_AVAILABLE 1).bootRecord (0x10 + s.dval 0x1500 4 0)).readLink.serveWaiting

/-- MGMT_RESUME (R435): an image boots after a restart. -/
def execMgmtResume (s : State) : Out :=
  s.clocked .mgmtResume <|
  .next <| if !s.mgmt.restarting ∨ s.startup.recovery then s else
    match s.bootImage true with
    | none => s.noImage
    | some s => s.resumed

/-- PLL_RELOCK (R458). With MCLK the firmware runs on and takes the requests that waited, with PCLK the host
reference is present; events in flight arrive (R462). -/
def execPllRelock (p : Pll) (s : State) : Out :=
  .next <| if p ∉ s.startup.offPlls ∨ p ∈ s.startup.failedPlls then s else
    let s := s.relocked p
    let (es, s) := s.arrived p
    if p = 26 then (es.foldl State.fwIrq s).serveWaiting
    else if p = 25 then es.foldl State.raiseVector (s.fset .CLK_STATUS_HOST_REF 1)
    else s

/-! ### The margin re-plan (R124, R370, R437 to R440) -/

/-- MARGIN_REPLAN_PERIOD (R437): once the module is ready; during a restart it is due after resume. -/
def execMarginReplanPeriod (s : State) : Out :=
  s.clocked .marginReplanPeriod <|
  .next <| if s.startup.state ≠ 5 ∨ s.mgmt.replan.isSome then s
    else { s with mgmt := { s.mgmt with replan := some 0, replanDue := s.mgmt.restarting } }

/-- The worst retention rate of a die (R124). -/
def State.worstRate (s : State) (d : Nat) : Nat :=
  ((s.cores.filter fun x => x.1 / 1024 = d).flatMap fun x => x.2.arrays.map fun a => a.2.rate).foldl max 0

/-- New CreepScanPeriod (R124): 0.3 level ÷ the worst rate, in ms; a rate of 0 counts as no published rate and leaves the
period as it is (DESIGN CHOICE, assumption 101). -/
def creepPeriod (rate old : Nat) : Nat := if rate = 0 then old else max 10 (min 60000 (4423680000 / rate))

/-- New ArrayVerifyWindow (R124) from the rows written and the rows that needed a trim pulse. -/
def verifyWindow (w written trimmed : Nat) : Nat :=
  if 60 * written < 100 * trimmed then min 32 (w + 1)
  else if 100 * trimmed < 20 * written ∧ 26 < w then w - 1 else w

/-- Rows written since the last re-plan, and those that needed a trim pulse. -/
def State.rowShare (s : State) : Nat × Nat :=
  (s.cores.flatMap fun x => x.2.arrays.map fun a => (a.2.rowsWritten, a.2.rowsTrimmed)).foldl
    (fun t r => (t.1 + r.1, t.2 + r.2)) (0, 0)

/-- Cores with an array that entered FAILED at 4 of its last 16 writes (R370). -/
def State.worn (s : State) : List Nat :=
  (s.cores.filter fun x => x.2.arrays.any fun a => 4 ≤ (a.2.fails16.filter id).length).map Prod.fst

/-- A core that R370 names, below RetireMargin or worn: marked, or AGEING_NO_SPARE where its column has no free spare. -/
def State.ageMark (s : State) (c : Nat) : State :=
  if c ∈ s.phys.pendingCores then s
  else if s.spareFree (c / 32) then { s with phys := { s.phys with pendingCores := s.phys.pendingCores ++ [c] } }.syncRetire
  else
    let s := s.statusRecord .ageingNoSpare (s.locCore c 0x3F) (s.rword .recovery 0 0)
    { s with phys := { s.phys with guardband := s.phys.guardband ++ [c / 1024] } }

/-- An update engine below RetireMargin: marked, or AGEING_NO_SPARE without a spare engine (R370, R372).
(DEDUCED, assumption 69.) -/
def State.ageEngine (s : State) (e : Nat) : State :=
  if e ∈ s.phys.pendingEngines ∨ 33 ≤ e ∨ 2 ≤ s.fget .UPD_STATUS_STATE 0 e then s
  else if (List.range 33).any fun k => s.fget .UPD_STATUS_STATE 0 k = 2 then
    { s with phys := { s.phys with pendingEngines := s.phys.pendingEngines ++ [e] } }.syncRetire
  else { s.statusRecord .ageingNoSpare (locHub e) (s.rword .recovery 0 0) with
    phys := { s.phys with guardband := s.phys.guardband ++ [4] } }

/-- New guardband target of a die (R438): `worst` margin of its cores, AGEING_NO_SPARE raised for it. -/
def newGuard (old limit retire : Nat) (worst : Option Nat) (noSpare : Nat) : Nat :=
  let up := match worst with | some w => if w < 200 * retire then 5 else 0 | none => 0
  let down := match worst with | some w => if 400 * retire < w then 5 else 0 | none => 0
  min limit (old + up + 10 * noSpare - down)

/-- MARGIN_REPLAN_APPLY (R438 to R440): every new value in one act. (DEDUCED, assumption 69.) -/
def execMarginReplanApply (m : Margins) (s : State) : Out :=
  s.clocked (.marginReplanApply m) <|
  .next <| match s.mgmt.replan with
    | none => s
    | some trigger =>
      if s.mgmt.replanDue ∨ !s.serving then s else
      let retire := s.dval 0x5001 2 3
      let cs := m.cores.filter fun x => x.1 < 4096
      let marked := s.phys.pendingCores.length
      let spareless := s.faults.counts.get (Code.ageingNoSpare).number 0
      let s := s.putDom 0x5012 1 (marginTable cs)
      let low := (cs.filter fun (x : Nat × Nat) => x.2 < 100 * retire).map Prod.fst
      let s := (low ++ s.worn).eraseDups.foldl (fun (s : State) c => s.ageMark c) s
      let s := (m.engines.filter fun (x : Nat × Nat) => x.2 < 100 * retire).foldl (fun (s : State) (x : Nat × Nat) => s.ageEngine x.1) s
      let worst (d : Nat) : Option Nat := ((cs.filter fun (x : Nat × Nat) => x.1 / 1024 = d).map Prod.snd).min?
      let guardTo := (List.range 5).map fun d => newGuard ((s.mgmt.guardTo[d]?).getD 0) (s.dval 0x5011 2 60) retire
        (if d < 4 then worst d else none) ((s.phys.guardband.filter (· = d)).length)
      let s := { s with mgmt := { s.mgmt with guardTo := guardTo, replan := none }, phys := { s.phys with guardband := [] } }
      let s := if s.job.current.isSome then s else s.guardStep
      let rates := (List.range 4).map s.worstRate
      let period := creepPeriod (rates.foldl max 0) (s.dval 0x5202 1 200)
      let (written, trimmed) := s.rowShare
      let window := verifyWindow (s.dval 0x5201 1 29) written trimmed
      let s := (s.setDval 0x5202 1 period).setDval 0x5201 1 window
      let s := (List.range 4096).foldl (fun (s : State) c => s.fset .ARRAY_CTRL_VERIFY_WINDOW window c) s
      let s := { s with cores := s.cores.map fun (x : Nat × Core) => (x.1, { x.2 with
        arrays := x.2.arrays.map fun (a : Nat × Arr) => (a.1, { a.2 with rowsWritten := 0, rowsTrimmed := 0 })
        poss := (List.range 4).foldl (fun ps p => ps.modify p {} fun q => { q with biasDue := true }) x.2.poss }) }
      let mem := (List.range 16).map fun k => ((m.memErrors.find? fun (x : Nat × Nat) => x.1 = k).map Prod.snd).getD 0
      let s := s.putDom 0x5013 1 (mem.flatMap u32)
      let (i, s) := s.draw 1
      let report := padTo 64 0 (List.flatten [bytesOf 8 s.job.stepCounter, bytesOf 4 s.phys.powerOns,
        bytesOf 4 (Config.freeNat i), bytesOf 1 trigger, bytesOf 1 (s.phys.pendingCores.length - marked),
        bytesOf 2 (min 65535 (((cs.map Prod.snd).min?).getD 65535)), guardTo.flatMap fun g => bytesOf 2 g,
        bytesOf 1 (s.faults.counts.get (Code.ageingNoSpare).number 0 - spareless), bytesOf 1 window, bytesOf 4 period,
        rates.flatMap fun r => bytesOf 2 r, bytesOf 4 (min 0xFFFFFFFF (mem.foldl max 0))])
      ((s.putDom 0x5010 4 report).countD 0x5010 3 1).logWrite recMargin 0xFF 0 (locHub 0x3F) 0 0xFFFFFFFF
        ((report.drop 16).take 16)

/-! ### Commands that are writes of one entry -/

/-- A write of a whole value that arrives on a path. -/
def State.pathWrite (s : State) (p : DPath) (index sub : Nat) (v : List Byte) : State :=
  s.arrives { op := wholeOp, q := { path := p, index := index, sub := sub, length := v.length, data := v } }

/-- HOLD_REQUEST (R363). -/
def execHoldRequest (path : DPath) (v : Nat) (s : State) : Out :=
  s.clocked (.holdRequest path v) <|
  .next (s.pathWrite path 0x3200 2 (bytesOf 1 v))

/-- VOTE_RESOLVE 1, COMMIT (R364). -/
def execVoteResolveCommit (path : DPath) (s : State) : Out :=
  s.clocked (.voteResolveCommit path) <|
  .next (s.pathWrite path 0x3200 4 [1])

/-- VOTE_RESOLVE 2, REFUSE (R364). -/
def execVoteResolveRefuse (path : DPath) (s : State) : Out :=
  s.clocked (.voteResolveRefuse path) <|
  .next (s.pathWrite path 0x3200 4 [2])

/-- LedgerLoad 1, AS_IS (R248). -/
def execLedgerLoadAsIs (path : DPath) (s : State) : Out :=
  s.clocked (.ledgerLoadAsIs path) <|
  .next (s.pathWrite path 0x2300 3 [1])

/-- LedgerLoad 2, REBUILD_CELLS (R248). -/
def execLedgerLoadRebuildCells (path : DPath) (s : State) : Out :=
  s.clocked (.ledgerLoadRebuildCells path) <|
  .next (s.pathWrite path 0x2300 3 [2])

/-- LedgerLoad 3, FRESH (R248). -/
def execLedgerLoadFresh (path : DPath) (s : State) : Out :=
  s.clocked (.ledgerLoadFresh path) <|
  .next (s.pathWrite path 0x2300 3 [3])

/-- TIMETABLE_LOAD (R224). -/
def execTimetableLoad (path : DPath) (s : State) : Out :=
  s.clocked (.timetableLoad path) <|
  .next (s.pathWrite path 0x2200 2 [1])

/-- REDUCTION_LOAD (R294). -/
def execReductionLoad (path : DPath) (s : State) : Out :=
  s.clocked (.reductionLoad path) <|
  .next (s.pathWrite path 0x2400 2 [1])

/-- RING_LOAD (R330). -/
def execRingLoad (path : DPath) (s : State) : Out :=
  s.clocked (.ringLoad path) <|
  .next (s.pathWrite path 0x6005 2 [1])

/-- ITINERARY_LOAD (R333). -/
def execItineraryLoad (path : DPath) (s : State) : Out :=
  s.clocked (.itineraryLoad path) <|
  .next (s.pathWrite path 0x6007 2 [1])

/-- ROUTING_TABLE_WRITE (R322). -/
def execRoutingTableWrite (path : DPath) (data : List Byte) (s : State) : Out :=
  s.clocked (.routingTableWrite path data) <|
  .next (s.pathWrite path 0x6004 1 data)

/-- SCALE_HISTORY_RESET (R53). -/
def execScaleHistoryReset (path : DPath) (s : State) : Out :=
  s.clocked (.scaleHistoryReset path) <|
  .next (s.pathWrite path 0x4000 3 [1])

/-- EXCHANGE_HISTORY_RESET (R289). -/
def execExchangeHistoryReset (path : DPath) (s : State) : Out :=
  s.clocked (.exchangeHistoryReset path) <|
  .next (s.pathWrite path 0x4007 1 [1])

/-- FABRIC_ADDRESS_WRITE (R320). -/
def execFabricAddressWrite (path : DPath) (v : Nat) (s : State) : Out :=
  s.clocked (.fabricAddressWrite path v) <|
  .next (s.pathWrite path 0x6000 1 (bytesOf 2 v))

/-- FABRIC_PORT_ENABLE (R311, R349). -/
def execFabricPortEnable (path : DPath) (v : Nat) (s : State) : Out :=
  s.clocked (.fabricPortEnable path v) <|
  .next (s.pathWrite path 0x6001 2 (bytesOf 2 v))

/-- SPARE_REQUEST, assign (R313). -/
def execSpareRequestAssign (path : DPath) (port spare : Nat) (s : State) : Out :=
  s.clocked (.spareRequestAssign path port spare) <|
  .next (s.pathWrite path 0x6001 3 (bytesOf 1 (port % 16 + 16 * (spare % 2))))

/-- SPARE_REQUEST, release (R313). -/
def execSpareRequestRelease (path : DPath) (spare : Nat) (s : State) : Out :=
  s.clocked (.spareRequestRelease path spare) <|
  .next (s.pathWrite path 0x6001 3 (bytesOf 1 (128 + 16 * (spare % 2))))

/-- STORE_CONFIG (R433). -/
def execStoreConfig (path : DPath) (s : State) : Out :=
  s.clocked (.storeConfig path) <|
  .next (s.pathWrite path 0x1010 1 [1])

/-- RESTORE_DEFAULTS (R431). -/
def execRestoreDefaults (path : DPath) (s : State) : Out :=
  s.clocked (.restoreDefaults path) <|
  .next (s.pathWrite path 0x1011 1 [1])

/-- MGMT_RESTART (R435): after the response. -/
def execMgmtRestart (path : DPath) (s : State) : Out :=
  s.clocked (.mgmtRestart path) <|
  .next (s.pathWrite path 0x1500 2 [1])

/-- MARGIN_REPLAN_REQUEST (R437). -/
def execMarginReplanRequest (path : DPath) (s : State) : Out :=
  s.clocked (.marginReplanRequest path) <|
  .next (s.pathWrite path 0x5010 2 [1])

/-- MODULE_RESET (R463, R472): after the response. -/
def execModuleReset (path : DPath) (s : State) : Out :=
  s.clocked (.moduleReset path) <|
  .next (s.pathWrite path 0x1600 3 [1])

/-- FIRMWARE_UPDATE (R480). -/
def execFirmwareUpdate (path : DPath) (slot : Nat) (s : State) : Out :=
  s.clocked (.firmwareUpdate path slot) <|
  .next (s.pathWrite path 0x9001 4 (bytesOf 1 slot))

/-- FIRMWARE_ACTIVATE (R486). -/
def execFirmwareActivate (path : DPath) (slot : Nat) (s : State) : Out :=
  s.clocked (.firmwareActivate path slot) <|
  .next (s.pathWrite path 0x9001 5 (bytesOf 1 slot))

/-- ROLLBACK_COMMIT (R478). -/
def execRollbackCommit (path : DPath) (s : State) : Out :=
  s.clocked (.rollbackCommit path) <|
  .next (s.pathWrite path 0x9002 2 [1])

end Sys2Proof.Machine
end

