-- ==== Sys2Proof/Machine/FabricRx.lean ====
section
/-! DEFINITION. The receiving side of the fabric: codewords and frames, messages in order, delivery by class (R314 to R321,
R326, R327). -/

namespace Sys2Proof.Machine

/-! ### Frames of this module -/

/-- The attempt a frame names, its step number compared in 32 bits with the current one (R319). -/
def State.frameKey (s : State) (f : Frame) : Nat × Nat :=
  let d := (f.stepLow + 2 ^ 32 - s.job.curStep % 2 ^ 32) % 2 ^ 32
  (if d < 2 ^ 31 then s.job.curStep + d else s.job.curStep - (2 ^ 32 - d), f.attempt)

/-- Place of a message number relative to the next one to deliver: 32-bit order. -/
def behind (next seq : Nat) : Bool := 2 ^ 31 ≤ (seq + 2 ^ 32 - next) % 2 ^ 32

/-- The frame keeps R316 and R320: its check value and reserved bits hold, its class is one of R317, it did not end in
ABORT, its length agrees, and a module without an address takes only what it may. (DEDUCED, assumption 52.) -/
def State.frameGood (s : State) (f : Frame) : Bool :=
  f.checkOk && f.cls ≤ 8 && !f.aborted && f.payload.length = 32 * f.words &&
  (s.address ≠ 0xFFFF || f.cls ≤ 1 || (f.sroute && f.cls = 5))

/-- A frame that used an end-to-end credit of an open context frees it when it is discarded (R327). -/
def State.freeFrame (s : State) (f : Frame) : State :=
  match s.fab.ctxs.find? f.context with
  | some c => if c.peer = f.src && connClass f.cls && !f.sroute then s.freeCredits f.context f.cls 1 else s
  | none => s

/-- A message of a context being received, or a new one. -/
def Ctx.msg (c : Ctx) (cls seq : Nat) : RxMsg :=
  match c.rx.find? fun x => x.cls = cls && x.seq = seq with
  | some x => x
  | none => { cls := cls, seq := seq }

/-- Replace a message of a context. -/
def Ctx.setMsg (c : Ctx) (x : RxMsg) : Ctx := { c with rx := c.rx.filter (fun y => !(y.cls = x.cls && y.seq = x.seq)) ++ [x] }

/-- Place a frame of a connection in its message (R318, R319): one of an earlier attempt is discarded and its message is
passed over, one of a message already delivered is discarded. Frames of MESSAGE, CARAVAN and BUCKET land in the receive
pool (R327). -/
def State.placeFrame (s : State) (f : Frame) : State :=
  match s.fab.ctxs.find? f.context with
  | none => s
  | some c =>
    if c.peer ≠ f.src then s
    else
      let key := s.frameKey f
      let x := c.msg f.cls f.msgSeq
      let stale : Bool := boundClass f.cls && laterKey s.curKey key
      if behind (c.seqRx.get f.cls 0) f.msgSeq then (if stale then s.stale else s).freeFrame f
      else if stale then
        let y : RxMsg := { cls := f.cls, seq := f.msgSeq, skip := true }
        (s.setCtx f.context (c.setMsg y)).stale.freeCredits f.context f.cls (x.parts.length + 1)
      else if x.skip || (x.parts.find? f.frameIndex).isSome then s.freeFrame f
      else
        let s := s.setCtx f.context (c.setMsg { x with
          parts := x.parts.put f.frameIndex f.payload, last := if f.last then some f.frameIndex else x.last
          step := key.1, attempt := key.2 })
        if f.cls < 6 then s else s.toPool (s.dval 0x6008 1 0) (s.dval 0x6008 2 0) f.payload

/-- A DICTIONARY request that came by a source route is answered along the reply path (R321, R427). -/
def State.serveRouted (s : State) (src : Nat) (path : List Nat) (body : List Byte) : State :=
  let (op, q) := readRequest (.fabric src) body
  s.arrives { op := op, q := q, route := some path }

/-- A source-routed frame has reached this module by a lane (R321). -/
def State.takeRouted (s : State) (lane : Nat) (f : Frame) : State :=
  let body := f.payload.drop 67
  let reply := (List.range (fieldAt f.payload 34 1)).map fun i => fieldAt f.payload (35 + i) 1
  if f.cls = 1 then
    if fieldAt body 0 1 = 1 then s.answerIdentify lane reply else s.takeReply lane body
  else if f.cls = 5 then
    if fieldAt body 0 1 < 128 then s.serveRouted f.src (reply ++ [lane]).reverse body
    else { s with fab := { s.fab with replies := s.fab.replies ++ [(lane, body)] } }
  else s

/-- A CONNECT frame (R325, R327). -/
def State.takeConnect (s : State) (f : Frame) : State :=
  let (kind, ctx, credits) := Config.connectFields f.payload
  if kind = kOpen then s.connOpen f.src ctx
  else if kind = kOpenAck then s.connOpenAck f.src ctx credits
  else if kind = kRefused then s.connRefused f.src
  else if kind = kClose then s.connClose f.src
  else if kind = kCloseAck then s.connCloseAck f.src
  else if kind = kCredit then credits.foldl (fun s k => s.connCredit f.src k.1 k.2) s
  else s

/-- A frame for this module is checked and taken by its class (R316 to R321). (DEDUCED, assumption 52.) -/
def State.takeFrame (s : State) (lane : Nat) (f : Frame) : State :=
  if !s.frameGood f then (s.fcount .FABRIC_COUNT1_BAD_FRAMES 1).freeFrame f
  else if f.sroute then s.takeRouted lane f
  else if f.cls = 2 then s.takeConnect f
  else if connClass f.cls then s.placeFrame f
  else s

/-- A frame for this module has come by a lane: its transit buffer is free again (R326). -/
def State.receive (s : State) (lane : Nat) (f : Frame) : State :=
  if s.isMine f then (s.owe lane f.cls).takeFrame lane f else s

/-- FRAME_TRANSMIT (R317, R326): a port sends its next frame by priority, if it holds a link credit; with no frame to send,
a codeword of IDLE words. Frames that its table sends to the module itself are taken (R323). -/
def execFrameTransmit (port : Nat) (s : State) : Out :=
  s.clocked (.frameTransmit port) <|
  .next <|
    let (own, s) := s.pump.loopBack
    let s := (own.foldl (fun s f => s.takeFrame 14 f) s).dropRouteless
    if !s.portUp port then s else
    match s.nextFrame port with
    | some (c, .transit x) => s.sendTransit port c x
    | some (c, .own t) => (match t.frames with | f :: _ => s.sendOwn port c t f | [] => s)
    | none => s.putWords port []

/-- FRAME_RECEIVE (R316). -/
def execFrameReceive (lane : Nat) (f : Frame) (s : State) : Out :=
  s.clocked (.frameReceive lane f) <|
  .next (if s.laneUp lane then s.receive lane f else s)

/-! ### Codewords (R314, R315) -/

/-- A frame that has come in on a lane is taken or sent on. -/
def State.arriveFrame (s : State) (lane : Nat) (f : Frame) : State :=
  if s.isMine f then s.receive lane f else s.forward lane f

/-- The frame coming in by a lane ends; the lanes of a bonded pair bring one stream (R310). -/
def State.endFrame (s : State) (lane : Nat) (aborted : Bool) : State :=
  let x := s.lane (s.joined lane)
  let s := s.modLane (s.joined lane) fun x => { x with rx := [], started := false }
  if x.started then s.arriveFrame lane (readFrame x.rx aborted) else s

/-- One tagged word (R314): IDLE 0, START 1, CONT 2, ABORT 3. -/
def State.rxWord (s : State) (lane : Nat) (w : Nat × List Byte) : State :=
  if w.1 = 2 then s.modLane (s.joined lane) fun x => if x.started then { x with rx := x.rx ++ [w.2] } else x
  else
    let s := s.endFrame lane (w.1 = 3)
    if w.1 = 1 then s.modLane (s.joined lane) fun x => { x with rx := [w.2], started := true } else s

/-- An event of a lane crosses by X13 to where it is counted. Whether the one before it is still in flight is free: then it
is merged and not counted (R462). (DESIGN CHOICE, assumption 114.) -/
def State.laneEvent (s : State) (f : State → State) : State :=
  let (i, s) := s.draw 1
  if Config.analogFlag i then s.merge 3 1 else f s

/-- An uncorrectable codeword (R311, R315): the frame it cuts is dropped, or ended by ABORT where it had started onward,
which cut-through timing leaves open. More than 16 within 1 ms take the lane DOWN; the model keeps no time, so that past
16 the choice is free (DESIGN CHOICE, assumption 34). -/
def State.lostCodeword (s : State) (lane : Nat) : State :=
  let unc := (s.lane lane).unc + 1
  let x := s.lane (s.joined lane)
  let s := s.laneEvent fun s => (s.fcount .PORT_ERR_UNCORRECTED 1 0 lane).modLane lane fun x => { x with
    totals := (x.totals.1, satAdd 0xFFFFFFFF x.totals.2.1 1, x.totals.2.2) }
  let s := (s.modLane lane fun x => { x with unc := unc }).modLane (s.joined lane) fun x => { x with rx := [], started := false }
  let (i, s) := s.draw 2
  let f := readFrame x.rx true
  let s := if !x.started then s
    else if !s.isMine f && Config.freeNat i % 2 = 1 then s.forward lane f else s.owe lane f.cls
  if 16 < unc ∧ Config.freeNat (i + 1) % 2 = 1 then s.laneFails lane else s

/-- A codeword passes by a lane: its place in the alignment group and the scrambler move on (R314). -/
def State.rxAdvance (s : State) (lane : Nat) : State :=
  s.modLane lane fun x =>
    let pos := (x.rxPos + 1) % 1024
    { x with rxPos := pos, rxScr := if pos = 0 then scrSeed else (scrBits x.rxScr).2 }

/-- A codeword with corrected symbols counts in units of 1,024 (R348). -/
def State.countCorrected (s : State) (lane : Nat) : State := s.laneEvent fun s =>
  (s.modLane lane fun x => { x with
    corrRem := (x.corrRem + 1) % 1024, totals := (satAdd 0xFFFFFFFF x.totals.1 1, x.totals.2) }).fcount
      .PORT_ERR_CORRECTED (if (s.lane lane).corrRem + 1 = 1024 then 1 else 0) 0 lane

/-- The data of a codeword are taken: its link credits are added, its words come in order. -/
def State.takeLine (s : State) (lane : Nat) (d : LineData) : State :=
  let s := s.modLane (s.joined lane) fun x => { x with
    credits := d.credits.foldl (fun m c => m.put c.1 (m.get c.1 0 + c.2)) x.credits }
  d.words.foldl (fun s w => s.rxWord lane w) s

/-- CODEWORD_RECEIVE (R310, R314, R315, R326): decoded and corrected, descrambled, and taken. -/
def execCodewordReceive (lane : Nat) (cw : Codeword) (s : State) : Out :=
  s.clocked (.codewordReceive lane cw) <|
  .next <|
    let st := s.laneState lane
    if 12 ≤ lane ∨ (st ≠ 2 ∧ st ≠ 3 ∧ st ≠ 5) then s
    else
      let scr := (s.lane lane).rxScr
      let s := s.rxAdvance lane
      match rsDecode cw.symbols with
      | none => s.lostCodeword lane
      | some (data, n) => (if n = 0 then s else s.countCorrected lane).takeLine lane (lineDecode data scr)

/-! ### Messages (R318, R319) -/

/-- Every frame of the message has arrived. -/
def RxMsg.complete (x : RxMsg) : Bool :=
  match x.last with
  | some n => !x.skip && (List.range (n + 1)).all fun i => (x.parts.find? i).isSome
  | none => false

/-- Bytes of a complete message: frame i at 2,048i. -/
def RxMsg.bytes (x : RxMsg) : List Byte :=
  match x.last with
  | some n => (List.range n).flatMap (fun i => padTo 2048 0 (x.parts.get i [])) ++ x.parts.get n []
  | none => []

/-- A message of the class may be delivered now: one bound to an attempt waits for that attempt, MESSAGE data for a RECV or
room in the holding buffer (R219, R319, R327). -/
def State.mayDeliver (s : State) (peer : Nat) (x : RxMsg) : Bool :=
  x.complete && (!boundClass x.cls || (x.step, x.attempt) = s.curKey) &&
  (x.cls ≠ 6 || match readMessage x.bytes peer x.step x.attempt with
    | .data core m =>
      let k := s.core core
      m.isSignal || !s.hasPlan core || (k.recvFor s.isOwn m).isSome || k.held + m.size ≤ 65536
    | _ => true)

/-- A VOTE message from a module (R332). -/
def State.takeVote (s : State) (src : Nat) (b : List Byte) : State :=
  match readVote b with
  | some (0, v) => s.commitUp src v
  | some (1, v) => s.commitDown v
  | some (2, v) => s.normUp src v
  | some (_, v) => s.normDown v
  | none => s

/-- A MAILBOX message from a module (R344, R345): `box` is the sender's, `remote` this module's. -/
def State.takeMail (s : State) (src : Nat) (b : List Byte) : State :=
  match readMail b with
  | .mail box remote num bells words => s.mailIn src box remote num bells words
  | .taken box remote num =>
    if s.fget .FMB_CFG_REMOTE_ADDR 0 remote ≠ src ∨ s.fget .FMB_CFG_REMOTE_BOX 0 remote ≠ box then
      s.fcount .TRAVEL_COUNT_REJECTS 1
    else s.takenIn remote num
  | _ => s

/-- A DICTIONARY message from a module (R427): a request is answered, a reply handed to the firmware. -/
def State.takeDict (s : State) (src : Nat) (b : List Byte) : State :=
  if fieldAt b 0 1 < 128 then let (op, q) := readRequest (.fabric src) b; s.serveIf op q
  else { s with fab := { s.fab with replies := s.fab.replies ++ [(src, b)] } }

/-- Deliver a message by its class (R317), an item of FABRIC_RX (R386). A bucket or caravan whose kind or reserved fields are none of R295 and R335 is
discarded as one with a bad CheckValue is: FRAME_LOSS. (DEDUCED, assumption 52.) -/
def State.deliver (s : State) (src : Nat) (x : RxMsg) : State :=
  let b := x.bytes
  let s := s.snooped { source := 3, channel := x.cls, peer := src } 0 (some x.seq) b
  if x.cls = 3 then s.takeVote src b
  else if x.cls = 4 then s.takeMail src b
  else if x.cls = 5 then s.takeDict src b
  else if x.cls = 6 then s.takeHeldMsg (readMessage b src x.step x.attempt)
  else if x.cls = 7 then (match readCaravan b with
    | some m => if s.running then s.takeHeldMsg m else s
    | none => if s.running then s.raiseIn .frameLoss none else s)
  else match readBucket b with
    | some m => s.takeBucket (2 ≤ m.kind) (m.kind % 2 = 1) m
    | none => if s.running then s.raiseIn .frameLoss none else s

/-- Take a message out of its context: the next one is due and its buffers are free. -/
def State.passMsg (s : State) (n : Nat) (x : RxMsg) : State :=
  match s.fab.ctxs.find? n with
  | none => s
  | some c => (s.setCtx n { c with
      rx := c.rx.filter (fun y => !(y.cls = x.cls && y.seq = x.seq))
      seqRx := c.seqRx.put x.cls ((x.seq + 1) % 2 ^ 32) }).freeCredits n x.cls x.parts.length

/-- Pass over messages that are lost or of an earlier attempt (R319), then deliver the next if it may be. -/
def State.deliverNext (ctx cls : Nat) : Nat → State → State
  | 0, s => s
  | fuel + 1, s => match s.fab.ctxs.find? ctx with
    | none => s
    | some c =>
      let x := c.msg cls (c.seqRx.get cls 0)
      let stale : Bool := boundClass cls && x.parts ≠ [] && laterKey s.curKey (x.step, x.attempt)
      if x.skip then State.deliverNext ctx cls fuel (s.passMsg ctx x)
      else if stale then
        State.deliverNext ctx cls fuel ((s.fcount .FABRIC_COUNT1_STALE_MSGS x.parts.length).passMsg ctx x)
      else if s.mayDeliver c.peer x then (s.passMsg ctx x).deliver c.peer x
      else s

/-- MESSAGE_DELIVER (R318): the next message of a connection and class, in MsgSeq order. -/
def execMessageDeliver (ctx cls : Nat) (s : State) : Out :=
  s.clocked (.messageDeliver ctx cls) <|
  .next (if connClass cls then State.deliverNext ctx cls 4096 s else s)

/-- FRAME_LOSS (R318): the lowest incomplete message below a complete one is discarded and counted; in a class bound to an
attempt it raises FRAME_LOSS in that attempt. Of a message no frame of which has come, the attempt is that of the complete
one. (DEDUCED, assumption 53.) -/
def State.frameLost (s : State) (n cls : Nat) : State :=
  match s.fab.ctxs.find? n with
  | none => s
  | some c =>
    let next := c.seqRx.get cls 0
    let done := c.rx.filter fun x => x.cls = cls && x.complete
    let lower (x : RxMsg) (q : Nat) : Bool := !behind ((q + 1) % 2 ^ 32) x.seq
    match (List.range (c.rx.length + 1)).findSome? (fun i =>
      let q := (next + i) % 2 ^ 32
      let x := c.msg cls q
      if x.skip || x.complete then none
      else (done.find? fun y => lower y q).map fun y => (x, y)) with
    | none => s
    | some (x, y) =>
      let key := if x.parts = [] then (y.step, y.attempt) else (x.step, x.attempt)
      let s := (s.setCtx n (c.setMsg { cls := cls, seq := x.seq, skip := true })).freeCredits n cls x.parts.length
      let s := s.snooped { source := 3, channel := cls, peer := c.peer } 0 (some x.seq) [] true
      if !boundClass cls then s.countCode .frameLoss
      else if key = s.curKey then (if s.running then s.raiseIn .frameLoss none else s.countCode .frameLoss)
      else if laterKey key s.curKey then s.raiseAfter .frameLoss none
      else s.countCode .frameLoss

/-- FRAME_LOSS (R318). -/
def execFrameLoss (ctx cls : Nat) (s : State) : Out :=
  s.clocked (.frameLoss ctx cls) <|
  .next (if connClass cls then s.frameLost ctx cls else s)

end Sys2Proof.Machine
end

