-- ==== Sys2Proof/Machine/Pins.lean ====
section
/-! DEFINITION. The contacts of the connectors and the pins at rest (R488 to R493, R501). No command reads a pin: this is
what the state shows on them. -/

namespace Sys2Proof.Machine

/-- Connectors (R488). -/
inductive Connector where
  | h | fa | fb | pw | mg
  deriving DecidableEq, Repr

/-- A contact: connector, row B (else A), position. -/
structure Contact where
  conn : Connector
  rowB : Bool
  pos : Nat
  deriving DecidableEq, Repr

/-- Positive and negative contact of host lane `n`'s transmit and receive pair (R489). -/
def hostTx (n : Nat) : Contact × Contact := (⟨.h, false, 5 + 4 * n⟩, ⟨.h, false, 6 + 4 * n⟩)
def hostRx (n : Nat) : Contact × Contact := (⟨.h, true, 5 + 4 * n⟩, ⟨.h, true, 6 + 4 * n⟩)

/-- Connector of fabric lane `l` and its place there (R309, R490): P0 to P4 and SA (lane 10) on FA, P5 to P9 and SB (lane
11) on FB. -/
def laneConn (l : Nat) : Connector := if l < 5 ∨ l = 10 then .fa else .fb
def lanePlace (l : Nat) : Nat := if l < 10 then l % 5 else 5

/-- Contacts of a fabric lane's transmit and receive pair (R490). -/
def fabricTx (l : Nat) : Contact × Contact := (⟨laneConn l, false, 4 + 4 * lanePlace l⟩, ⟨laneConn l, false, 5 + 4 * lanePlace l⟩)
def fabricRx (l : Nat) : Contact × Contact := (⟨laneConn l, true, 4 + 4 * lanePlace l⟩, ⟨laneConn l, true, 5 + 4 * lanePlace l⟩)

/-- Contacts of the sideband signals (R489, R490, R492). -/
def sideband : List (String × Contact) :=
  [("REFCLK+", ⟨.h, false, 1⟩), ("REFCLK-", ⟨.h, false, 2⟩), ("PERST#", ⟨.h, false, 4⟩), ("PRSNT#", ⟨.h, true, 1⟩),
   ("FREF+", ⟨.fa, false, 1⟩), ("FREF-", ⟨.fa, false, 2⟩), ("LOG_SCL", ⟨.mg, false, 1⟩), ("LOG_SDA", ⟨.mg, false, 2⟩),
   ("MCTP_SCL", ⟨.mg, false, 4⟩), ("MCTP_SDA", ⟨.mg, false, 5⟩), ("MOD_RST#", ⟨.mg, true, 1⟩), ("MGMT_RST#", ⟨.mg, true, 2⟩),
   ("ALERT#", ⟨.mg, true, 3⟩), ("PRESENT", ⟨.mg, true, 4⟩)]

/-- Contacts that mate last and break first (R488). -/
def lastToMate : List Contact := [⟨.h, true, 1⟩, ⟨.mg, true, 4⟩]

/-- Groups of pins (R501). -/
inductive PinGroup where
  | hostTransmit | hostReceive | hostInputs | fabricTransmit | fabricRef | logI3c | mctpI3c | resetInputs | alert
  deriving DecidableEq, Repr

/-- What a group of pins shows (R501). -/
inductive PinState where
  | highImpedance | noTermination | electricalIdle | terminated | input | answers | released | asserted | inUse
  deriving DecidableEq, Repr

/-- A pin group unpowered (OFF), in PROTECT_OFF or while the rails come up, and in operation (R501). -/
def State.pin (s : State) (g : PinGroup) : PinState :=
  let p := s.fget .PWR_STATUS_STATE
  let off : Bool := p = 0
  let rest : Bool := p = 1 || p = 4
  match g with
  | .hostTransmit => if off then .highImpedance else if rest then .electricalIdle else .inUse
  | .hostReceive => if off then .noTermination else if p = 4 ∧ 3 ≤ s.fget .PWR_STATUS_CAUSE ∨ p = 1 then .noTermination else .terminated
  | .hostInputs | .fabricRef | .resetInputs => if off then .highImpedance else .input
  | .fabricTransmit => if off then .highImpedance else if rest then .electricalIdle else .inUse
  | .logI3c => if off then .highImpedance else .answers
  | .mctpI3c => if off then .highImpedance else if s.fon .WIN_STATUS_AVAILABLE then .answers else .released
  | .alert => if off then .highImpedance else if s.fon .PWR_STATUS_ALERT then .asserted else .released

end Sys2Proof.Machine
end

