-- ==== Sys2Proof/Machine/Startup.lean ====
section
/-! DEFINITION. Start-up: boot, configuration, self-test and discovery (R367 to R369, R434, R467 to R470, R479). -/

namespace Sys2Proof.Machine

/-! ### Stages (R468, R469) -/

/-- The rails of the start-up in progress are up or coming up. (DESIGN CHOICE, assumption 8.) -/
def State.starting (s : State) : Bool := let p := s.fget .PWR_STATUS_STATE; p ≠ 0 && p ≠ 4

/-- A stage has ended after `ms`: the next one begins, unless the stage passed its limit or 12 s have passed. -/
def State.stageEnd (s : State) (stage ms limit : Nat) (next : State → State) : State :=
  let total := s.startup.elapsed + ms
  let s := { s with startup := { s.startup with times := setAt s.startup.times stage ms, elapsed := total } }
  if limit < ms ∨ 12000 < total then s.startFailed (locHub 0x3F) [BitVec.ofNat 8 stage]
  else next { s with startup := { s.startup with state := stage + 1 } }

/-- STARTUP_TIMEOUT (R469): the stage in progress has passed its limit. A module that waits for a recovery image is not
counted (R479). -/
def execStartupTimeout (s : State) : Out :=
  .next <| if !s.starting ∨ 5 ≤ s.startup.state ∨ s.startup.recovery then s
    else s.startFailed (locHub 0x3F) [BitVec.ofNat 8 s.startup.state]

/-! ### BOOT (R456, R467, R479) -/

/-- Every rail is up, and every PLL has locked but PCLK's and those that do not come to lock (R459, R467, R471, R495). -/
def State.railsUp (s : State) : State :=
  let locked := ((List.range 27).filter fun p => p ≠ 25 ∧ p ∉ s.startup.offPlls).foldl (fun v p => v ||| 2 ^ p) 0
  let s := (s.powerState 2).setRword .clock 0 0 (s.rword .clock 0 0 ||| locked ||| s.startup.refs)
  { s with startup := { s.startup with refs := 0 } }

/-- The converters start (R446, R447, R450, R467): each begins its survey and is asked for a calibration; a die that has no
temperature result is outside 25 to 85 °C. -/
def State.startConverters (s : State) : State :=
  (List.range 5).foldl (fun s h => ((s.selfcalRequest h).beginRound h).syncOob h) s

/-- The POWER stage: its time is free within its limit; a module reset does not run it (R463, R467).
(DESIGN CHOICE, assumption 48.) (DESIGN CHOICE, assumption 58.) -/
def State.powerStage (s : State) : State :=
  if s.startup.state ≠ 0 then s.railsUp
  else
    let (i, s) := s.draw 1
    s.railsUp.startConverters.stageEnd 0 (Config.freeNat i % 26) 25 id

/-- BOOT_COMPLETE (R468, R479): `ms` after the POWER stage the security block has verified and started an image, or found
none. (DESIGN CHOICE, assumption 8.) (DESIGN CHOICE, assumption 58.) -/
def execBootComplete (ms : Nat) (s : State) : Out :=
  s.clocked (.bootComplete ms) <|
  .next <| if !s.starting ∨ 1 < s.startup.state ∨ s.startup.recovery then s else
    let s := s.powerStage
    match s.bootImage false with
    | none => s.noImage
    | some s => s.stageEnd 1 ms 1500 id

/-- RECOVERY_AREA_POLL (R479): an image in the recovery area that verifies goes to slot 0, which is activated and
started; start-up, or the restart in progress, goes on. -/
def execRecoveryAreaPoll (s : State) : Out :=
  s.clocked .recoveryAreaPoll <|
  .next <|
    let m := s.imageAt 0
    if !s.startup.recovery ∨ !s.verifies m then s else
      let s := s.setSlot 0 (some m)
      let s := { s with secure := { s.secure with active := 0 } }.startImage m 2 false
      if s.startup.state = 1 then { s with startup := { s.startup with state := 2 } } else s.resumed

/-! ### CONFIG (R432 to R434, R470) -/

/-- The copy that wins (R434): its number 1 or 2 (ConfigSource) and its bytes. -/
def State.winner (s : State) : Option (Nat × List Byte) :=
  let a := (s.mgmt.copies.get 0 [])
  let b := (s.mgmt.copies.get 1 [])
  match s.copySeq 0, s.copySeq 1 with
  | none, none => none
  | some _, none => some (1, a)
  | none, some _ => some (2, b)
  | some x, some y => if serialHigher y x then some (2, b) else some (1, a)

/-- Apply one record (R434): skipped unless its entry exists, is RWS, has its type and takes the value. -/
def State.applyRecord (s : State) (index sub typ : Nat) (v : List Byte) : State :=
  let skip := s.setDval 0x1012 3 (satAdd 0xFFFF (s.dval 0x1012 3 0) 1)
  match findEntry index sub with
  | none => skip
  | some e =>
    if e.acc ≠ .rws ∨ e.typ.code ≠ typ then skip
    else match s.writeEntry e v with
      | (0, t) => t
      | _ => skip

/-- Apply `n` records, the first at byte `a` of a copy. -/
def State.applyRecords (b : List Byte) : Nat → Nat → State → State
  | 0, _, s => s
  | n + 1, a, s =>
    let len := fieldAt b (a + 4) 2
    State.applyRecords b n (a + 8 + 4 * ceilDiv len 4)
      (s.applyRecord (fieldAt b a 2) (fieldAt b (a + 2) 1) (fieldAt b (a + 3) 1) ((b.drop (a + 8)).take len))

/-- Load the stored configuration (R434). RWS entries stand at their defaults but for the converters' own, whose domain a
module reset leaves running (R463). -/
def State.loadConfig (s : State) : State :=
  let s := (storedEntries.filter fun e => 0x8000 ≤ e.index).foldl (fun s e => (s.writeValue e e.defaultBytes).2) s
  let s := ((s.setDval 0x1012 1 0).setDval 0x1012 2 0).setDval 0x1012 3 0
  match s.winner with
  | none => { s with mgmt := { s.mgmt with loaded := [] } }
  | some (k, b) =>
    let s := (s.setDval 0x1012 1 k).setDval 0x1012 2 (fieldAt b 8 4)
    State.applyRecords b (fieldAt b 12 4) 32 { s with mgmt := { s.mgmt with loaded := b } }

/-- CONFIG_COMPLETE (R434, R468, R470): the dictionary becomes available. -/
def execConfigComplete (ms : Nat) (s : State) : Out :=
  s.clocked (.configComplete ms) <|
  .next <| if !s.starting ∨ s.startup.state ≠ 2 then s else
    s.stageEnd 2 ms 200 fun s =>
      let s := s.loadConfig.fset .WIN_STATUS_AVAILABLE 1
      let s := (s.bootRecord (s.fget .RESET_CAUSE_LAST)).readLink
      if s.fon .WIN_STATUS_HELD then s.windowRun else s

/-! ### SELFTEST (R367 to R369) -/

/-- Entries of a list of bad parts that share all but the last number with `x`. -/
def sameUnit (l : List (Nat × Nat × Nat × Nat × Nat)) (x : Nat × Nat × Nat × Nat × Nat) : Nat :=
  (l.eraseDups.filter fun y => y.1 = x.1 && y.2.1 = x.2.1 && y.2.2.1 = x.2.2.1 && y.2.2.2.1 = x.2.2.2.1).length

/-- Cores that the array test fails, by die, column and physical row (R367): more than 4 bad columns in an array, or 2 bad
converters at a position. -/
def arrayFails (r : SelfTest) : List (Nat × Nat × Nat) :=
  ((r.badCols.filter fun x => 4 < sameUnit r.badCols x) ++ (r.badConvs.filter fun x => 2 ≤ sameUnit r.badConvs x)).map
    fun x => (x.1, x.2.1, x.2.2.1)

/-- Physical rows of a column that do not serve: failed now, or retired by ageing (R370). -/
def lostRows (r : SelfTest) (aged : List (Nat × Nat × Nat)) (col : Nat) : List Nat :=
  ((r.badCores.map fun x => (x.1, x.2.1, x.2.2.1)) ++ arrayFails r ++ aged).filterMap (fun x =>
    if 32 * x.1 + x.2.1 = col then some x.2.2 else none) |>.eraseDups

/-- Update engines that do not serve. -/
def lostEngines (r : SelfTest) (aged : List Nat) : List Nat := ((r.badEngines ++ aged).filter (· < 33)).eraseDups

/-- The module fails its self-test (R367, R368, R369). -/
def selfTestFails (r : SelfTest) (aged : List (Nat × Nat × Nat)) (agedEngines : List Nat) : Bool :=
  r.dieLinkFail || r.routerFail ≠ [] || r.hubFail || (List.range 128).any (fun c => 2 ≤ (lostRows r aged c).length)
  || decide (2 ≤ (lostEngines r agedEngines).length)
  || (List.range 16).any fun k => decide (3 ≤ (r.exclusions.filter fun x => x.1 = k).length)

/-- A column's or converter's measurement in the first pass is plausible (R112, R113). -/
def firstColOk (m : Meas) : Bool := colOk m 0 0 false 0
def firstConvOk (m : Meas) : Bool := trimOk m.gain m.offset 0 0 false && !m.flagged

/-- Failed test bits of a die, test k of R367 in bit k − 1; 4 is the hub die. -/
def selfTestBits (r : SelfTest) (aged : List (Nat × Nat × Nat)) (agedEngines : List Nat) (d : Nat) : Nat :=
  let on (k : Nat) (b : Bool) : Nat := if b then 2 ^ (k - 1) else 0
  let core (k : Nat) : Bool := r.badCores.any fun x => x.1 = d && x.2.2.2 = k
  let cols : Bool := r.badCols.any (fun x => x.1 = d) || r.badConvs.any fun x => x.1 = d
  let pass : Bool := r.trims.any (fun x => x.1 / 1024 = d && !firstColOk x.2.2.2)
    || r.convTrims.any fun x => x.1 / 1024 = d && !firstConvOk x.2.2.2
  if d = 4 then on 1 r.dieLinkFail + on 2 (r.hubFail || r.badEngines ≠ []) + on 6 (r.exclusions ≠ [])
    + on 7 (r.badInputs.any fun x => x.1 = 4) + on 8 (r.lanesFailed ≠ []) + on 9 (decide (2 ≤ (lostEngines r agedEngines).length))
  else on 2 (core 2 || r.routerFail.contains d) + on 3 (core 3) + on 4 (core 4 || cols) + on 5 pass
    + on 7 (r.badInputs.any fun x => x.1 = d) + on 9 ((List.range 32).any fun c => 2 ≤ (lostRows r aged (32 * d + c)).length)

/-- Spare rows, engines, exclusions and DRAM after the test (R14, R253, R369). (DEDUCED, assumption 71.) -/
def State.mapUnits (s : State) (r : SelfTest) : State :=
  let cols := (List.range 128).filterMap fun c => (lostRows r s.phys.aged c).head?.map fun row => (c, row)
  let lost := lostEngines r s.phys.agedEngines
  let s := { s with mem := [], memBad := [], phys := { s.phys with
    spareRow := cols, lostColumns := cols } }
  lost.foldl (fun s e => if e = 32 then s.fset .UPD_STATUS_STATE 3 0 32
    else (s.fset .UPD_STATUS_STATE 3 0 e).fset .UPD_STATUS_STATE 0 0 32) s

/-- In-force trims of a register equal their targets (R113). -/
def settleTrim (s : State) (now target : Fld) (c i j : Nat) : State := s.fset now (s.fget target c i j) c i j

/-- One more completed pass of every position (R97, R113, R125). Registers are put from the last core down. -/
def State.countPasses (s : State) : State :=
  let s := s.setDval 0x5203 2 ((s.dval 0x5203 2 0 + 16384) % 2 ^ 32)
  (List.range 4096).reverse.foldl (fun s c => (List.range 4).reverse.foldl (fun s p =>
    (s.fset .CAL_STATUS_PASS_COUNT ((s.fget .CAL_STATUS_PASS_COUNT c p + 1) % 65536) c p).modPos c p fun x =>
      { x with passed := true }) s) s

/-- The logical core at a physical row, none for the spare (R14). -/
def State.coreAt (s : State) (d col row : Nat) : Option Nat :=
  let sp := s.phys.spareRow.get (32 * d + col) 32
  if row = sp ∨ 32 < row ∨ 4 ≤ d ∨ 32 ≤ col then none else some (1024 * d + 32 * col + (if row < sp then row else row - 1))

/-- Converters whose four columns all failed the first pass in both banks (R122), by core, position and converter. -/
def deadConvs (fails : List (Nat × Nat × Nat)) : List (Nat × Nat × Nat) :=
  ((fails.map fun x => (x.1, x.2.1 % 4, x.2.2 / 4)).filter fun x => (List.range 4).all fun i =>
    fails.contains (x.1, x.2.1, 4 * x.2.2 + i) && fails.contains (x.1, x.2.1 + 4, 4 * x.2.2 + i)).eraseDups

/-- The arrays' tests and the first calibration pass (R112, R113, R121, R122), which takes no target while TEMP_OOB is set: a column or converter that fails is marked, a
spare converter takes over at once, a spare column at the bank's first write. (DEDUCED, assumption 71.) -/
def State.firstPass (s : State) (r : SelfTest) : State :=
  let s := r.badCols.foldl (fun s x =>
    let (d, col, row, a, j) := x
    match s.coreAt d col row with
    | some c => if a < 8 ∧ j < 260 then s.markColumn c a j else s
    | none => s) s
  let s := r.badConvs.foldl (fun s x =>
    let (d, col, row, p, k) := x
    match s.coreAt d col row with
    | some c => if p < 4 ∧ k < 65 then s.markConv c p k else s
    | none => s) s
  let s := r.convTrims.foldl (fun s x =>
    let (c, p, k, m) := x
    if !coreOk c ∨ 4 ≤ p ∨ 65 ≤ k ∨ s.dieOob c then s
    else if firstConvOk m then
      let s := s.convMeas c p k m
      settleTrim (settleTrim s .CONV_TRIM_GAIN_NOW .CONV_TRIM_GAIN_TARGET c p k) .CONV_TRIM_OFFSET_NOW .CONV_TRIM_OFFSET_TARGET c p k
    else (s.calReject c p).markConv c p k) s
  let s := r.trims.foldl (fun s x =>
    let (c, a, j, m) := x
    if !arrOk c a ∨ 260 ≤ j ∨ s.dieOob c then s
    else if firstColOk m then
      let s := s.colMeas c a 0 j m
      settleTrim (settleTrim s .COL_TRIM_GAIN_NOW .COL_TRIM_GAIN_TARGET c a j) .COL_TRIM_OFFSET_NOW .COL_TRIM_OFFSET_TARGET c a j
    else (s.calReject c (a % 4)).markColumn c a j) s
  let fails := (r.trims.filter fun x => arrOk x.1 x.2.1 && x.2.2.1 < 256 && !s.dieOob x.1 && !firstColOk x.2.2.2).map
    fun x => (x.1, x.2.1, x.2.2.1)
  let s := (deadConvs fails).foldl (fun s x => s.markConv x.1 x.2.1 x.2.2) s
  s.cores.keys.foldl (fun s c => (List.range 4).foldl (fun s p => s.spareConv c p) s) s.countPasses

/-- Spare inputs of the group of a converter input (R451). -/
def spareInputs (i : Nat) : List Nat :=
  if i < 16 then [56, 57] else if i < 28 then [58, 59] else if i < 40 then [60, 61] else if i < 48 then [62, 63] else []

/-- A spare input stands for input `i` already, or it has none left (R451). -/
def State.remapped (s : State) (h i : Nat) : Bool :=
  (s.hkOf h).failed.contains i || (List.range 8).any fun k =>
    s.fon .HK_SPARE_IN_USE h k && s.fget .HK_SPARE_STANDS_FOR h k = i

/-- An input that failed is remapped to the lowest free spare of its group, with a SPARE record, or FAILED (R451, R453). -/
def State.remapInput (s : State) (bad : List (Nat × Nat)) (h i : Nat) : State :=
  if 5 ≤ h ∨ 64 ≤ i ∨ s.remapped h i then s else
  match (spareInputs i).find? fun sp => !bad.contains (h, sp) && !s.fon .HK_SPARE_IN_USE h (sp - 56) with
  | some sp =>
    ((s.fset .HK_SPARE_STANDS_FOR i h (sp - 56)).fset .HK_SPARE_IN_USE 1 h (sp - 56)).logWrite recSpare 0xFF 0
      (0xFFF + h * 2 ^ 12 + 0x3F * 2 ^ 26) (s.rword .hk h 4) 0xFFFFFFFF (bytesOf 4 i ++ bytesOf 4 sp)
  | none => s.modHk h fun k => { k with failed := i :: k.failed }

/-- The converters' test (R451): remaps hold until the next power-up, so a start-up after a module reset adds to them. -/
def State.testInputs (s : State) (r : SelfTest) : State :=
  r.badInputs.foldl (fun s x => s.remapInput r.badInputs x.1 x.2) s

/-- The lanes' training (R310 to R313): lanes that trained, lanes that failed, and the lowest failed port of each connector
that its spare may replace. -/
def State.testLanes (s : State) (r : SelfTest) : State :=
  let may (s : State) (l : Nat) : Bool := s.mayTrain l
  let s := (r.lanesUp.filter fun x => may s x.1).foldl (fun s x => (s.startTraining x.1).trained x.1 x.2) s
  let failed := r.lanesFailed.filter fun x => may s x.1
  let s := failed.foldl (fun s x =>
    let s := (((s.startTraining x.1).fcount .PORT_ERR_RETRAINS 2 0 x.1).modLane x.1 fun y => { y with
      fails := 3, far := x.2, totals := (y.totals.1, y.totals.2.1, satAdd 0xFFFFFFFF y.totals.2.2 2) }).setLane x.1 4
    s.statusRecord .laneFailed (locHub x.1) (s.rword .fabric 0 (0x10 + 4 * x.1))) s
  (List.range 2).foldl (fun s k =>
    match (List.range 10).find? fun p => failed.any (fun x => x.1 = p) && s.laneState (10 + k) = 5 && s.spareAllowed p k with
    | some p => s.assignSpare p k
    | none => s) s

/-- The results are published, with one SELFTEST record of each die (R367); the exclusions whatever the outcome (R369). -/
def State.publishTest (s : State) (r : SelfTest) : State :=
  let s := { s with phys := { s.phys with exclusions := r.exclusions.filter fun x => x.1 < 16 && x.2 < 64 } }
  (List.range 5).foldl (fun s d =>
    let b := selfTestBits r s.phys.aged s.phys.agedEngines d
    let s := { s with phys := { s.phys with testBits := s.phys.testBits.put d b } }
    s.logWrite recSelftest 0xFF 0 (0xFFF + d * 2 ^ 12 + 0x3F * 2 ^ 26) 0 0xFFFFFFFF (bytesOf 4 b)) s

/-- Each lane that is up sends IDENTIFY to its neighbour (R321, R468). -/
def State.sendIdentify (s : State) : State :=
  (List.range 12).foldl (fun s l => if s.laneUp l then s.post 0xFFFF (.srouted 1 [l] [1]) else s) s

/-- SELFTEST_COMPLETE (R367 to R369): the first margins are set (R437), and DISCOVERY begins with IDENTIFY on every lane that is up (R468). -/
def execSelftestComplete (ms : Nat) (r : SelfTest) (s : State) : Out :=
  s.clocked (.selftestComplete ms r) <|
  .next <| if !s.starting ∨ s.startup.state ≠ 3 then s else
    let s := s.publishTest r
    s.stageEnd 3 ms (if Config.small then 2310 else 3010) fun s =>
      if selfTestFails r s.phys.aged s.phys.agedEngines then s.startFailed (locHub 0x3F) [3]
      else (((((s.mapUnits r).firstPass r).putDom 0x5012 1 (marginTable r.margins)).testInputs r).testLanes r).sendIdentify

/-! ### DISCOVERY (R468) -/

/-- DISCOVERY_COMPLETE (R468): the module is READY. -/
def execDiscoveryComplete (ms : Nat) (s : State) : Out :=
  s.clocked (.discoveryComplete ms) <|
  .next <| if !s.starting ∨ s.startup.state ≠ 4 then s else
    s.stageEnd 4 ms 500 fun s => (s.fset .HOST_STATUS_READY 1).hostEvent .HOST_EVENT_READY

end Sys2Proof.Machine
end

