-- ==== Sys2Proof/Machine/Registers.lean ====
section
/-! DEFINITION. Accesses of registers (R11 to R13, R101, R388, R394, R404, R414 to R416, R426, R453). A register whose
access has a command of its own takes the same meaning here. -/

namespace Sys2Proof.Machine

/-- Instances of a section: logical cores, check units, converters, mailboxes, DMA channels, or one. -/
def instances : Sec → Nat
  | .array => 4096
  | .engine => 4096
  | .vector => 4096
  | .seq => 4096
  | .watch => 4096
  | .gu => 16
  | .hk => 5
  | .mbHost => 8
  | .mbFw => 8
  | .dma => 16
  | _ => 1

/-- The host reaches the section, through BAR0 (R394); the management firmware reaches the others. (DEDUCED, assumption 72.) -/
def hostSec : Sec → Bool
  | .host => true
  | .mbHost => true
  | .dma => true
  | .win => true
  | _ => false

/-- An access of a section by whoever reaches it. (DEDUCED, assumption 72.) -/
def State.regAccess (s : State) (sec : Sec) (f : State → State) : State := if hostSec sec then s.hostAccess f else f s

/-- Answer a read. -/
def State.replyWord (r : Nat × State) : State := { r.2 with reply := bytesOf 4 r.1 }

/-- A pending dword of the MSI-X pending-bit array. -/
def State.pbaWord (s : State) (i : Nat) : Nat :=
  ((List.range 32).filter fun b => s.host.pba.contains (32 * i + b)).foldl (fun a b => a + 2 ^ b) 0

/-- A host read of BAR0 beyond the control registers: result pages, MSI-X table and pending bits; else a register. -/
def State.hostRead (s : State) (off : Nat) : Nat × State :=
  if 0x4000 ≤ off ∧ off < 0x8000 then (fieldAt (s.host.pages.get ((off - 0x4000) / 4096) []) (off % 4096) 4, s)
  else if 0x20000 ≤ off ∧ off < 0x20200 then
    let i := (off - 0x20000) / 4
    ((s.host.msix.get i (if i % 4 = 3 then 1 else 0)).toNat, s)
  else if 0x20800 ≤ off ∧ off < 0x20808 then (s.pbaWord ((off - 0x20800) / 4), s)
  else s.regRead .host 0 off

/-- A host write of BAR0: the doorbell, events and their mask, the MSI-X table; result pages ignore it (R404). Unmasking a
pending vector sends it (PCI Express; PRESUMED, assumption 6). -/
def State.hostWrite (s : State) (off v : Nat) : State :=
  if off = 4 then s.ring (word v)
  else if 0x20000 ≤ off ∧ off < 0x20200 then
    let i := (off - 0x20000) / 4
    let s := { s with host := { s.host with msix := s.host.msix.put i (word v) } }
    if s.vectorMasked (i / 4) then s
    else { s with host := { s.host with pba := s.host.pba.filter (· ≠ i / 4) } }
  else s.withEvents fun s => s.regWrite .host 0 off v

/-- A read of a register: its value is the reply; RC fields clear (R11). -/
def State.readRegister (s : State) (sec : Sec) (inst off : Nat) : State :=
  match sec with
  | .array =>
    if off < 0x20 ∧ off % 4 = 0 then
      State.replyWord (setBits (s.regRead .array inst off).1 5 1 (b2n (s.dieOob inst)), s)
    else State.replyWord (s.regRead .array inst off)
  | .gu => if off = 0x58 then s.guReadLo inst else if off = 0x5C then s.guReadHi inst else State.replyWord (s.regRead .gu inst off)
  | .hk =>
    if 0x100 ≤ off ∧ off < 0x300 ∧ off % 4 = 0 then
      (if off % 8 = 0 then s.hkRead inst ((off - 0x100) / 8) else s.hkReadInfo inst ((off - 0x104) / 8))
    else State.replyWord (s.regRead .hk inst off)
  | .fabric =>
    if 0x100 ≤ off ∧ off < 0x300 ∧ off % 0x20 = 0x10 then s.fmbPop ((off - 0x100) / 0x20)
    else State.replyWord (s.regRead .fabric inst off)
  | .mbHost => if off = 0x10 then s.mbPop false inst else State.replyWord (s.regRead .mbHost inst off)
  | .mbFw => if off = 0x10 then s.mbPop true inst else State.replyWord (s.regRead .mbFw inst off)
  | .host => State.replyWord (s.hostRead off)
  | .win => State.replyWord (s.winRead off)
  | _ => State.replyWord (s.regRead sec inst off)

/-- An access that BAR0 does not take completes as an Unsupported Request: no data is returned (R394). -/
def State.turnedAway (s : State) : State := { s with unsupported := true, reply := [] }

/-- READ_CLEAR_REGISTER (R11); the host's is aligned (R394). -/
def execReadClearRegister (sec : Sec) (inst offset : Nat) (s : State) : Out :=
  s.clocked (.readClearRegister sec inst offset) <|
  .next (if inst < instances sec then s.regAccess sec fun s =>
    if hostSec sec ∧ offset % 4 ≠ 0 then s.turnedAway else s.readRegister sec inst offset else s)

/-- A write of a register of one side of a host mailbox (R415). -/
def State.mbWrite (s : State) (fw : Bool) (m off v : Nat) : State :=
  match off with
  | 0 => s.mbCfg fw m v
  | 4 => s.mbPush fw m (word v)
  | 8 => s.mbBell fw m (word v)
  | 0x24 => if v = 1 then s.mbAck fw m else s
  | 0xC =>
    let s := s.regWrite (if fw then .mbFw else .mbHost) m 0xC v
    if bit v 8 then s.mbAbort fw m else s
  | _ => s.withMb fw m fun s => s.regWrite (if fw then .mbFw else .mbHost) m off v

/-- A write of a register of a fabric mailbox (R348). -/
def State.fmbWrite (s : State) (m off v : Nat) : State :=
  match off % 0x20 with
  | 4 => s.fmbPush m (word v)
  | 8 => s.fmbBell m (word v)
  | 0xC =>
    let s := s.regWrite .fabric 0 off v
    if bit v 8 then s.fmbAbort m else s
  | _ => s.regWrite .fabric 0 off v

/-- A write of a core's array section: one that leaves CAL_EN at 0 ends its calibration passes (R110). -/
def State.arrayWrite (s : State) (c off v : Nat) : State :=
  let s := s.regWrite .array c off v
  if off = Fld.addr .ARRAY_CTRL_CAL_EN 0 0 ∧ !s.fon .ARRAY_CTRL_CAL_EN c then s.stopPasses c else s

/-- A write of a register (R11, R12). -/
def State.writeRegister (s : State) (sec : Sec) (inst off v : Nat) : State :=
  match sec with
  | .array => s.arrayWrite inst off v
  | .gu => s.guWrite inst off v
  | .hk => s.hkSet inst off v
  | .fabric => if 0x100 ≤ off ∧ off < 0x300 then s.fmbWrite ((off - 0x100) / 0x20) off v else s.regWrite .fabric inst off v
  | .mbHost => s.mbWrite false inst off v
  | .mbFw => s.mbWrite true inst off v
  | .dma =>
    let s := s.regWrite .dma inst off v
    if off = 0x14 ∧ bit v 1 then s.dmaReset inst else s
  | .host => s.hostWrite off v
  | .win => s.winWrite off v
  | _ => s.regWrite sec inst off v

/-- REGISTER_WRITE (R11); the host's is aligned (R394). -/
def execRegisterWrite (sec : Sec) (inst offset : Nat) (v : Word) (s : State) : Out :=
  s.clocked (.registerWrite sec inst offset v) <|
  .next (if inst < instances sec then s.regAccess sec fun s =>
    if hostSec sec ∧ offset % 4 ≠ 0 then s.turnedAway else s.writeRegister sec inst offset v.toNat else s)

/-! ### BAR0 (R394) -/

/-- BAR0 takes the access (R394): aligned 32-bit accesses, aligned 64-bit reads of result pages, and aligned 64-bit accesses
of the management window. -/
def bar0Takes (offset size : Nat) (write : Bool) : Bool :=
  offset % size = 0 && (size = 4 || (size = 8 &&
    ((!write && 0x4000 ≤ offset && offset < 0x8000) || (0x800000 ≤ offset && offset < 0x1000000))))

/-- Section, instance and offset of a BAR0 offset (R394); a reserved range lies in none. -/
def bar0Sec (o : Nat) : Option (Sec × Nat × Nat) :=
  if o < 0x1000 then some (.host, 0, o)
  else if o < 0x1800 then some (.mbHost, (o - 0x1000) / 0x100, (o - 0x1000) % 0x100)
  else if 0x4000 ≤ o ∧ o < 0x8000 then some (.host, 0, o)
  else if 0x10000 ≤ o ∧ o < 0x10400 then some (.dma, (o - 0x10000) / 0x40, (o - 0x10000) % 0x40)
  else if 0x20000 ≤ o ∧ o < 0x21000 then some (.host, 0, o)
  else if 0x800000 ≤ o ∧ o < 0x1000000 then some (.win, 0, o - 0x800000)
  else none

/-- A read of one dword of BAR0: reserved ranges read as zero. -/
def State.bar0Read (s : State) (o : Nat) : State :=
  match bar0Sec o with
  | some (sec, inst, off) => s.readRegister sec inst off
  | none => { s with reply := bytesOf 4 0 }

/-- A write of one dword of BAR0: reserved ranges ignore it. -/
def State.bar0Write (s : State) (o v : Nat) : State :=
  match bar0Sec o with
  | some (sec, inst, off) => s.writeRegister sec inst off (v % 2 ^ 32)
  | none => s

/-- An access that BAR0 takes, the low dword of a 64-bit one first. (DEDUCED, assumption 111.) -/
def State.bar0Access (s : State) (o size : Nat) (write : Option Nat) : State :=
  match write with
  | some v => let s := s.bar0Write o v; if size = 8 then s.bar0Write (o + 4) (v / 2 ^ 32) else s
  | none =>
    let s := s.bar0Read o
    if size = 8 then
      let t := s.bar0Read (o + 4)
      { t with reply := s.reply ++ t.reply }
    else s

/-- BAR0_UNSUPPORTED (R394): a BAR0 access by its size and alignment; one that BAR0 does not take returns no data. -/
def execBar0Unsupported (offset size : Nat) (write : Option Nat) (s : State) : Out :=
  s.clocked (.bar0Unsupported offset size write) <|
  .next (s.hostAccess fun s =>
    if bar0Takes offset size write.isSome then s.bar0Access offset size write else s.turnedAway)

end Sys2Proof.Machine
end

