-- ==== Sys2Proof/Machine/Dispatch.lean ====
section
/-! DEFINITION. The dispatcher: one arm per command, each a direct call of its meaning. -/

namespace Sys2Proof.Machine

def exec (i : Instr) (s : State) : Host.Outcome State Fault Refusal :=
  match i with
  | .load core c f => Sys2Proof.Machine.execLoad core c f s
  | .store core c f => Sys2Proof.Machine.execStore core c f s
  | .stash core c f => Sys2Proof.Machine.execStash core c f s
  | .unstash core c f => Sys2Proof.Machine.execUnstash core c f s
  | .arrayMvm core c f => Sys2Proof.Machine.execArrayMvm core c f s
  | .arrayWriteFull core c f => Sys2Proof.Machine.execArrayWriteFull core c f s
  | .arrayWriteDelta core c f => Sys2Proof.Machine.execArrayWriteDelta core c f s
  | .matmul core c f => Sys2Proof.Machine.execMatmul core c f s
  | .fwadd core c f => Sys2Proof.Machine.execFwadd core c f s
  | .drainNarrow core c f => Sys2Proof.Machine.execDrainNarrow core c f s
  | .drainWide core c f => Sys2Proof.Machine.execDrainWide core c f s
  | .drainVector core c f => Sys2Proof.Machine.execDrainVector core c f s
  | .drainFull core c f => Sys2Proof.Machine.execDrainFull core c f s
  | .vstream core c f => Sys2Proof.Machine.execVstream core c f s
  | .send core c f => Sys2Proof.Machine.execSend core c f s
  | .recv core c f => Sys2Proof.Machine.execRecv core c f s
  | .route core c f => Sys2Proof.Machine.execRoute core c f s
  | .ret core c f => Sys2Proof.Machine.execRet core c f s
  | .waitToken core c f => Sys2Proof.Machine.execWaitToken core c f s
  | .signal core c f => Sys2Proof.Machine.execSignal core c f s
  | .fence core c units => Sys2Proof.Machine.execFence core c units s
  | .anchorSet core c f => Sys2Proof.Machine.execAnchorSet core c f s
  | .anchorScales core c f => Sys2Proof.Machine.execAnchorScales core c f s
  | .anchorDescs core c f => Sys2Proof.Machine.execAnchorDescs core c f s
  | .nop core c => Sys2Proof.Machine.execNop core c s
  | .commitPoint core c => Sys2Proof.Machine.execCommitPoint core c s
  | .entryComplete core unit pos ck => Sys2Proof.Machine.execEntryComplete core unit pos ck s
  | .tokenTimeout core => Sys2Proof.Machine.execTokenTimeout core s
  | .vMov core w => Sys2Proof.Machine.execVMov core w s
  | .vAdd core w => Sys2Proof.Machine.execVAdd core w s
  | .vSub core w => Sys2Proof.Machine.execVSub core w s
  | .vMul core w => Sys2Proof.Machine.execVMul core w s
  | .vFma core w => Sys2Proof.Machine.execVFma core w s
  | .vMax core w => Sys2Proof.Machine.execVMax core w s
  | .vMin core w => Sys2Proof.Machine.execVMin core w s
  | .vAbs core w => Sys2Proof.Machine.execVAbs core w s
  | .vNeg core w => Sys2Proof.Machine.execVNeg core w s
  | .vScale core w => Sys2Proof.Machine.execVScale core w s
  | .vFunc core w => Sys2Proof.Machine.execVFunc core w s
  | .vCmp core w => Sys2Proof.Machine.execVCmp core w s
  | .vSel core w => Sys2Proof.Machine.execVSel core w s
  | .vCvti core w => Sys2Proof.Machine.execVCvti core w s
  | .vCvtf core w => Sys2Proof.Machine.execVCvtf core w s
  | .vIadd core w => Sys2Proof.Machine.execVIadd core w s
  | .vIsub core w => Sys2Proof.Machine.execVIsub core w s
  | .vImul core w => Sys2Proof.Machine.execVImul core w s
  | .vAnd core w => Sys2Proof.Machine.execVAnd core w s
  | .vOr core w => Sys2Proof.Machine.execVOr core w s
  | .vXor core w => Sys2Proof.Machine.execVXor core w s
  | .vShl core w => Sys2Proof.Machine.execVShl core w s
  | .vShra core w => Sys2Proof.Machine.execVShra core w s
  | .vShrl core w => Sys2Proof.Machine.execVShrl core w s
  | .vImax core w => Sys2Proof.Machine.execVImax core w s
  | .vImin core w => Sys2Proof.Machine.execVImin core w s
  | .vIcmp core w => Sys2Proof.Machine.execVIcmp core w s
  | .vPerm core w => Sys2Proof.Machine.execVPerm core w s
  | .rsum core w => Sys2Proof.Machine.execRsum core w s
  | .rprod core w => Sys2Proof.Machine.execRprod core w s
  | .rmax core w => Sys2Proof.Machine.execRmax core w s
  | .rmin core w => Sys2Proof.Machine.execRmin core w s
  | .rargmax core w => Sys2Proof.Machine.execRargmax core w s
  | .rargmin core w => Sys2Proof.Machine.execRargmin core w s
  | .rand core w => Sys2Proof.Machine.execRand core w s
  | .ror core w => Sys2Proof.Machine.execRor core w s
  | .rxor core w => Sys2Proof.Machine.execRxor core w s
  | .risum core w => Sys2Proof.Machine.execRisum core w s
  | .rimax core w => Sys2Proof.Machine.execRimax core w s
  | .rimin core w => Sys2Proof.Machine.execRimin core w s
  | .mwadd core ch => Sys2Proof.Machine.execMwadd core ch s
  | .slotGrant core pos still => Sys2Proof.Machine.execSlotGrant core pos still s
  | .readoutConversion core pos reads => Sys2Proof.Machine.execReadoutConversion core pos reads s
  | .codeTermAdd core pos => Sys2Proof.Machine.execCodeTermAdd core pos s
  | .fixup core => Sys2Proof.Machine.execFixup core s
  | .watchRecompute core => Sys2Proof.Machine.execWatchRecompute core s
  | .bankLoadingStart core array => Sys2Proof.Machine.execBankLoadingStart core array s
  | .rowWrite core array pulses missed => Sys2Proof.Machine.execRowWrite core array pulses missed s
  | .arrayWriteEnd core array => Sys2Proof.Machine.execArrayWriteEnd core array s
  | .creepScanPass core array => Sys2Proof.Machine.execCreepScanPass core array s
  | .creepRowRead core array devs => Sys2Proof.Machine.execCreepRowRead core array devs s
  | .refreshPulse core array still => Sys2Proof.Machine.execRefreshPulse core array still s
  | .calibrationPassStart core pos => Sys2Proof.Machine.execCalibrationPassStart core pos s
  | .retentionAgeTick core array => Sys2Proof.Machine.execRetentionAgeTick core array s
  | .calStarved core pos => Sys2Proof.Machine.execCalStarved core pos s
  | .calEnClear core => Sys2Proof.Machine.execCalEnClear core s
  | .trimBoundary => Sys2Proof.Machine.execTrimBoundary s
  | .doorbellStart => Sys2Proof.Machine.execDoorbellStart s
  | .exchangeStart xfer => Sys2Proof.Machine.execExchangeStart xfer s
  | .bucketPeakReduce m => Sys2Proof.Machine.execBucketPeakReduce m s
  | .bucketPeakFinal m => Sys2Proof.Machine.execBucketPeakFinal m s
  | .bucketReduce m => Sys2Proof.Machine.execBucketReduce m s
  | .bucketFinal m => Sys2Proof.Machine.execBucketFinal m s
  | .exchangeTimeout => Sys2Proof.Machine.execExchangeTimeout s
  | .updateProgramRun eng residue xfer => Sys2Proof.Machine.execUpdateProgramRun eng residue xfer s
  | .noneGroupCopy eng xfer => Sys2Proof.Machine.execNoneGroupCopy eng xfer s
  | .holdAreaWrite eng xfer => Sys2Proof.Machine.execHoldAreaWrite eng xfer s
  | .ldg eng f => Sys2Proof.Machine.execLdg eng f s
  | .ldw eng f => Sys2Proof.Machine.execLdw eng f s
  | .ldm eng f => Sys2Proof.Machine.execLdm eng f s
  | .updAdd eng f => Sys2Proof.Machine.execUpdAdd eng f s
  | .updSub eng f => Sys2Proof.Machine.execUpdSub eng f s
  | .updMul eng f => Sys2Proof.Machine.execUpdMul eng f s
  | .updFma eng f => Sys2Proof.Machine.execUpdFma eng f s
  | .updFunc eng f => Sys2Proof.Machine.execUpdFunc eng f s
  | .updMax eng f => Sys2Proof.Machine.execUpdMax eng f s
  | .updMin eng f => Sys2Proof.Machine.execUpdMin eng f s
  | .stw eng f => Sys2Proof.Machine.execStw eng f s
  | .stm eng f => Sys2Proof.Machine.execStm eng f s
  | .sti eng f => Sys2Proof.Machine.execSti eng f s
  | .normTotalTimeout => Sys2Proof.Machine.execNormTotalTimeout s
  | .commitCheck => Sys2Proof.Machine.execCommitCheck s
  | .commitUp child v => Sys2Proof.Machine.execCommitUp child v s
  | .commitDown v => Sys2Proof.Machine.execCommitDown v s
  | .normUp child v => Sys2Proof.Machine.execNormUp child v s
  | .normDown v => Sys2Proof.Machine.execNormDown v s
  | .phase7End => Sys2Proof.Machine.execPhase7End s
  | .voteLost => Sys2Proof.Machine.execVoteLost s
  | .retirementWritesEnd => Sys2Proof.Machine.execRetirementWritesEnd s
  | .holdRequest path v => Sys2Proof.Machine.execHoldRequest path v s
  | .voteResolveCommit path => Sys2Proof.Machine.execVoteResolveCommit path s
  | .voteResolveRefuse path => Sys2Proof.Machine.execVoteResolveRefuse path s
  | .stepDoorbell v => Sys2Proof.Machine.execStepDoorbell v s
  | .ledgerLoadAsIs path => Sys2Proof.Machine.execLedgerLoadAsIs path s
  | .ledgerLoadRebuildCells path => Sys2Proof.Machine.execLedgerLoadRebuildCells path s
  | .ledgerLoadFresh path => Sys2Proof.Machine.execLedgerLoadFresh path s
  | .ledgerLoadComplete => Sys2Proof.Machine.execLedgerLoadComplete s
  | .timetableLoad path => Sys2Proof.Machine.execTimetableLoad path s
  | .timetableLoadComplete => Sys2Proof.Machine.execTimetableLoadComplete s
  | .reductionLoad path => Sys2Proof.Machine.execReductionLoad path s
  | .ringLoad path => Sys2Proof.Machine.execRingLoad path s
  | .itineraryLoad path => Sys2Proof.Machine.execItineraryLoad path s
  | .routingTableWrite path data => Sys2Proof.Machine.execRoutingTableWrite path data s
  | .scaleHistoryReset path => Sys2Proof.Machine.execScaleHistoryReset path s
  | .exchangeHistoryReset path => Sys2Proof.Machine.execExchangeHistoryReset path s
  | .codewordReceive lane cw => Sys2Proof.Machine.execCodewordReceive lane cw s
  | .codewordLockLoss lane => Sys2Proof.Machine.execCodewordLockLoss lane s
  | .laneTrainingStart lane => Sys2Proof.Machine.execLaneTrainingStart lane s
  | .laneTrainingEnd lane far => Sys2Proof.Machine.execLaneTrainingEnd lane far s
  | .bondRetrain pair failed => Sys2Proof.Machine.execBondRetrain pair failed s
  | .fabricRefLoss => Sys2Proof.Machine.execFabricRefLoss s
  | .frameTransmit port => Sys2Proof.Machine.execFrameTransmit port s
  | .frameForward lane f => Sys2Proof.Machine.execFrameForward lane f s
  | .frameReceive lane f => Sys2Proof.Machine.execFrameReceive lane f s
  | .messageDeliver ctx cls => Sys2Proof.Machine.execMessageDeliver ctx cls s
  | .frameLoss ctx cls => Sys2Proof.Machine.execFrameLoss ctx cls s
  | .connOpen peer theirCtx => Sys2Proof.Machine.execConnOpen peer theirCtx s
  | .connOpenAck peer theirCtx credits => Sys2Proof.Machine.execConnOpenAck peer theirCtx credits s
  | .connRefused peer => Sys2Proof.Machine.execConnRefused peer s
  | .connClose peer => Sys2Proof.Machine.execConnClose peer s
  | .connCloseAck peer => Sys2Proof.Machine.execConnCloseAck peer s
  | .connCredit peer cls n => Sys2Proof.Machine.execConnCredit peer cls n s
  | .openRetryTimeout ctx => Sys2Proof.Machine.execOpenRetryTimeout ctx s
  | .contextIdleClose ctx => Sys2Proof.Machine.execContextIdleClose ctx s
  | .closingTimeout ctx => Sys2Proof.Machine.execClosingTimeout ctx s
  | .creditReturnTimer ctx cls => Sys2Proof.Machine.execCreditReturnTimer ctx cls s
  | .identify lane reply => Sys2Proof.Machine.execIdentify lane reply s
  | .identifyReply lane body => Sys2Proof.Machine.execIdentifyReply lane body s
  | .fabricAddressWrite path v => Sys2Proof.Machine.execFabricAddressWrite path v s
  | .fabricPortEnable path v => Sys2Proof.Machine.execFabricPortEnable path v s
  | .spareRequestAssign path port spare => Sys2Proof.Machine.execSpareRequestAssign path port spare s
  | .spareRequestRelease path spare => Sys2Proof.Machine.execSpareRequestRelease path spare s
  | .spareSubstitution => Sys2Proof.Machine.execSpareSubstitution s
  | .caravanOutbound c => Sys2Proof.Machine.execCaravanOutbound c s
  | .caravanReturn c => Sys2Proof.Machine.execCaravanReturn c s
  | .fmbTxData m w => Sys2Proof.Machine.execFmbTxData m w s
  | .fmbTxBell m bells => Sys2Proof.Machine.execFmbTxBell m bells s
  | .fmbRxData m => Sys2Proof.Machine.execFmbRxData m s
  | .fmbTxAbort m => Sys2Proof.Machine.execFmbTxAbort m s
  | .mailboxMessage src srcBox box num bells words => Sys2Proof.Machine.execMailboxMessage src srcBox box num bells words s
  | .mailboxTaken m num => Sys2Proof.Machine.execMailboxTaken m num s
  | .bar2Read offset len => Sys2Proof.Machine.execBar2Read offset len s
  | .bar2Write offset data => Sys2Proof.Machine.execBar2Write offset data s
  | .bar0Unsupported offset size write => Sys2Proof.Machine.execBar0Unsupported offset size write s
  | .dmaTail ch v => Sys2Proof.Machine.execDmaTail ch v s
  | .dmaDescriptorStart ch bytes => Sys2Proof.Machine.execDmaDescriptorStart ch bytes s
  | .dmaDescriptorComplete ch e hostData => Sys2Proof.Machine.execDmaDescriptorComplete ch e hostData s
  | .dmaReset ch => Sys2Proof.Machine.execDmaReset ch s
  | .mbTxData fw m w => Sys2Proof.Machine.execMbTxData fw m w s
  | .mbTxBell fw m bells => Sys2Proof.Machine.execMbTxBell fw m bells s
  | .mbRxHead fw m => Sys2Proof.Machine.execMbRxHead fw m s
  | .mbRxAck fw m => Sys2Proof.Machine.execMbRxAck fw m s
  | .mbTxAbort fw m => Sys2Proof.Machine.execMbTxAbort fw m s
  | .winGo => Sys2Proof.Machine.execWinGo s
  | .dictRead q => Sys2Proof.Machine.execDictRead q s
  | .dictWrite q => Sys2Proof.Machine.execDictWrite q s
  | .dictInfo q => Sys2Proof.Machine.execDictInfo q s
  | .stagingSlotTimeout slot => Sys2Proof.Machine.execStagingSlotTimeout slot s
  | .mctpDictionaryMessage eid type vendor mark msg => Sys2Proof.Machine.execMctpDictionaryMessage eid type vendor mark msg s
  | .logbookI3cRead slot => Sys2Proof.Machine.execLogbookI3cRead slot s
  | .storeConfig path => Sys2Proof.Machine.execStoreConfig path s
  | .storeComplete verified => Sys2Proof.Machine.execStoreComplete verified s
  | .restoreDefaults path => Sys2Proof.Machine.execRestoreDefaults path s
  | .mgmtRestart path => Sys2Proof.Machine.execMgmtRestart path s
  | .watchdogExpiry => Sys2Proof.Machine.execWatchdogExpiry s
  | .mgmtEccDouble => Sys2Proof.Machine.execMgmtEccDouble s
  | .firmwareFaultTrap => Sys2Proof.Machine.execFirmwareFaultTrap s
  | .mgmtResume => Sys2Proof.Machine.execMgmtResume s
  | .mgmtRstPin => Sys2Proof.Machine.execMgmtRstPin s
  | .marginReplanRequest path => Sys2Proof.Machine.execMarginReplanRequest path s
  | .marginReplanPeriod => Sys2Proof.Machine.execMarginReplanPeriod s
  | .marginReplanApply m => Sys2Proof.Machine.execMarginReplanApply m s
  | .surveyEntryEnd hk code => Sys2Proof.Machine.execSurveyEntryEnd hk code s
  | .regAlarm die => Sys2Proof.Machine.execRegAlarm die s
  | .thermal die => Sys2Proof.Machine.execThermal die s
  | .burstSw hk => Sys2Proof.Machine.execBurstSw hk s
  | .burstEntryEnd hk code => Sys2Proof.Machine.execBurstEntryEnd hk code s
  | .selfcalReq hk => Sys2Proof.Machine.execSelfcalReq hk s
  | .selfcalPeriod => Sys2Proof.Machine.execSelfcalPeriod s
  | .selfcalStart hk => Sys2Proof.Machine.execSelfcalStart hk s
  | .selfcalEnd hk offset gainPpm => Sys2Proof.Machine.execSelfcalEnd hk offset gainPpm s
  | .hkResultRead hk input => Sys2Proof.Machine.execHkResultRead hk input s
  | .guStart u ctrl => Sys2Proof.Machine.execGuStart u ctrl s
  | .guStop u => Sys2Proof.Machine.execGuStop u s
  | .guItemBegin u => Sys2Proof.Machine.execGuItemBegin u s
  | .guItemEnd u => Sys2Proof.Machine.execGuItemEnd u s
  | .guResultLo u => Sys2Proof.Machine.execGuResultLo u s
  | .readClearRegister sec inst offset => Sys2Proof.Machine.execReadClearRegister sec inst offset s
  | .registerWrite sec inst offset v => Sys2Proof.Machine.execRegisterWrite sec inst offset v s
  | .perstAssert => Sys2Proof.Machine.execPerstAssert s
  | .hotReset => Sys2Proof.Machine.execHotReset s
  | .functionLevelReset => Sys2Proof.Machine.execFunctionLevelReset s
  | .d3hotEntry => Sys2Proof.Machine.execD3hotEntry s
  | .linkDown => Sys2Proof.Machine.execLinkDown s
  | .linkUp width gen flit => Sys2Proof.Machine.execLinkUp width gen flit s
  | .ideIntegrityFailure stream => Sys2Proof.Machine.execIdeIntegrityFailure stream s
  | .ideKm session stream => Sys2Proof.Machine.execIdeKm session stream s
  | .modRstPin => Sys2Proof.Machine.execModRstPin s
  | .moduleReset path => Sys2Proof.Machine.execModuleReset path s
  | .powerInputInRange => Sys2Proof.Machine.execPowerInputInRange s
  | .undervoltage => Sys2Proof.Machine.execUndervoltage s
  | .overvoltage => Sys2Proof.Machine.execOvervoltage s
  | .criticalTemperature die => Sys2Proof.Machine.execCriticalTemperature die s
  | .railOutOfRegulation rail => Sys2Proof.Machine.execRailOutOfRegulation rail s
  | .powerLimitEvaluation watts => Sys2Proof.Machine.execPowerLimitEvaluation watts s
  | .thermalLevelTick die => Sys2Proof.Machine.execThermalLevelTick die s
  | .pllLockLoss p => Sys2Proof.Machine.execPllLockLoss p s
  | .pllRelock p => Sys2Proof.Machine.execPllRelock p s
  | .clockFail p => Sys2Proof.Machine.execClockFail p s
  | .bootComplete ms => Sys2Proof.Machine.execBootComplete ms s
  | .configComplete ms => Sys2Proof.Machine.execConfigComplete ms s
  | .selftestComplete ms r => Sys2Proof.Machine.execSelftestComplete ms r s
  | .discoveryComplete ms => Sys2Proof.Machine.execDiscoveryComplete ms s
  | .startupTimeout => Sys2Proof.Machine.execStartupTimeout s
  | .recoveryAreaPoll => Sys2Proof.Machine.execRecoveryAreaPoll s
  | .firmwareUpdate path slot => Sys2Proof.Machine.execFirmwareUpdate path slot s
  | .firmwareUpdateComplete flashOk => Sys2Proof.Machine.execFirmwareUpdateComplete flashOk s
  | .firmwareActivate path slot => Sys2Proof.Machine.execFirmwareActivate path slot s
  | .rollbackCommit path => Sys2Proof.Machine.execRollbackCommit path s
  | .getVersion t => Sys2Proof.Machine.execGetVersion t s
  | .getCapabilities t => Sys2Proof.Machine.execGetCapabilities t s
  | .negotiateAlgorithms t aead => Sys2Proof.Machine.execNegotiateAlgorithms t aead s
  | .getDigests t slot => Sys2Proof.Machine.execGetDigests t slot s
  | .getCertificate t slot offset length => Sys2Proof.Machine.execGetCertificate t slot offset length s
  | .challenge t slot nonce => Sys2Proof.Machine.execChallenge t slot nonce s
  | .getMeasurements t index nonce => Sys2Proof.Machine.execGetMeasurements t index nonce s
  | .keyExchange t reqSession => Sys2Proof.Machine.execKeyExchange t reqSession s
  | .finish t session => Sys2Proof.Machine.execFinish t session s
  | .heartbeat t session => Sys2Proof.Machine.execHeartbeat t session s
  | .keyUpdate t session => Sys2Proof.Machine.execKeyUpdate t session s
  | .endSession t session => Sys2Proof.Machine.execEndSession t session s
  | .earlyStopVote => Sys2Proof.Machine.execEarlyStopVote s
  | .powerLoss => Sys2Proof.Machine.execPowerLoss s
  | .fabricRefReturn => Sys2Proof.Machine.execFabricRefReturn s
  | .perstRelease => Sys2Proof.Machine.execPerstRelease s
  | .d0Entry => Sys2Proof.Machine.execD0Entry s
  | .thermalClear die => Sys2Proof.Machine.execThermalClear die s
  | .regAlarmClear die => Sys2Proof.Machine.execRegAlarmClear die s
  | .dynamicAddressAssignment addr => Sys2Proof.Machine.execDynamicAddressAssignment addr s
  | .endpointIdAssignment eid => Sys2Proof.Machine.execEndpointIdAssignment eid s

end Sys2Proof.Machine
end

