-- ==== Sys2Proof/Machine/Step.lean ====
section
/-! DEFINITION. One step of the block: the command at the front of the queue, or, on an empty queue, what waited for a
clock that runs again, or the next timetable entry of the lowest core that can issue one (DESIGN CHOICE, assumption 23). -/

namespace Sys2Proof.Machine

/-- A held command has been let through. -/
def letThrough : Out → Out
  | .next s => .next { s with startup := { s.startup with letting := false } }
  | o => o

/-- One step. (DESIGN CHOICE, assumption 76.) -/
def step (s : State) : Host.Outcome State Fault Refusal :=
  match s.pending with
  | c :: rest => exec c { s with pending := rest }
  | [] =>
    match s.released with
    | some (c, others) => letThrough (exec c { s with startup := { s.startup with held := others, letting := true } })
    | none =>
      match s.autonomous with
      | .idle => .next s
      | .bad core => .next ((s.fetched core).halt .badEntry core (s.fget .SEQ_ENTRY_NEXT core))
      | .run core i => exec i (s.fetched core)

/-- The state with the command that a table word spells at the front of its queue. No row of the table has bits, so no
word spells a command and the state stays as it is. -/
def State.withFetchWord (s : State) (nbits w : Nat) : State :=
  match decodeTableWord nbits w with
  | some c => { s with pending := c :: s.pending }
  | none => s

end Sys2Proof.Machine
end

