-- ==== Sys2Proof/Safety.lean ====
section
/-! DEFINITION. What a safe state and a safe run are: memories in canonical form, and steps that neither fault nor
refuse. -/

namespace Sys2Proof.Machine

/-- Every byte memory of the module is in canonical form: module memory, larders and scale stores. -/
def State.memOk (s : State) : Bool :=
  s.mem.wf && s.cores.all fun k => k.2.larder.wf && k.2.arrays.all fun a => a.2.scales.wf

/-- A run of `n` steps that meets no fault and no refusal. -/
def safeRun : Nat → State → Bool
  | 0, _ => true
  | n + 1, s => match step s with
    | .next t => safeRun n t
    | _ => false

end Sys2Proof.Machine
end

