-- ==== Sys2Proof/Certificates/Slice0/Obligations.lean ====
section
/-! DEFINITION. The statements for the provers: what the commands of the T1 and the module do, from the numbered rules of
the manual. `State.ready` and the frame predicates below are the terms they share. -/

namespace Sys2Proof.Machine

/-- Core `c` can issue entry `e` to its unit now: it runs a section, nothing holds it, the queue has room, and no field of
the entry is out of range (R198, R207). -/
def State.ready (s : State) (c : Nat) (m : Cmn) (e : Entry) : Prop :=
  coreOk c = true ∧ s.canIssue c = true ∧ (entryUnit e < 6 → ((s.core c).queue (entryUnit e)).length < 16) ∧
  e.okWith m = true ∧ s.listsOk c e = true

/-- The state as an issue leaves it before the entry's own effect: SEQ_ENTRY counts on. -/
def State.counted (s : State) (c : Nat) : State := s.fset .SEQ_ENTRY_NEXT (s.fget .SEQ_ENTRY_NEXT c + 1) c

/-- Core `c` runs its main section and nothing waits in its vector unit, so that nothing else follows an issue. -/
def State.calm (s : State) (c : Nat) : Prop := s.seqState c = 1 ∧ (s.core c).qVector = []

/-- The two states differ in registers only, and in none but the listed ones (section, instance, offset). -/
def regsBut (s t : State) (ks : List (Sec × Nat × Nat)) : Prop :=
  t = { s with regs := t.regs } ∧
  ∀ sec i o, (∀ k ∈ ks, regKey sec i o ≠ regKey k.1 k.2.1 k.2.2) → t.rword sec i o = s.rword sec i o

/-- A dictionary write by command `i` on path `p` is answered and may write: its clocks run, the firmware serves, and the
path's bit of PathWriteMask is set (R436, R458, R484). -/
def State.pathMay (s : State) (p : DPath) (i : Instr) : Prop :=
  s.crosses i = true ∧ s.serving = true ∧ bit (s.dval 0x9004 1 7) (match p with | .window => 0 | .fabric _ => 1 | .mctp _ => 2) = true

/-- The OK response, on its path, to a write of the bytes `v` to an entry whose size is `total` (R422). -/
def State.okReply (t : State) (p : DPath) (index sub : Nat) (v : List Byte) (total : Nat) : State :=
  let q : DReq := { path := p, index := index, sub := sub, length := v.length, data := v }
  t.respond p (responseBytes 2 q { status := 0, total := total, state := t })

/-- The host's BARs answer: the function is in D0 and the link stream, where it is set up, in the secure state (R393, R413). -/
def State.barOpen (s : State) : Prop := s.host.d3 = false ∧ linkStream ∉ s.host.insecure

/-- The response, on its path, to a write that is refused with a status other than OK (R422, R423). -/
def State.badReply (s : State) (p : DPath) (index sub : Nat) (v : List Byte) (total status : Nat) : State :=
  let q : DReq := { path := p, index := index, sub := sub, length := v.length, data := v }
  s.respond p (responseBytes 2 q { status := status, total := total, state := s })

/-- A field of the register at an offset that shares no bit with the register's other fields. -/
def fieldApart (sec : Sec) (off : Nat) (f : Fld) : Prop :=
  f ∈ fldsAt sec off ∧ f.lo + f.w ≤ 32 ∧ ∀ g ∈ fldsAt sec off, g = f ∨ g.lo + g.w ≤ f.lo ∨ f.lo + f.w ≤ g.lo

/-- Sections whose registers have no effect beyond their fields. -/
def plainSec : Sec → Bool
  | .engine => true | .vector => true | .seq => true | .watch => true | .update => true | .exch => true
  | .recovery => true | .clock => true | .power => true | _ => false

end Sys2Proof.Machine

open Sys2Proof Sys2Proof.Machine

/-! ### The queue, reset and the encodings -/

/-- A step with a command in front of the queue is that command's effect on the state with the queue's rest. -/
def Obligations.StepRunsFrontCommand : Prop :=
  ∀ (c : Instr) (rest : List Instr) (s : State),
    s.pending = c :: rest → step s = exec c { s with pending := rest }

/-- On an empty queue a command that waited for a clock which runs again goes first, as when it came, and no mark of its
waiting stays (R458, R460; the model's choice of when, log entries 23 and 67). Otherwise the block does what its
sequencers do next, or idles: the entry of the lowest core that can issue one, BAD_ENTRY for one that does not decode (R207),
nothing where no core can. An uncorrectable word in the entry raises its code as it is read (R353). -/
def Obligations.EmptyQueueLetsSequencersRun : Prop :=
  ∀ s : State, s.pending = [] →
    (∀ c others, s.released = some (c, others) →
      let u : State := { s with startup := { s.startup with held := others, letting := true } }
      ∃ t, exec c u = .next t ∧ step s = .next { t with startup := { t.startup with letting := false } }) ∧
    (s.released = none →
      ((∀ k ∈ s.cores.keys, s.nextEntry k = none) → step s = .next s) ∧
      (∀ c rest m e, s.cores.keys = c :: rest → s.nextEntry c = some (some (m, e)) →
        step s = exec (issueInstr c m e) (s.fetched c) ∧ (s.memBad = [] → s.fetched c = s)) ∧
      (∀ c rest, s.cores.keys = c :: rest → s.nextEntry c = some none →
        step s = .next ((s.fetched c).halt .badEntry c (s.fget .SEQ_ENTRY_NEXT c))))

/-- No command is refused and none faults, in any state: the spec gives every one of them its effect. -/
def Obligations.NoCommandIsRefused : Prop :=
  (∀ (c : Instr) (s : State), ∃ t, exec c s = .next t) ∧ ∀ s : State, ∃ t, step s = .next t

/-- Every well-formed timetable entry comes back from its 128 bits, with every operand (R206 to R220, R233, R235). -/
def Obligations.EntryDecodesFromItsBits : Prop :=
  ∀ (c : Cmn) (e : Entry), e.okWith c = true →
    encodeEntry c e < 2 ^ 128 ∧ decodeEntry (encodeEntry c e) = some (c, e)

/-- What the decoder accepts spells the 128 bits it came from, so that no two words stand for one entry; of an ANCHOR in
mode SET the unused ADDR1 and CNT1 may hold anything (R216). -/
def Obligations.DecodedEntriesSpellTheirBits : Prop :=
  ∀ (x : Nat) (c : Cmn) (e : Entry), x < 2 ^ 128 → decodeEntry x = some (c, e) → (∀ f, e ≠ .anchorSet f) →
    encodeEntry c e = x

/-- Words written out from the field tables of R206 to R220, and words that R207 calls BAD_ENTRY. -/
def Obligations.EntryWordsReadAsTheManualSays : Prop :=
  decodeEntry 0x3E = some (⟨0, false⟩, .nop) ∧
  decodeEntry (0x3E + 5 * 2 ^ 8 + 2 ^ 14) = some (⟨5, true⟩, .nop) ∧
  decodeEntry (0x38 + 7 * 2 ^ 16 + 300 * 2 ^ 22 + 2 ^ 38) = some (⟨0, false⟩, .waitToken ⟨7, 300, true⟩) ∧
  decodeEntry (0x01 + 0x1000 * 2 ^ 16 + 1 * 2 ^ 56 + 64 * 2 ^ 58 + 3 * 2 ^ 77 + 1 * 2 ^ 89 + 8 * 2 ^ 101)
    = some (⟨0, false⟩, .load ⟨⟨1, 0x1000⟩, 64, 3, 1, 8⟩) ∧
  decodeEntry (0x3B + 9 * 2 ^ 16 + 0xFFFE * 2 ^ 23) = some (⟨0, false⟩, .anchorSet ⟨9, 0xFFFE⟩) ∧
  decodeEntry (0x3A + 63 * 2 ^ 16) = some (⟨0, false⟩, .fence 63) ∧
  decodeEntry 0 = none ∧ decodeEntry (0x3E + 2 ^ 15) = none ∧ decodeEntry (0x3E + 2 ^ 100) = none ∧
  decodeEntry (0x3F + 2 ^ 14) = none ∧ decodeEntry (0x38 + 7 * 2 ^ 16) = none

/-- After a power-up reset the memories list nothing that reads as an unlisted address does, the queue is empty, and the
registers hold the values of their Reset columns (R10). -/
def Obligations.ResetLeavesTheStatedValues : Prop :=
  State.reset.memOk = true ∧ State.reset.pending = [] ∧
  ∀ c : Nat,
    State.reset.fget .SEQ_STATUS_STATE c = 0 ∧ State.reset.fget .SEQ_FAULT_ENTRY_ENTRY c = 0xFFFFFFFF ∧
    State.reset.fget .ARRAY_CTRL_CAL_EN c = 1 ∧ State.reset.fget .ARRAY_CTRL_REFRESH_EN c = 1 ∧
    State.reset.fget .ARRAY_CTRL_VERIFY_WINDOW c = 0x1D ∧ State.reset.fget .VSTAT_FIRST_NV_ENTRY c = 0xFFFF ∧
    State.reset.fget .COMMIT_STATUS_PHASE = 0 ∧ State.reset.fget .RECOVERY_STATUS_STATE = 0 ∧
    (∀ t, t < 64 → State.reset.fget .TOKEN_COUNT c t = 0) ∧
    (∀ t, t < 2 → State.reset.fget .GLACIER_STATUS_STATE c t = 0)

/-! ### Timetable entries (R197 to R220) -/

/-- What stops an issue: a core that may not issue stays as it is, a full queue counts ISSUE_STALL (R198), and a field out
of range raises BAD_ENTRY and halts the core (R207). Shown for LOAD, with every entry alike through `State.issue`. -/
def Obligations.IssueWaitsForRoomAndRefusesBadFields : Prop :=
  ∀ (s : State) (k u : Nat) (m : Cmn) (e : Entry) (go : Nat → State → State),
    (coreOk k = false ∨ s.canIssue k = false → s.issue k m e u go = s) ∧
    (coreOk k = true → s.canIssue k = true → u < 6 → 16 ≤ ((s.core k).queue u).length →
      s.issue k m e u go = s.fcount .SEQ_COUNT_ISSUE_STALL 1 k) ∧
    (coreOk k = true → s.canIssue k = true → (u < 6 → ((s.core k).queue u).length < 16) → e.okWith m = false →
      s.issue k m e u go = s.halt .badEntry k (s.fget .SEQ_ENTRY_NEXT k)) ∧
    (∀ f, exec (.load k m f) s = .next (s.issue k m (.load f) 0 fun no s =>
      match s.moveFault f with
      | some x => s.halt x k no
      | none => s.startNow k 0 { no := no, entry := .load f, c := m } fun s => s.loadLines k f))

/-- LOAD, STORE, MATMUL, FWADD, RECV and UNSTASH of a ready core: the entry count goes on, the entry stands in its unit's
queue as started, its effect happens, and the core goes on (R198, R209, R213, R215, R219, R230). A core that runs its main
section with an empty vector queue and no hold has nothing more to do then. -/
def Obligations.StartedEntriesTakeEffect : Prop :=
  ∀ (s : State) (k : Nat) (m : Cmn),
    let no := s.fget .SEQ_ENTRY_NEXT k
    let q (u : Nat) (e : Entry) (a : Int) : State :=
      (s.counted k).enqueue k u { no := no, entry := e, c := m, anchor := a, started := true }
    (∀ f, s.ready k m (.load f) → s.moveFault f = none →
      exec (.load k m f) s = .next (((q 0 (.load f) 0).loadLines k f).advance k)) ∧
    (∀ f, s.ready k m (.store f) → s.moveFault f = none → (∀ a ∈ s.moveLines f, s.inPages a (MoveBytes f) = false) →
      exec (.store k m f) s = .next (((q 0 (.store f) 0).storeLines k f).advance k)) ∧
    (∀ f, s.ready k m (.matmul f) →
      exec (.matmul k m f) s = .next
        (((q 3 (.matmul f) (s.fgetS .ANCHOR_VALUE k f.areg)).startMatmul k no f (s.fgetS .ANCHOR_VALUE k f.areg)).advance k)) ∧
    (∀ f, s.ready k m (.fwadd f) →
      exec (.fwadd k m f) s = .next (((q 3 (.fwadd f) 0).startFwadd k no f).advance k)) ∧
    (∀ f, s.ready k m (.recv f) →
      exec (.recv k m f) s = .next
        (((q 5 (.recv f) 0).takeHeld k { no := no, entry := .recv f, c := m } f).advance k)) ∧
    (∀ f r, s.ready k m (.unstash f) → (s.core k).stash.find? f.stashNo = some r → r.hasMap = false → r.map = [true] →
      f.larder % 32 = 0 → r.linew < 4096 → inLarder f.larder ((r.linew + 1) * 32 * (r.lines + 1)) = true →
      ∃ t, exec (.unstash k m f) s = .next t ∧
        t = ((((q 0 (.unstash f) 0).readMem r.addr ((r.linew + 1) * 32) (some k)).2.modCore k fun x =>
          { x with larder := x.larder.writeBytes f.larder (s.load r.addr ((r.linew + 1) * 32)) }).advance k)) ∧
    (s.calm k → (s.core k).hold = none → s.advance k = s)

/-- LOAD copies each of its lines from memory into the larder and changes no other larder byte, no memory and no other
core (R209); no word it reads is uncorrectable. -/
def Obligations.LoadCopiesItsLines : Prop :=
  ∀ (s : State) (k : Nat) (m : Cmn) (f : MoveF),
    s.ready k m (.load f) → s.calm k → s.moveFault f = none → s.memBad = [] →
    ∃ t, exec (.load k m f) s = .next t ∧
      (∀ i j, i ≤ f.lines → j < MoveBytes f →
        (t.core k).larder.read (f.larder + MoveBytes f * i + j) = s.mem.read (s.effAddr f.mem + i * (f.pitch * 32) + j)) ∧
      (∀ a, a < f.larder ∨ f.larder + MoveBytes f * (f.lines + 1) ≤ a →
        (t.core k).larder.read a = (s.core k).larder.read a) ∧
      t.mem = s.mem ∧ (∀ c, c ≠ k → t.core c = s.core c) ∧
      t.fget .SEQ_ENTRY_NEXT k = (s.fget .SEQ_ENTRY_NEXT k + 1) % 2 ^ 32 ∧
      (t.core k).qMover = (s.core k).qMover ++
        [{ no := s.fget .SEQ_ENTRY_NEXT k, entry := .load f, c := m, started := true }]

/-- STORE of one line writes the larder's bytes at the memory field's effective address and no other byte of memory; no
larder changes (R208, R209). -/
def Obligations.StoreWritesItsLine : Prop :=
  ∀ (s : State) (k : Nat) (m : Cmn) (f : MoveF),
    s.ready k m (.store f) → s.calm k → s.moveFault f = none → f.lines = 0 →
    s.inPages (s.effAddr f.mem) (MoveBytes f) = false → s.memBad = [] →
    ∃ t, exec (.store k m f) s = .next t ∧
      (∀ j, j < MoveBytes f → t.mem.read (s.effAddr f.mem + j) = (s.core k).larder.read (f.larder + j)) ∧
      (∀ a, a < s.effAddr f.mem ∨ s.effAddr f.mem + MoveBytes f ≤ a → t.mem.read a = s.mem.read a) ∧
      ∀ c, (t.core c).larder = (s.core c).larder

/-- R201: a WAIT_TOKEN holds issue until its counter is at least COUNT and then subtracts COUNT, unless KEEP is set; a
signal adds its count; a sum beyond 65,535 stays there, raises TOKEN_OVF and halts the core. -/
def Obligations.WaitTokenHoldsUntilItsCount : Prop :=
  ∀ (s : State) (k : Nat) (m : Cmn),
    (∀ f, s.ready k m (.waitToken f) → s.calm k → s.fget .TOKEN_COUNT k f.token < f.count →
      ∃ t, exec (.waitToken k m f) s = .next t ∧ (t.core k).hold = some (.wait f m) ∧ t.canIssue k = false ∧
        t.fget .SEQ_STATUS_WAITING k = 1 ∧ t.fget .SEQ_STATUS_WAIT_ON k = f.token ∧
        (∀ i, i < 64 → t.fget .TOKEN_COUNT k i = s.fget .TOKEN_COUNT k i) ∧ t.mem = s.mem) ∧
    (∀ f, s.ready k m (.waitToken f) → s.calm k → f.count ≤ s.fget .TOKEN_COUNT k f.token → m.csig = false →
      ∃ t, exec (.waitToken k m f) s = .next t ∧ (t.core k).hold = none ∧ t.fget .SEQ_STATUS_WAITING k = 0 ∧
        t.fget .TOKEN_COUNT k f.token =
          (if f.keep then s.fget .TOKEN_COUNT k f.token else s.fget .TOKEN_COUNT k f.token - f.count) ∧
        (∀ i, i < 64 → i ≠ f.token → t.fget .TOKEN_COUNT k i = s.fget .TOKEN_COUNT k i) ∧ t.mem = s.mem) ∧
    (∀ f, s.ready k m (.signal f) → s.calm k → f.self = true → (s.core k).unitsDone f.units = true → m.csig = false →
      s.fget .TOKEN_COUNT k f.token + f.count ≤ 65535 →
      ∃ t, exec (.signal k m f) s = .next t ∧ (t.core k).hold = none ∧
        t.fget .TOKEN_COUNT k f.token = s.fget .TOKEN_COUNT k f.token + f.count ∧
        (∀ i, i < 64 → i ≠ f.token → t.fget .TOKEN_COUNT k i = s.fget .TOKEN_COUNT k i) ∧ t.mem = s.mem) ∧
    (∀ f, s.ready k m (.signal f) → s.calm k → f.self = true → (s.core k).unitsDone f.units = true → m.csig = false →
      65535 < s.fget .TOKEN_COUNT k f.token + f.count →
      ∃ t, exec (.signal k m f) s = .next t ∧ t.fget .TOKEN_COUNT k f.token = 65535 ∧
        t.fget .SEQ_STATUS_TOKEN_OVF k = 1 ∧ t.seqState k = 5 ∧ t.fget .ENGINE_STATUS_HALTED k = 1)

/-- A signal that reaches a core of this module whose WAIT_TOKEN pends is added first; the wait then tests and subtracts,
and issue there goes on (R202). -/
def Obligations.SignalEndsAPendingWait : Prop :=
  ∀ (s : State) (k d : Nat) (m w : Cmn) (f : SignalF) (g : WaitF),
    s.ready k m (.signal f) → s.calm k → f.self = false → f.loc = true → f.dcore = d → d ≠ k → d < 4096 →
    (s.core k).unitsDone f.units = true → m.csig = false → w.csig = false →
    s.seqState d = 1 → s.hasPlan d = true → (s.core d).hold = some (.wait g w) → g.token = f.token → g.keep = false →
    (s.core d).holding = [] → (s.core d).backlog = [] →
    s.fget .TOKEN_COUNT d f.token + f.count ≤ 65535 → g.count ≤ s.fget .TOKEN_COUNT d f.token + f.count →
    ∃ t, exec (.signal k m f) s = .next t ∧ (t.core d).hold = none ∧
      t.fget .TOKEN_COUNT d f.token = s.fget .TOKEN_COUNT d f.token + f.count - g.count ∧ t.mem = s.mem

/-- SEND of larder data from a ready core to another core of this module starts, and its message arrives there (R219);
DRAIN and VSTREAM entries of a ready core enter the vector unit's queue with the chain they were issued with (R165). -/
def Obligations.NetAndVectorEntriesQueue : Prop :=
  ∀ (s : State) (k : Nat) (m : Cmn),
    let no := s.fget .SEQ_ENTRY_NEXT k
    let s1 := s.counted k
    (∀ f, s.ready k m (.send f) → f.srcMem = false → inLarder (f.src % 2 ^ 19) ((f.len + 1) * 32) = true →
      exec (.send k m f) s = .next
        (((s1.enqueue k 5 { no := no, entry := .send f, c := m, started := true, sent := true }).route f.loc f.dmod f.dcore
          { srcMod := 0, srcCore := k, channel := f.channel, dtoken := f.dtoken, dsig := f.dsig,
            data := (s.core k).larder.readBytes (f.src % 2 ^ 19) ((f.len + 1) * 32) }).advance k)) ∧
    (∀ f, s.ready k m (.drainFull f) → s.tileState k f.tile = 1 → inLarder f.target 65536 = true →
      inLarder f.fdesc 16 = true →
      exec (.drainFull k m f) s = .next ((s1.enqueue k 4 { no := no, entry := .drainFull f, c := m }).advance k)) ∧
    (∀ f ch, s.ready k m (.drainNarrow f) → s.tileState k f.tile = 1 → inLarder f.target (if f.olist = 0 then 32 else 40) = true →
      movChain (s.core k).larder f = some ch → ch.d.kind = .larder → ch.d.fmt ≤ 6 → chainFault ch true 0 0 0 = none →
      exec (.drainNarrow k m f) s = .next
        ((s1.enqueue k 4 { no := no, entry := .drainNarrow f, c := m, chain := some ch }).advance k)) ∧
    (∀ f ch, s.ready k m (.drainWide f) → s.tileState k f.tile = 1 → inLarder f.target (if f.olist = 0 then 32 else 40) = true →
      movChain (s.core k).larder f = some ch → ch.d.kind = .larder → ch.d.fmt = 9 → chainFault ch true 0 0 0 = none →
      exec (.drainWide k m f) s = .next
        ((s1.enqueue k 4 { no := no, entry := .drainWide f, c := m, chain := some ch }).advance k)) ∧
    (∀ f ch, s.ready k m (.drainVector f) → s.tileState k f.tile = 1 → readChain (s.core k).larder f.target = some ch →
      inLarder f.target (descBytes (s.core k).larder f.target) = true → chainFault ch true 0 0 0 = none →
      exec (.drainVector k m f) s = .next ((s1.enqueue k 4
        { no := no, entry := .drainVector f, c := m, chain := some ch
          anchor := s.fgetS .ANCHOR_VALUE k ch.anchorReg }).advance k)) ∧
    (∀ f ch, s.ready k m (.vstream f) → readChain (s.core k).larder f.chain = some ch →
      inLarder f.chain (descBytes (s.core k).larder f.chain) = true →
      chainFault ch false f.maskgen f.qpos f.kpos = none →
      exec (.vstream k m f) s = .next ((s1.enqueue k 4
        { no := no, entry := .vstream f, c := m, chain := some ch
          anchor := s.fgetS .ANCHOR_VALUE k ch.anchorReg }).advance k))

/-- NOP, FENCE, ANCHOR and COMMIT_POINT of a calm core (R205, R216, R220, R227): each counts the entry and changes nothing
else beyond its own effect: a FENCE whose units are done ends at once and one whose units are not holds issue; ANCHOR SET
loads the register; SCALES loads the two largest scales plus IMM, DESCS the largest anchor field plus IMM, where the value
fits 16 bits; a COMMIT_POINT with every unit done and every counter 0 reports the core to the commit check. -/
def Obligations.SequencerEntriesExecute : Prop :=
  ∀ (s : State) (k : Nat) (m : Cmn), s.calm k → m.csig = false →
    let s1 := s.counted k
    (s.ready k m .nop → exec (.nop k m) s = .next s1) ∧
    (∀ u, s.ready k m (.fence u) → (s.core k).unitsDone (if u = 0 then 63 else u) = true →
      ∃ t, exec (.fence k m u) s = .next t ∧ t.regs = s1.regs ∧ t.mem = s.mem ∧ ∀ c, t.core c = s.core c) ∧
    (∀ u, s.ready k m (.fence u) → (s.core k).unitsDone (if u = 0 then 63 else u) = false →
      exec (.fence k m u) s = .next (s1.modCore k fun x => { x with hold := some (.fence u m) })) ∧
    (∀ f, s.ready k m (.anchorSet f) →
      exec (.anchorSet k m f) s = .next (s1.fsetS .ANCHOR_VALUE (signed 16 f.imm) k f.areg)) ∧
    (∀ f, s.ready k m (.anchorScales f) → inLarder f.addr1 (f.cnt1 + 1) = true → inLarder f.addr2 (f.cnt2 + 1) = true →
      (0xFF : Byte) ∉ (s.core k).larder.readBytes f.addr1 (f.cnt1 + 1) ++ (s.core k).larder.readBytes f.addr2 (f.cnt2 + 1) →
      let v := (maxScale (s.core k).larder f.addr1 (f.cnt1 + 1) : Int) + maxScale (s.core k).larder f.addr2 (f.cnt2 + 1) +
        signed 16 f.imm
      v ≤ 32767 → -32768 ≤ v → exec (.anchorScales k m f) s = .next (s1.fsetS .ANCHOR_VALUE v k f.areg)) ∧
    (∀ f, s.ready k m (.anchorDescs f) → inLarder f.addr1 (16 * (f.cnt1 + 1)) = true →
      let v := maxAnchor (s.core k).larder f.addr1 (f.cnt1 + 1) + signed 16 f.imm
      v ≤ 32767 → -32768 ≤ v → exec (.anchorDescs k m f) s = .next (s1.fsetS .ANCHOR_VALUE v k f.areg)) ∧
    (s.ready k m .commitPoint → (s.core k).allDone = true → (∀ i, i < 64 → s.fget .TOKEN_COUNT k i = 0) →
      s.exch.loaded = false →
      ∃ t, exec (.commitPoint k m) s = .next t ∧ t.seqState k = 2 ∧ k ∈ t.job.reported ∧ t.mem = s.mem ∧
        t.faults = s.faults)

/-- ENTRY_COMPLETE of a STORE that has started, on a core that runs: it leaves the unit's queue and, with CSIG, adds 1 to
CTOKEN (R199, R206). TOKEN_TIMEOUT of a core that waits in its main section raises TOKEN_TIMEOUT and reports the core to
the commit check (R204). -/
def Obligations.EntriesCompleteAndTimeOut : Prop :=
  ∀ (s : State) (k : Nat),
    (∀ it f, (s.core k).qMover = [it] → it.entry = .store f → it.started = true → s.calm k → (s.core k).hold = none →
      s.crosses (.entryComplete k 0 0 {}) = true → s.fget .TOKEN_COUNT k it.c.ctoken < 65535 → it.c.ctoken < 64 →
      ∃ t, exec (.entryComplete k 0 0 {}) s = .next t ∧ (t.core k).qMover = [] ∧
        t.fget .TOKEN_COUNT k it.c.ctoken = s.fget .TOKEN_COUNT k it.c.ctoken + (if it.c.csig then 1 else 0) ∧
        t.mem = s.mem) ∧
    (s.crosses (.tokenTimeout k) = true → s.seqState k = 1 → s.job.stopped = false → s.tokenTimeout ≠ 0 → (s.core k).waits = true → s.exch.loaded = false →
      ∃ t, exec (.tokenTimeout k) s = .next t ∧ t.seqState k = 2 ∧ t.fget .SEQ_STATUS_TOKEN_TIMEOUT k = 1 ∧
        (∃ x ∈ t.faults.raised, x.1 = .tokenTimeout) ∧ k ∈ t.job.reported ∧ (t.core k).hold = none)

/-- STASH of a calm core, with or without SKIPZERO (R210, R228 to R231). The bytes kept are the presence map, where SKIPZERO
asks for one, and the lines that hold a byte other than zero, or every line. They go to the next position of the primary
cellar, else of the core's current chunk, else to the start of the lowest chunk that no core holds; no other byte of memory
and no byte of the larder changes, the index holds the stash under its number and every other stash as before, and the
skipped lines are counted. A stash number in use, a larder range that is not aligned or passes the larder's end, and a cellar
with no room stop the core with their codes. -/
def Obligations.StashKeepsItsLinesInTheCellar : Prop :=
  ∀ (s : State) (k : Nat) (m : Cmn) (f : StashF) (h : CoreHdr),
    let w := (f.linew + 1) * 32
    let ls := stashLines (s.core k).larder f
    let present := ls.map fun l => !f.skipZero || l.any (· ≠ 0)
    let data := (if f.skipZero then packMap (mapBytes (f.lines + 1)) present else []) ++
      ((ls.zip present).filter (·.2)).flatMap (·.1)
    let n := data.length
    let room := h.cellarKib * 1024 - 131072
    s.ready k m (.stash f) → s.calm k → (s.core k).hdr = some h →
    (f.larder % 32 = 0 → inLarder f.larder (w * (f.lines + 1)) = true → (s.core k).stash.find? f.stashNo = none →
      (∀ a, mappedRange a n = true → s.inPages a n = false → s.memBad = [] →
        ((s.core k).cellarUsed + n ≤ room ∧ a = h.cellarBase + 131072 + (s.core k).cellarUsed) ∨
        (room < (s.core k).cellarUsed + n ∧ ∃ i, (s.core k).chunks.getLast? = some i ∧ (s.core k).chunkUsed + n ≤ chunkSize ∧
          a = s.plan.ovBase + i * chunkSize + (s.core k).chunkUsed) ∨
        (room < (s.core k).cellarUsed + n ∧ ((s.core k).chunks = [] ∨ chunkSize < (s.core k).chunkUsed + n) ∧
          ∃ i, s.freeChunk = some i ∧ a = s.plan.ovBase + i * chunkSize) →
        ∃ t, exec (.stash k m f) s = .next t ∧
          (∀ j, j < n → t.mem.read (a + j) = data.getD j 0) ∧
          (∀ b, b < a ∨ a + n ≤ b → t.mem.read b = s.mem.read b) ∧
          (t.core k).stash.find? f.stashNo = some ⟨a, f.linew, f.lines, f.skipZero, present⟩ ∧
          (∀ x, x ≠ f.stashNo → (t.core k).stash.find? x = (s.core k).stash.find? x) ∧
          (t.core k).skipped = (s.core k).skipped + (present.filter (!·)).length ∧
          (t.core k).larder = (s.core k).larder ∧ (∀ c, c ≠ k → t.core c = s.core c) ∧
          t.fget .SEQ_ENTRY_NEXT k = (s.fget .SEQ_ENTRY_NEXT k + 1) % 2 ^ 32 ∧ t.dict = s.dict ∧ t.faults = s.faults) ∧
      (room < (s.core k).cellarUsed + n → (s.core k).chunks = [] ∨ chunkSize < (s.core k).chunkUsed + n → s.freeChunk = none →
        exec (.stash k m f) s = .next ((s.counted k).halt .cellarFull k (s.fget .SEQ_ENTRY_NEXT k)))) ∧
    (f.larder % 32 = 0 → inLarder f.larder (w * (f.lines + 1)) = true → (s.core k).stash.find? f.stashNo ≠ none →
      exec (.stash k m f) s = .next ((s.counted k).halt .badStash k (s.fget .SEQ_ENTRY_NEXT k))) ∧
    (f.larder % 32 ≠ 0 ∨ inLarder f.larder (w * (f.lines + 1)) = false →
      exec (.stash k m f) s = .next ((s.counted k).halt .operandAlign k (s.fget .SEQ_ENTRY_NEXT k)))

/-! ### The vector engine (R164 to R192) -/

/-- Each stage command completes: while its die's clock runs it runs its operation of R174, or its reduction of R182, on the
vector in its core's pipeline, on every state and with every stage word. MWADD with a chain that R172 and R190 accept runs
the chain with the anchor register's value. -/
def Obligations.VectorStagesComplete : Prop :=
  ∀ (s : State) (k : Nat) (w : StageW), s.flows (dieClk k) = true →
    exec (.vMov k w) s = .next (s.stage k .mov w) ∧
    exec (.vAdd k w) s = .next (s.stage k .add w) ∧
    exec (.vSub k w) s = .next (s.stage k .sub w) ∧
    exec (.vMul k w) s = .next (s.stage k .mul w) ∧
    exec (.vFma k w) s = .next (s.stage k .fma w) ∧
    exec (.vMax k w) s = .next (s.stage k .max w) ∧
    exec (.vMin k w) s = .next (s.stage k .min w) ∧
    exec (.vAbs k w) s = .next (s.stage k .abs w) ∧
    exec (.vNeg k w) s = .next (s.stage k .neg w) ∧
    exec (.vScale k w) s = .next (s.stage k .scale w) ∧
    exec (.vFunc k w) s = .next (s.stage k .func w) ∧
    exec (.vCmp k w) s = .next (s.stage k .cmp w) ∧
    exec (.vSel k w) s = .next (s.stage k .sel w) ∧
    exec (.vCvti k w) s = .next (s.stage k .cvti w) ∧
    exec (.vCvtf k w) s = .next (s.stage k .cvtf w) ∧
    exec (.vIadd k w) s = .next (s.stage k .iadd w) ∧
    exec (.vIsub k w) s = .next (s.stage k .isub w) ∧
    exec (.vImul k w) s = .next (s.stage k .imul w) ∧
    exec (.vAnd k w) s = .next (s.stage k .and w) ∧
    exec (.vOr k w) s = .next (s.stage k .or w) ∧
    exec (.vXor k w) s = .next (s.stage k .xor w) ∧
    exec (.vShl k w) s = .next (s.stage k .shl w) ∧
    exec (.vShra k w) s = .next (s.stage k .shra w) ∧
    exec (.vShrl k w) s = .next (s.stage k .shrl w) ∧
    exec (.vImax k w) s = .next (s.stage k .imax w) ∧
    exec (.vImin k w) s = .next (s.stage k .imin w) ∧
    exec (.vIcmp k w) s = .next (s.stage k .icmp w) ∧
    exec (.vPerm k w) s = .next (s.stage k .perm w) ∧
    exec (.rsum k w) s = .next (s.stage k .rsum w) ∧
    exec (.rprod k w) s = .next (s.stage k .rprod w) ∧
    exec (.rmax k w) s = .next (s.stage k .rmax w) ∧
    exec (.rmin k w) s = .next (s.stage k .rmin w) ∧
    exec (.rargmax k w) s = .next (s.stage k .rargmax w) ∧
    exec (.rargmin k w) s = .next (s.stage k .rargmin w) ∧
    exec (.rand k w) s = .next (s.stage k .rand w) ∧
    exec (.ror k w) s = .next (s.stage k .ror w) ∧
    exec (.rxor k w) s = .next (s.stage k .rxor w) ∧
    exec (.risum k w) s = .next (s.stage k .risum w) ∧
    exec (.rimax k w) s = .next (s.stage k .rimax w) ∧
    exec (.rimin k w) s = .next (s.stage k .rimin w) ∧
    (∀ ch : Chain, chainFault ch false 0 0 0 = none →
      ch.stages.any (·.op = .mwadd) = true → mwLow (s.core k).larder ch (s.fgetS .ANCHOR_VALUE k ch.anchorReg) = false →
      exec (.mwadd k ch) s = .next
        ((s.mwadd k (s.fget .SEQ_ENTRY_NEXT k) ch (s.fgetS .ANCHOR_VALUE k ch.anchorReg) 0 0 0 0
          ⟨0, ch.indexBase, ch.indexPitch, s.fget .SEQ_ENTRY_NEXT k⟩).fcount .VCOUNT_CHAINS 1 k))

/-- What a stage changes: its core's pipeline and, by setting bits only, that core's VSTAT (R180); no memory, no larder, no
other register, no other core. -/
def Obligations.StagesChangeThePipelineAndVstatOnly : Prop :=
  ∀ (s : State) (k : Nat) (op : VOp) (w : StageW),
    let t := s.stage k op w
    t.core k = { s.core k with vpipe := vstage op w (s.core k).vpipe } ∧ (∀ c, c ≠ k → t.core c = s.core c) ∧
    t.mem = s.mem ∧ t = { s with regs := t.regs, cores := t.cores } ∧
    (∀ sec i o, regKey sec i o ≠ regKey .vector k 0 → t.rword sec i o = s.rword sec i o) ∧
    (∀ b, bit (s.rword .vector k 0) b = true → b < 32 → bit (t.rword .vector k 0) b = true)

/-- An element-wise stage on a vector whose lanes the pipeline holds: an enabled lane takes the operation's result on its
A, B and C, a disabled one takes A under MERGE and zero bits under ZERO, and PREV2 is the PREV before (R171, R174, R177). -/
def Obligations.LanesComputeOrPassOn : Prop :=
  ∀ (p : VPipe) (w : StageW) (f : Word → Word → Word → Word × VFlags) (i : Nat), i < p.len →
    let q := p.lanes w f
    let a := (p.src w w.srca).getD i 0
    let b := (p.src w w.srcb).getD i 0
    let c := (p.src w w.srcc).getD i 0
    ((p.enabledBy w).getD i true = true → q.prev.getD i 0 = (f a b c).1) ∧
    ((p.enabledBy w).getD i true = false → q.prev.getD i 0 = if w.zero then 0 else a) ∧
    q.prev2 = p.prev ∧ q.prev.length = p.len ∧ q.m0 = p.m0 ∧ q.m1 = p.m1 ∧ q.len = p.len

/-- The integer operations of R174 on two lanes: sums, differences and products modulo 2^32 with OF when the exact result
lies outside INT32; shifts by 0 to 31, and RG with the stated result beyond; signed maximum and minimum. -/
def Obligations.IntegerLanesFollowTheTable : Prop :=
  ∀ a b : Word,
    let out (v : Int) : Bool := decide (v < -2147483648 ∨ 2147483647 < v)
    iWrap (laneInt a + laneInt b) = (a + b, { ov := out (a.toInt + b.toInt) }) ∧
    iWrap (laneInt a - laneInt b) = (a - b, { ov := out (a.toInt - b.toInt) }) ∧
    iWrap (laneInt a * laneInt b) = (a * b, { ov := out (a.toInt * b.toInt) }) ∧
    (b.toNat ≤ 31 → iShl a b = (a <<< b.toNat, {}) ∧ iShra a b = (a.sshiftRight b.toNat, {}) ∧
      iShrl a b = (a >>> b.toNat, {})) ∧
    (31 < b.toNat → iShl a b = (0, { rg := true }) ∧ iShrl a b = (0, { rg := true }) ∧
      iShra a b = (if a.toInt < 0 then 0xFFFFFFFF else 0, { rg := true })) ∧
    (iMax a b).toInt = max a.toInt b.toInt ∧ (iMin a b).toInt = min a.toInt b.toInt

/-- RISUM over a segment gives the exact sum of its enabled elements, saturated to INT32 with OF where it lies
outside, whatever the order and the shape of the tree (R184, R185). -/
def Obligations.IntegerSumIsExact : Prop :=
  ∀ xs : List (Option Word),
    let sum : Int := (xs.map fun x => match x with | some w => w.toInt | none => 0).sum
    (reduceSeg .risum 0 xs).val = intLane (max (-2147483648) (min 2147483647 sum)) ∧
    (reduceSeg .risum 0 xs).flags = { ov := decide (sum < -2147483648 ∨ 2147483647 < sum) } ∧
    (reduceSeg .risum 0 xs).empty = !xs.any Option.isSome
/-! ### Charge arrays, calibration, creep and the watch unit (R67 to R126, R354 to R356) -/

/-- ARRAY_MVM and ARRAY_WRITE of a ready core whose operands are in place (R70, R88, R142, R211, R212): an MVM opens or continues
its tile and requests REPEAT + 1 slots on each position of its mask, or raises ANCHOR_LOW and does nothing where a scale pair
exceeds its anchor; a write joins the waiting writes of each array of its
mask, under its tag and with each position's image. -/
def Obligations.ArrayEntriesQueueTheirWork : Prop :=
  ∀ (s : State) (k : Nat) (m : Cmn),
    let no := s.fget .SEQ_ENTRY_NEXT k
    let s1 := s.counted k
    (∀ f, s.ready k m (.arrayMvm f) → f.fmt ≤ 1 → f.inbase % 128 = 0 → f.scbase % 8 = 0 →
      (∀ p ∈ positions f.posmask, inLarder (f.inbase + 512 * f.rpt + 128 * bits f.insel (2 * p) 2) 128 = true ∧
        inLarder (f.scbase + 32 * f.rpt + 8 * bits f.insel (2 * p) 2) 8 = true) →
      let a := s.fgetS .ANCHOR_VALUE k f.areg
      s.accumConflict k f.tile f.start a 0 = none →
      (s.mvmLow k no f a = true → exec (.arrayMvm k m f) s = .next ((s1.halt .anchorLow k no).advance k)) ∧
      (s.mvmLow k no f a = false → exec (.arrayMvm k m f) s = .next
        ((((positions f.posmask).foldl (fun s p => s.modPos k p fun x =>
            { x with reqs := x.reqs ++ (List.range (f.rpt + 1)).map fun r => ⟨no, f, r, a⟩ })
          ((s1.enqueue k 1 { no := no, entry := .arrayMvm f, c := m, anchor := a, started := true }).openTile
            k f.tile f.start a 0)).tagCheck k).advance k))) ∧
    (∀ f, s.ready k m (.arrayWriteFull f) →
      (∀ p ∈ positions f.posmask, imageBad (s.effAddr f.newImg + 34816 * p) = false ∧
        mappedRange (s.effAddr f.newImg + 34816 * p) 34816 = true) →
      exec (.arrayWriteFull k m f) s = .next
        (((s1.enqueue k 2 { no := no, entry := .arrayWriteFull f, c := m, started := true }).queueWrites
          k no f.posmask f.bank f.tag (s.effAddr f.newImg) 0 false).advance k)) ∧
    (∀ f, s.ready k m (.arrayWriteDelta f) →
      (∀ p ∈ positions f.posmask,
        imageBad (s.effAddr f.newImg + 34816 * p) = false ∧ mappedRange (s.effAddr f.newImg + 34816 * p) 34816 = true ∧
        imageBad (s.effAddr f.oldImg + 34816 * p) = false ∧ mappedRange (s.effAddr f.oldImg + 34816 * p) 34816 = true) →
      exec (.arrayWriteDelta k m f) s = .next
        (((s1.enqueue k 2 { no := no, entry := .arrayWriteDelta f, c := m, started := true }).queueWrites
          k no f.posmask f.bank f.tag (s.effAddr f.newImg) (s.effAddr f.oldImg) true).advance k))

/-- A bank write from its first row to its end, on an array with no marked column or converter (R71, R85, R88, R92):
BANK_LOADING_START puts the bank into LOADING under the write's tag and loads the scale store from the image; ROW_WRITE
brings each cell it pulses, but those that missed after the third attempt, to the level the image gives it, leaves every other
row alone and goes to the next row; ARRAY_WRITE_END of a FULL write makes
the bank READY, records the image's address and restarts retention. -/
def Obligations.BankWritesProceed : Prop :=
  ∀ (s : State) (c a : Nat), c < 4096 → a < 8 → (s.array c a).cols = [] → (s.pos c (a % 4)).convs = [] →
    (∀ n, n < 4 → s.fon .SPARE_COL_PENDING c a n = false) →
    (∀ j rest, s.crosses (.bankLoadingStart c a) = true → (s.array c a).waiting = j :: rest → (s.array c a).job = none → (s.pos c (a % 4)).reqs = [] →
      ∃ t, exec (.bankLoadingStart c a) s = .next t ∧ t.bankState c a = 1 ∧
        t.fget .ARRAY_STATUS_LAYER_TAG c a = j.tag % 65536 ∧ t.fget .ARRAY_STATUS_MISS_COUNT c a = 0 ∧
        (∀ i, i < 2048 → (t.array c a).scales.read i = s.mem.read (j.img + 32768 + i)) ∧
        (t.array c a).waiting = rest ∧ (t.array c a).job.isSome = true ∧ (t.array c a).levels = (s.array c a).levels ∧
        t.mem = s.mem) ∧
    (∀ j n ms, (s.array c a).job = some j → s.crosses (.rowWrite c a n ms) = true → j.row < 256 → 1 ≤ n → n ≤ 3 →
      ∃ t, exec (.rowWrite c a n ms) s = .next t ∧
        (∀ col, col < 264 → s.pulses c a j j.row col = true → (n = 3 → col ∉ ms) →
          (t.array c a).levels.find? (264 * j.row + col) = some (s.target c a j.img j.row col)) ∧
        (∀ x, (∀ col, col < 264 → x ≠ 264 * j.row + col) →
          (t.array c a).levels.find? x = (s.array c a).levels.find? x) ∧
        (t.array c a).job.map (·.row) = some (s.nextRow c a j (j.row + 1)) ∧ t.mem = s.mem) ∧
    (∀ j, s.crosses (.arrayWriteEnd c a) = true → (s.array c a).job = some j → 256 ≤ j.row → j.delta = false → s.bankState c a = 1 →
      (s.array c a).missLog = [] → (∀ p, p < 4 → (s.pos c p).reqs = []) →
      ∃ t, exec (.arrayWriteEnd c a) s = .next t ∧ t.bankState c a = 2 ∧ (t.array c a).recorded = some j.img ∧
        (t.array c a).job = none ∧ t.fget .RETENTION_AGE c a = 0 ∧ t.fget .RETENTION_DRIFT c a = 0 ∧
        (t.array c a).levels = (s.array c a).levels ∧ t.mem = s.mem)

/-- A slot from its grant to its terms (R75, R79, R81, R91, R94): SLOT_GRANT lets the first request of a position integrate
in a free hold set and makes its bank ACTIVE; READOUT_CONVERSION gives every driven segment a code and leaves the hold set
in place; CODE_TERM_ADD adds a term for each code that needs no fix-up, sends the others to the fix-up queue and frees the
hold set; FIXUP adds the exact block product of the oldest fix-up; WATCH_RECOMPUTE takes the oldest sample and counts it. -/
def Obligations.SlotsBecomeTerms : Prop :=
  ∀ (s : State) (c p : Nat), c < 4096 → p < 4 →
    (∀ r rest still, (s.pos c p).reqs = r :: rest → (∀ q, q < 4 → (s.pos c q).holds = []) → (s.pos c p).cal = none →
      (s.core c).watch = [] → s.fon .ARRAY_CTRL_REFRESH_EN c = false → s.crosses (.slotGrant c p still) = true → s.halted c = false →
      s.plan.refMode = false → r.f.bank < 2 → s.bankState c (p + 4 * r.f.bank) = 2 →
      s.bankState c (p + 4 * (1 - r.f.bank)) = 3 →
      s.writeBefore c (p + 4 * r.f.bank) r.entryNo = false → (s.array c (p + 4 * r.f.bank)).job = none →
      s.fget .ARRAY_STATUS_LAYER_TAG c (p + 4 * r.f.bank) = r.f.tag →
      (List.range 8).all (groupZero (mvmFmt r.f.fmt) (s.slotInputs c p r).1) = false →
      slotLow (mvmFmt r.f.fmt) r.anchor (s.slotInputs c p r).2 (s.array c (p + 4 * r.f.bank)).scales = false →
      ∃ t h, exec (.slotGrant c p still) s = .next t ∧ (t.pos c p).reqs = rest ∧ (t.pos c p).holds = [h] ∧
        h.req = some r ∧ h.inputs = (s.slotInputs c p r).1 ∧ h.scales = (s.slotInputs c p r).2 ∧ h.codes = none ∧
        h.img = (s.array c (p + 4 * r.f.bank)).img ∧ t.bankState c (p + 4 * r.f.bank) = 3 ∧
        t.bankState c (p + 4 * (1 - r.f.bank)) = 2 ∧ t.mem = s.mem) ∧
    (∀ h r reads, s.crosses (.readoutConversion c p reads) = true → (s.pos c p).holds = [h] → h.req = some r → h.codes = none →
      h.sampled = false →
      ∃ t cs, exec (.readoutConversion c p reads) s = .next t ∧
        (t.pos c p).holds = [{ h with codes := some cs }] ∧
        cs.map (fun g => (g.q, g.col)) = drivenSegs (mvmFmt r.f.fmt) h.inputs ∧ (∀ g ∈ cs, g.code < 256) ∧
        t.mem = s.mem) ∧
    (∀ h r cs, s.crosses (.codeTermAdd c p) = true → (s.pos c p).holds = [h] → h.req = some r → h.codes = some cs →
      (∀ g ∈ cs, h.scales.getD g.q 0 ≠ 255 ∧ h.wsc.read (256 * g.q + g.col) ≠ 255) →
      (s.core c).fixups.length + cs.length ≤ 1024 →
      ∃ t, exec (.codeTermAdd c p) s = .next t ∧ (t.pos c p).holds = [] ∧
        (t.core c).fixups.length = (s.core c).fixups.length + (cs.filter (·.fix)).length ∧
        (∀ i, (t.core c).tile i = ((s.addTerms c r.f.tile r.anchor (layerOfEntry c r.entryNo)
          ((cs.filter fun g => !g.fix).map fun g => ⟨slotElem r.f p r.r g.col, (g.code : Int) - 128,
            (h.scales.getD g.q 0 : Int) + (h.wsc.read (256 * g.q + g.col)).toNat - 254 + 4 -
              (bits r.f.gain (2 * p) 2 : Nat)⟩)).core c).tile i) ∧ t.mem = s.mem) ∧
    (∀ x rest, s.crosses (.fixup c) = true → (s.core c).fixups = x :: rest → x.miss = false → s.memBad = [] →
      exec (.fixup c) s = .next
        ((((s.addTerms c x.tile x.anchor (layerOfEntry c x.entryNo)
          [⟨x.elem, ((List.range 32).map fun k => ((intForm (mvmFmt x.fmt) (x.inputs.getD k 0)).getD 0) *
              signed 4 (s.imgCode x.img (32 * x.q + k) x.col)).foldl (· + ·) 0,
            (x.sx : Int) + x.sw - 254 + (mvmFmt x.fmt).u⟩]).modCore c fun k => { k with fixups := rest }).fixLevel
          c).advance c)) ∧
    (∀ w rest, s.crosses (.watchRecompute c) = true → (s.core c).watch = w :: rest → w.codes = [] → s.calm c → (s.core c).hold = none → s.memBad = [] →
      ∃ t, exec (.watchRecompute c) s = .next t ∧ (t.core c).watch = rest ∧
        t.fget .WATCH_STATUS_LEVEL c = rest.length % 8 ∧
        t.fget .WATCH_COUNT_SAMPLES c = min 65535 (s.fget .WATCH_COUNT_SAMPLES c + 1) ∧
        t.fget .WATCH_STATUS_WATCH_MISMATCH c = s.fget .WATCH_STATUS_WATCH_MISMATCH c ∧ t.mem = s.mem)

/-- The watch unit's comparison (R99, R356): a code that no fix-up replaces and that lies farther than 4 converter
steps from the exact product raises WATCH_MISMATCH, with the sample's array where it is the attempt's first. -/
def Obligations.WatchMismatchIsRaised : Prop :=
  ∀ (s : State) (c : Nat) (w : WatchSample) (rest : List WatchSample), c < 4096 → s.crosses (.watchRecompute c) = true →
    (s.core c).watch = w :: rest → s.calm c → (s.core c).hold = none → s.memBad = [] → (s.core c).watchFound = false →
    (∃ g ∈ w.codes, g.fix = false ∧
      4 * (codeDist (mvmFmt w.fmt) w.gain g.code (s.segProduct w.img (mvmFmt w.fmt) w.inputs g.q g.col)).2 <
        (codeDist (mvmFmt w.fmt) w.gain g.code (s.segProduct w.img (mvmFmt w.fmt) w.inputs g.q g.col)).1) →
    ∃ t, exec (.watchRecompute c) s = .next t ∧ t.fget .WATCH_STATUS_WATCH_MISMATCH c = 1 ∧
      t.fget .WATCH_STATUS_ARRAY c = w.array % 8 ∧ (∃ x ∈ t.faults.raised, x.1 = .watchMismatch)

/-- Calibration and creep commands (R110, R114 to R120): a pass starts where none runs and CAL_EN is set; CAL_STARVED marks
a running pass; a write of 0 to CAL_EN stops the running passes; a scan pass starts on a READY or ACTIVE array that runs none; a
row read goes to the next row, and a deviation between the urgent and the gross threshold puts the row into the urgent queue, out
of the routine one, and sets REFRESH_DUE; a refresh pulse
that leaves no column outside takes an urgent row off its queue; a tick counts one second of age. -/
def Obligations.CalibrationAndCreepCommandsComplete : Prop :=
  ∀ (s : State) (c a : Nat), c < 4096 → a < 8 → s.flows (arrayClk c) = true →
    (∀ p, p < 4 → (s.pos c p).cal = none → s.fon .ARRAY_CTRL_CAL_EN c = true →
      exec (.calibrationPassStart c p) s = .next ((s.modPos c p fun x => { x with cal := some {} }).fset .CAL_STATUS_RUNNING 1 c p)) ∧
    (∀ p, p < 4 → (s.pos c p).cal.isSome = true → exec (.calStarved c p) s = .next (s.fset .CAL_STATUS_STARVED 1 c p)) ∧
    (∃ t, exec (.calEnClear c) s = .next t ∧ t.fget .ARRAY_CTRL_CAL_EN c = 0 ∧ t.mem = s.mem ∧
      ∀ p x, (s.core c).poss.find? p = some x → (t.core c).poss.find? p = some { x with calStop := x.calStop || x.cal.isSome }) ∧
    (s.scans c a = false → s.bankState c a = 2 ∨ s.bankState c a = 3 →
      exec (.creepScanPass c a) s = .next
        (s.modArr c a fun x => { x with scanning := true, scanStart := s.bounds, scanRow := 0, gross := [], pulses := [] })) ∧
    (∀ j d, s.scans c a = true → s.bankState c a = 2 → (s.array c a).scanRow < 256 → s.memBad = [] →
      s.fon .ARRAY_CTRL_REFRESH_EN c = true → (s.array c a).scanRow ∉ (s.array c a).urgent →
      (s.array c a).urgent.length < 16 → j < 256 →
      (∀ col, col < 264 → s.deviation c a (s.array c a).scanRow [] col = 0) →
      s.creepThr.2.1 < Int.natAbs d → Int.natAbs d ≤ s.creepThr.2.2 →
      ∃ t, exec (.creepRowRead c a [(j, d)]) s = .next t ∧ (t.array c a).scanRow = (s.array c a).scanRow + 1 ∧
        (t.array c a).urgent = (s.array c a).urgent ++ [(s.array c a).scanRow] ∧
        (t.array c a).routine = (s.array c a).routine.filter (· ≠ (s.array c a).scanRow) ∧ t.fget .ARRAY_STATUS_REFRESH_DUE c a = 1 ∧
        t.mem = s.mem) ∧
    (∀ r rest, (s.array c a).urgent = r :: rest → r ∉ rest → s.bankState c a = 2 → (s.array c a).job = none →
      s.fon .ARRAY_CTRL_REFRESH_EN c = true →
      ∃ t, exec (.refreshPulse c a []) s = .next t ∧ (t.array c a).urgent = rest ∧
        t.fget .CREEP_COUNT_URGENT_ROWS c a = min 255 (s.fget .CREEP_COUNT_URGENT_ROWS c a + 1) ∧ t.mem = s.mem) ∧
    (s.fget .RETENTION_DRIFT c a < 256 →
      ∃ t, exec (.retentionAgeTick c a) s = .next t ∧
        t.fget .RETENTION_AGE c a = min 1048575 (s.fget .RETENTION_AGE c a + 1) ∧
        t.fget .RETENTION_DRIFT c a = s.fget .RETENTION_DRIFT c a ∧ t.mem = s.mem)

/-- A trim boundary outside an attempt moves every in-force gain and offset that differs from its target one unit towards
it, and no target (R106), where no spare converter and no bias move takes effect with it; a core whose die's or arrays' clock is
stopped keeps its trims (R458). -/
def Obligations.TrimBoundariesMoveOneUnit : Prop :=
  ∀ s : State, s.job.current = none → (∀ c p, p < 4 → s.fon .CONV_SPARE_PENDING c p = false) →
    (∀ c p, p < 4 → (s.pos c p).biasDue = false) →
    ∃ t, exec .trimBoundary s = .next t ∧ t.mem = s.mem ∧ t.cores = s.cores ∧ t.bounds = s.bounds + 1 ∧
      (∀ c, c < 4096 → s.clockOn c true = false → ∀ o, 0x1000 ≤ o → o < 0x5800 → t.rword .array c o = s.rword .array c o) ∧
      ∀ c, c < 4096 → s.clockOn c true = true →
        (∀ a j, a < 8 → j < 260 →
          t.fgetS .COL_TRIM_GAIN_NOW c a j = toward (s.fgetS .COL_TRIM_GAIN_NOW c a j) (s.fgetS .COL_TRIM_GAIN_TARGET c a j) ∧
          t.fgetS .COL_TRIM_OFFSET_NOW c a j =
            toward (s.fgetS .COL_TRIM_OFFSET_NOW c a j) (s.fgetS .COL_TRIM_OFFSET_TARGET c a j) ∧
          t.fgetS .COL_TRIM_GAIN_TARGET c a j = s.fgetS .COL_TRIM_GAIN_TARGET c a j ∧
          t.fgetS .COL_TRIM_OFFSET_TARGET c a j = s.fgetS .COL_TRIM_OFFSET_TARGET c a j) ∧
        (∀ p k, p < 4 → k < 65 →
          t.fgetS .CONV_TRIM_GAIN_NOW c p k = toward (s.fgetS .CONV_TRIM_GAIN_NOW c p k) (s.fgetS .CONV_TRIM_GAIN_TARGET c p k) ∧
          t.fgetS .CONV_TRIM_OFFSET_NOW c p k =
            toward (s.fgetS .CONV_TRIM_OFFSET_NOW c p k) (s.fgetS .CONV_TRIM_OFFSET_TARGET c p k))

/-! ### The exchange (R283 to R303) -/

/-- Exchange commands (R283, R290, R295, R296, R303): EXCHANGE_START converts every bucket's contribution once all ready
words are in; a reduce message of this attempt that fits its bucket goes on to the next member with this module's integers
added; a final message goes on unless this module is the last, and completes the crossing; EXCHANGE_TIMEOUT raises its code
once and lets the exchange go on. A message of an earlier attempt is discarded and counted as stale, one of a later attempt is
held, and one of this attempt whose check value fails is FRAME_LOSS (R295, R319, R384). -/
def Obligations.ExchangeCommandsComplete : Prop :=
  ∀ s : State,
    (∀ xfer, s.crosses (.exchangeStart xfer) = true → s.exch.loaded = true → s.exch.started = false → s.exch.stopped = false →
      s.running = true → s.exch.readyCount ≤ s.exch.ready.length →
      exec (.exchangeStart xfer) s = .next
        ((List.range s.exch.buckets.length).foldl (fun t g => exchEvent g 12 (.convert (if s.fon .EXCH_STATUS_COLD then 0 else 1)) t)
          (State.pathCheck { s.fset .EXCH_STATUS_PHASE (if s.fon .EXCH_STATUS_COLD then 2 else 3) with
            exch := { s.exch with started := true } } xfer))) ∧
    (∀ m gb, s.flows hubClk = true → m.checkOk = true → s.running = true → s.exch.stopped = false → m.attempt = s.job.attempt →
      s.fget .EXCH_STATUS_PHASE ≠ 4 → s.findBucket m = some gb → m.originPos = (s.bucketRec gb).origin →
      (∀ pass, pass = 0 ∨ pass = (if m.second then 2 else 1) → pass ≠ 2 ∨ (s.buck gb).second ≠ [] → ((s.buck gb).own.find? pass).isSome = true →
        m.blockCount = (s.places gb pass m.shadow).length →
        let body := addBody (msgBody pass m) (s.ownBody gb pass m.shadow)
        let skew := m.skewSeen || decide (m.step ≠ s.job.stepCounter + 1)
        let n := (s.ringOf gb).members.length
        let o := (s.bucketRec gb).origin
        let last := if m.shadow then (o + 2) % n else (o + 2 * n - 2) % n
        let t := if (s.ringOf gb).pos = last then s
          else s.sendBucket gb pass m.shadow skew true m.hops m.step (msgBody pass m)
        (m.hops + 1 < n → exec (if pass = 0 then .bucketPeakReduce m else .bucketReduce m) s
          = .next (s.sendBucket gb pass m.shadow skew false (m.hops + 1) m.step body)) ∧
        exec (if pass = 0 then .bucketPeakFinal m else .bucketFinal m) s
          = .next (exchEvent gb 11 (.complete pass m.shadow skew (msgBody pass m)) t))) ∧
    (s.crosses .exchangeTimeout = true → s.running = true → s.exch.started = true → s.exch.stopped = false →
      s.job.exchTimedOut = false → s.tokenTimeout ≠ 0 → s.fget .EXCH_STATUS_PHASE ≠ 4 →
      ∃ t, exec .exchangeTimeout s = .next t ∧ t.fget .EXCH_STATUS_EXCHANGE_TIMEOUT = 1 ∧ t.exch = s.exch ∧
        t.job = { s.job with exchTimedOut := true } ∧ t.cores = s.cores ∧ t.mem = s.mem ∧ (∃ x ∈ t.faults.raised, x.1 = .exchangeTimeout)) ∧
    (∀ (m : BucketMsg) (i : Instr),
      i = .bucketReduce m ∨ i = .bucketFinal m ∨ i = .bucketPeakReduce m ∨ i = .bucketPeakFinal m → s.flows hubClk = true →
      (m.checkOk = false → s.running = true → m.attempt = s.job.attempt → s.fget .EXCH_STATUS_PHASE ≠ 4 →
        exec i s = .next (s.raiseIn .frameLoss none)) ∧
      (s.running = false → laterKey (m.step, m.attempt) s.curKey = false →
        exec i s = .next (s.fcount .FABRIC_COUNT1_STALE_MSGS 1)) ∧
      (s.running = false → laterKey (m.step, m.attempt) s.curKey = true →
        ∃ t x, exec i s = .next t ∧ t = { s with exch := { s.exch with early := s.exch.early ++ [x] } } ∧
          x.ints = m.ints ∧ x.peaks = m.peaks ∧ x.recross = m.recross ∧ x.step = m.step ∧ x.attempt = m.attempt ∧
          x.checkOk = m.checkOk))

/-- The exchange is exact (R284, R285, R296). Combining bodies adds the integers and does not depend on the order of the
members. A converted element is bounded by 2^(31 - c) - 1, so that the sum over the N members of a group, c = ceil(log2 N),
fits in 32 bits with its sign; zero converts to zero, and RECROSS tells a clamped element. -/
def Obligations.ExchangeSumsAreExact : Prop :=
  (∀ a b c : List XBlk, addBody (addBody a b) c = addBody a (addBody b c)) ∧
  (∀ a b : List XBlk, addBody a b = addBody b a) ∧
  (∀ (a b : List XBlk) (i : Nat) (x y : XBlk), a[i]? = some x → b[i]? = some y →
    ∃ z, (addBody a b)[i]? = some z ∧ z.ints = (x.ints.zip y.ints).map (fun p => p.1 + p.2) ∧
      z.peak = peakMax x.peak y.peak ∧ z.recross = (x.recross || y.recross)) ∧
  (∀ (c scale : Nat) (e : CElem), ((convertElem c scale e).1).natAbs ≤ 2 ^ (31 - c) - 1) ∧
  (∀ (g : RGroup) (scale : Nat) (es : List CElem), 1 ≤ g.members → g.members ≤ 16384 → es.length ≤ g.members →
    ((es.map fun e => (convertElem g.c scale e).1).foldl (· + ·) 0).natAbs < 2 ^ 31) ∧
  (∀ (c scale : Nat) (e : CElem), e.tag = false → e.raw = 0 → convertElem c scale e = (0, false, 0, 0)) ∧
  (∀ (c scale : Nat) (e : CElem), (convertElem c scale e).2.1 = true → ((convertElem c scale e).1).natAbs = 2 ^ (31 - c) - 1)

/-! ### Update engines (R251 to R269) -/

/-- The thirteen instructions of an engine that holds a block (R255 to R258): the destination register takes the value, in
memory the stored block alone changes. Memory reads and writes are of words with no uncorrectable error. -/
def Obligations.UpdateInstructionsComplete : Prop :=
  ∀ (s : State) (e : Nat) (f : UpdF) (b : UBlock) (t : Tensor),
    (s.eng e).blk = some b → s.tensor b.tensor = some t → s.memBad = [] →
    let x := s.eng e
    let put (v : List Word) : State := s.modEng e (·.setReg f.dst v)
    let ew (g : Word → Word → Word → Word) : State :=
      put ((List.range 32).map fun i => g ((x.reg f.a).getD i 0) ((x.opB f).getD i 0) ((x.opC f).getD i 0))
    (s.flows (hubClk ++ phyClk) = true →
    (b.scale ≠ 255 → s.job.controls.clipMode ≠ 1 → exec (.ldg e f) s = .next (put ((List.range 32).map fun i =>
      dyLane (b.elem i) (s.group t.group).r))) ∧
    exec (.ldw e f) s = .next (put ((List.range 32).map fun i =>
      word (fieldAt (s.load (s.committed + t.master + 128 * b.block) 128) (4 * i) 4))) ∧
    (natOf (s.load (s.committed + t.momentScaleAt f.sub b.block) 1) ≠ 255 →
      exec (.ldm e f) s = .next (put ((List.range 32).map fun i =>
        dyLane (narrowDecode (momentFmt f.sub) (fieldAt (s.load (s.committed + t.momentAt f.sub b.block) 32) i 1)).toDy
          ((s.group t.group).r - s.momentShift s.committed t.group +
            ((natOf (s.load (s.committed + t.momentScaleAt f.sub b.block) 1) : Int) - 127))))) ∧
    (anyNonFinite (x.reg f.a) = false → exec (.stw e f) s = .next
      (s.pageWrite (t.master + 128 * b.block) ((x.reg f.a).flatMap fun w => bytesOf 4 w.toNat))) ∧
    (anyNonFinite (x.reg f.a) = false → ∃ u, exec (.stm e f) s = .next u ∧
      u.mem = ((s.pageWrite (t.momentAt f.sub b.block) ((jitBlock (momentFmt f.sub) (x.reg f.a)).1.flatMap (bytesOf 1))).pageWrite
        (t.momentScaleAt f.sub b.block) (bytesOf 1 (jitBlock (momentFmt f.sub) (x.reg f.a)).2)).mem ∧
      u.regs = s.regs ∧ u.cores = s.cores ∧ (u.eng e).v = x.v ∧ (u.eng e).stored = f.sub :: x.stored) ∧
    exec (.sti e f) s = .next (s.writeCells s.uncommitted t b.block (x.reg f.a))) ∧
    (s.flows hubClk = true →
    exec (.updAdd e f) s = .next (ew fun a b _ => (fAdd a b).1) ∧
    exec (.updSub e f) s = .next (ew fun a b _ => (fSub a b).1) ∧
    exec (.updMul e f) s = .next (ew fun a b _ => (fMul a b).1) ∧
    exec (.updFma e f) s = .next (ew fun a b c => (fFma a b c).1) ∧
    exec (.updMax e f) s = .next (ew fun a b _ => (fMax a b).1) ∧
    exec (.updMin e f) s = .next (ew fun a b _ => (fMin a b).1) ∧
    exec (.updFunc e f) s = .next (put ((x.reg f.a).map (ufunc f.sub))))

/-- Blocks of the update engines (R251, R252, R265 to R268): an idle engine runs its group's program on the first final
block, copies a block of a NONE group, or writes a final block to the hold area; a block whose bucket is of another step is
STEP_SKEW and is not run. -/
def Obligations.UpdateBlocksComplete : Prop :=
  ∀ (s : State) (e : Nat) (b : UBlock) (rest : List UBlock) (t : Tensor) (xfer : Bool),
    s.flows (hubClk ++ phyClk) = true → s.running = true → s.engIdle e = true → s.upd.final = b :: rest → s.tensor b.tensor = some t →
    let s1 : State := { s with upd := { s.upd with final := rest } }
    (s.isHeld = false → b.skew = false →
      let s2 := (s1.noteFinal b t).clearMap
      let loaded := s2.modEng e fun x => { v := [], k := s2.constants t.group, blk := some b, stored := [], blocks := x.blocks }
      ((s.group t.group).program ≠ 0 → exec (.updateProgramRun e false xfer) s = .next
        (((((loaded.runProgram e (progCode (s.program (s.group t.group).program))).zeroMoments e t b.block).pathCheck xfer).writePeak
          b).blockDone e b)) ∧
      ((s.group t.group).program = 0 → exec (.noneGroupCopy e xfer) s = .next
        (((((t.areasOf b.block).foldl (fun u a => u.pageCopy a.1 a.2) s2).pathCheck xfer).writePeak b).blockDone e b))) ∧
    (s.isHeld = false → b.skew = true →
      exec (.updateProgramRun e false xfer) s = .next (s1.raiseEng .stepSkew e) ∧
      exec (.noneGroupCopy e xfer) s = .next (s1.raiseEng .stepSkew e)) ∧
    (s.isHeld = true → b.skew = false →
      let v := (((s1.pathCheck xfer).noteFinal b t).writePeak b).writeMem (s.dval 0x2300 7 0 + 129 * b.xblock)
        ((b.ints.flatMap fun q => bytesOf 4 (wrap 32 q)) ++ bytesOf 1 b.scale) none
      let square := if b.block % t.replicas = t.rank ∧ b.scale ≠ 255 then
        ((b.ints.map fun q => q.natAbs * q.natAbs).foldl (· + ·) 0) * 2 ^ (2 * b.scale + 284) else 0
      exec (.holdAreaWrite e xfer) s = .next
        (State.normVote { v with upd := { v.upd with held := v.upd.held + 1, normSum := v.upd.normSum + square } }))
/-! ### Doorbells, votes, commit, refusal and HOLD (R25 to R27, R270 to R272, R358 to R364, R396 to R399) -/

/-- Doorbells (R26, R259, R362, R396 to R399). STEP_DOORBELL: in D3hot an Unsupported Request and nothing else; the target of
the step in progress or latched is counted as a duplicate; the next step's is latched with LAST_TARGET; any other is
refused as SKEW with DB_REFUSED. DOORBELL_START: what stands against a due doorbell refuses it with the lowest reason of
R399, its codes raised and nothing latched; otherwise controls, batch slot and marks are latched and the attempt starts, on
the first doorbell after a ledger load and on one in HOLD after the retirements (R370). -/
def Obligations.DoorbellsComplete : Prop :=
  ∀ (s : State) (v : Word),
    (s.crosses (.stepDoorbell v) = true → linkStream ∉ s.host.insecure →
    (s.host.d3 = true → exec (.stepDoorbell v) s = .next { s with unsupported := true }) ∧
    (s.host.d3 = false →
      let u : State := { s with unsupported := false }
      ((∃ c, s.job.current = some c ∧ c % 2 ^ 24 = dbTarget v) ∨ (∃ d, s.job.doorbell = some d ∧ dbTarget d = dbTarget v) →
        exec (.stepDoorbell v) s = .next (u.fcount .HOST_COUNT_DB_DUPLICATES 1)) ∧
      (s.job.current = none → s.job.doorbell = none → s.fget .RECOVERY_STATUS_STATE ≠ 3 →
        (dbTarget v = (s.job.stepCounter + 1) % 2 ^ 24 →
          ∃ t, exec (.stepDoorbell v) s = .next t ∧ t.job = { s.job with
              doorbell := some v, protNext := some (s.slotBase (dbSlot v), s.dval 0x3300 3 0) } ∧
            t.fget .DOORBELL_STATUS_LAST_TARGET = dbTarget v ∧ t.fget .HOST_STATUS_LATCHED = 1 ∧ t.mem = s.mem ∧
            t.cores = s.cores) ∧
        (dbTarget v ≠ (s.job.stepCounter + 1) % 2 ^ 24 →
          ∃ t, exec (.stepDoorbell v) s = .next t ∧ t.job = s.job ∧ t.fget .DOORBELL_STATUS_REFUSE_REASON = 1 ∧
            t.fget .HOST_EVENT_DB_REFUSED = 1 ∧ t.mem = s.mem)))) ∧
    (s.crosses .doorbellStart = true → s.job.doorbell = some v → s.doorbellWaits = false →
      (∀ r cs, s.doorbellFault v = some (r, cs) →
        exec .doorbellStart s = .next (((cs.foldl (fun u c => u.raiseS c) s).dropDoorbell).refuseDoorbell r)) ∧
      (s.doorbellFault v = none →
        exec .doorbellStart s = .next
          (let u : State := { s.latchControls v with ledger := { s.ledger with firstDoorbell := false } }
           if s.ledger.firstDoorbell || decide (s.fget .RECOVERY_STATUS_STATE = 2) then u.startOrRetire else u.beginAttempt)) ∧
      (s.doorbellFault v = none → s.ledger.firstDoorbell = false → s.fget .RECOVERY_STATUS_STATE ≠ 2 → s.exch.early = [] → s.fab.held = [] →
        ∃ t, exec .doorbellStart s = .next t ∧ t.fget .RECOVERY_STATUS_STATE = 1 ∧ t.fget .COMMIT_STATUS_PHASE = 1 ∧
          t.job.current = some (s.job.stepCounter + 1) ∧ t.job.doorbell = none ∧ t.job.controls = s.currentControls ∧
          t.fget .RECOVERY_STATUS_REFUSALS = 0 ∧
          (∀ c, c ∈ s.planCores → t.seqState c = 1 ∧ t.fget .SEQ_ENTRY_NEXT c = 0 ∧
            (∀ k, k < 64 → t.fget .TOKEN_COUNT c k = 0))))

/-- The vote of a module (R270, R332, R358, R359): COMMIT_CHECK builds the scale history, judges NV and the written blocks and
votes; a child's COMMIT_UP is kept, and lets a waiting vote go up; COMMIT_DOWN decides: a differing digest refuses with
CONTROL_SKEW, PASS commits, anything else refuses; EARLY_STOP_VOTE votes FAIL; without a result VOTE_LOST is entered. -/
def Obligations.CommitVotesComplete : Prop :=
  ∀ s : State, s.flows hubClk = true → s.running = true →
    (s.fget .COMMIT_STATUS_PHASE = 1 → s.job.stopped = false → s.planCores.all s.atCommit = true → s.exchangeOver = true →
      s.updatesIdle = true →
      let a := ((s.fset .COMMIT_STATUS_PHASE 2).buildScales).stickyCheck
      let b := if a.allWritten then a else a.raiseIn .ledgerIncomplete none
      exec .commitCheck s = .next (b.vote b.checksPass)) ∧
    (∀ child v, laterKey s.curKey (v.step, v.attempt) = false →
      exec (.commitUp child v) s = .next (s.keepUp 0 child v).tryVote) ∧
    (∀ child v, laterKey s.curKey (v.step, v.attempt) = false → s.job.voteOwn = none →
      ∃ t, exec (.commitUp child v) s = .next t ∧ (0, child, v) ∈ t.job.ups ∧ t.regs = s.regs ∧ t.mem = s.mem ∧
        t.netOut = s.netOut) ∧
    (∀ v, (v.step, v.attempt) = s.curKey → s.job.voteSent = true →
      exec (.commitDown v) s = .next
        (if v.digestDiffer then ((s.toChildren 1 v).raiseIn .controlSkew none).refuse false
         else if v.pass then (s.toChildren 1 v).commit else (s.toChildren 1 v).refuse false)) ∧
    (s.job.stopped = true → s.job.voteOwn = none → s.tokenTimeout ≠ 0 →
      exec .earlyStopVote s = .next (((s.fset .COMMIT_STATUS_PHASE 2).stickyCheck).vote false)) ∧
    (s.job.voteSent = true → s.tokenTimeout ≠ 0 →
      ∃ t, exec .voteLost s = .next t ∧ t.fget .RECOVERY_STATUS_STATE = 3 ∧ t.fget .COMMIT_STATUS_PHASE = 3 ∧
        t.fget .COMMIT_STATUS_VOTE_LOST = 1 ∧ t.fget .HOST_EVENT_VOTE_LOST = 1 ∧ t.job.doorbell = none ∧ t.mem = s.mem ∧
        t.ledger = s.ledger ∧ t.job.stepCounter = s.job.stepCounter)

/-- The norm vote (R265, R266, R332): a child's NORM_UP is kept and the module's vote goes up once every child's is in and
every block is held; NORM_DOWN goes on to the children and sets the clip factor from the total; without a total
EXCHANGE_TIMEOUT is raised and the attempt has no total. -/
def Obligations.NormVotesComplete : Prop :=
  ∀ s : State, s.flows hubClk = true → s.running = true →
    (∀ child v, exec (.normUp child v) s = .next (s.keepUp 2 child v).normVote) ∧
    (∀ child v, laterKey s.curKey (v.step, v.attempt) = false → s.upd.held < s.exch.blocks →
      ∃ t, exec (.normUp child v) s = .next t ∧ (2, child, v) ∈ t.job.ups ∧ t.netOut = s.netOut ∧ t.regs = s.regs) ∧
    (∀ v, (v.step, v.attempt) = s.curKey → s.upd.normSent = true → s.job.clipKnown = false → s.job.normLost = false →
      exec (.normDown v) s = .next ((s.toChildren 3 v).takeNorm v.sum) ∧
      (s.job.controls.clipMode ≠ 2 → ∃ t, exec (.normDown v) s = .next t ∧ t.job = { s.job with clipKnown := true })) ∧
    (s.upd.normSent = true → s.job.clipKnown = false → s.job.normLost = false → s.tokenTimeout ≠ 0 →
      exec .normTotalTimeout s = .next
        { s.raiseIn .exchangeTimeout none with job := { s.job with normLost := true } })

/-- A commit ends the step with the other page committed; a refusal leaves page and step counter and goes to the next attempt
(R250, R270, R271, R360). VoteResolve in VOTE_LOST gives both results, the refusal with HOLD (R364). Entries latched in the
step, and uncorrectable words, are left out of this statement. -/
def Obligations.VoteResolveDecidesTheStep : Prop :=
  ∀ (s : State) (p : DPath), s.fget .RECOVERY_STATUS_STATE = 3 → s.pendingDict = [] → s.memBad = [] →
    s.ledger.page ≤ 1 →
    (s.pathMay p (.voteResolveCommit p) → ∃ t, exec (.voteResolveCommit p) s = .next t ∧ t.job.stepCounter = s.job.stepCounter + 1 ∧
      t.ledger.page = 1 - s.ledger.page ∧ t.job.attempt = 0 ∧ t.fget .COMMIT_STATUS_PHASE = 5 ∧
      t.fget .RECOVERY_STATUS_STATE = 1 ∧ t.fget .RECOVERY_STATUS_REFUSALS = 0 ∧ t.fget .COMMIT_STATUS_LAST_REFUSED = 0 ∧
      t.fget .HOST_EVENT_RESULT = 1 ∧ t.fget .RESULT_LATEST_PAGE = (s.job.stepCounter + 1) % 4) ∧
    (s.pathMay p (.voteResolveRefuse p) → ∃ t, exec (.voteResolveRefuse p) s = .next t ∧ t.job.stepCounter = s.job.stepCounter ∧ t.ledger = s.ledger ∧
      t.job.attempt = s.job.attempt ∧ t.job.toHold = true ∧ t.fget .COMMIT_STATUS_PHASE = 6 ∧
      t.fget .RECOVERY_STATUS_STATE = 1 ∧ t.fget .COMMIT_STATUS_LAST_REFUSED = 1 ∧
      t.fget .RECOVERY_STATUS_REFUSALS = min 65535 (s.fget .RECOVERY_STATUS_REFUSALS + 1) ∧ t.mem = s.mem)

/-- The end of a step and HOLD (R26, R227, R361 to R363, R371): PHASE7_END after a commit leaves RUNNING for the state 0;
after a refusal without retirements it starts the next attempt, or enters HOLD with its event and count; the end of a
retirement's bank writes starts the attempt that waited; HoldRequest refuses the attempt before its vote and waits for
the result after it. -/
def Obligations.StepEndsAndHolds : Prop :=
  ∀ s : State, s.fget .RECOVERY_STATUS_STATE = 1 →
    (s.crosses .phase7End = true → s.fget .COMMIT_STATUS_PHASE = 5 → s.job.epilogue = [] → s.phys.retiring = [] →
      exec .phase7End s = .next
        (({ s with job := { s.job with current := none, afterCommit := false } }.stepState 0 0).afterStep)) ∧
    (s.crosses .phase7End = true → s.fget .COMMIT_STATUS_PHASE = 6 → s.job.epilogue = [] → s.phys.retiring = [] → s.phys.pendingCores = [] →
      s.phys.pendingEngines = [] → s.job.toHold = true → s.pendingDict = [] → s.loadPending = false →
      ∃ t, exec .phase7End s = .next t ∧ t.fget .RECOVERY_STATUS_STATE = 2 ∧ t.fget .COMMIT_STATUS_PHASE = 0 ∧
        t.fget .HOST_EVENT_HOLD = 1 ∧ t.job.current = none ∧ t.mem = s.mem) ∧
    (s.crosses .retirementWritesEnd = true → s.fget .COMMIT_STATUS_PHASE = 6 → s.phys.retiring ≠ [] → s.rewriting = false →
      let u : State := { s with phys := { s.phys with retiring := [] } }
      exec .retirementWritesEnd s = .next
        (if s.job.replayDue then u.nextOrHold else if s.job.toHold then u.enterHold else u.beginAttempt)) ∧
    (∀ p, s.pathMay p (.holdRequest p 1) → s.fget .COMMIT_STATUS_PHASE < 4 →
      exec (.holdRequest p 1) s = .next
        ((if s.job.voteSent then { s with job := { s.job with holdAfterVote := true } } else s.refuse true).okReply
          p 0x3200 2 [1] 1))
/-! ### Loads (R53, R222 to R225, R243 to R248, R289, R294, R322, R330, R333) -/

/-- Ledger loads (R248): BUSY between doorbell and commit; the status of the first failed test; otherwise PENDING, and the
end of an AS_IS load puts the ledger in force with its step counter and status 1. -/
def Obligations.LedgerLoadsComplete : Prop :=
  ∀ (s : State) (p : DPath) (mode : Nat) (i : Instr),
    (mode = 1 ∧ i = .ledgerLoadAsIs p) ∨ (mode = 2 ∧ i = .ledgerLoadRebuildCells p) ∨ (mode = 3 ∧ i = .ledgerLoadFresh p) →
    (s.pathMay p i →
      (s.inStep = true → exec i s = .next ((s.setDval 0x2300 5 0x14).okReply p 0x2300 3 (bytesOf 1 mode) 1)) ∧
      (s.inStep = false → exec i s = .next (
        match s.readLedger (s.dval 0x2300 4 0) (s.dval 0x2300 1 0) (s.dval 0x2300 2 0) with
        | .error c => (s.setDval 0x2300 5 c).okReply p 0x2300 3 (bytesOf 1 mode) 1
        | .ok _ => State.okReply { s.setDval 0x2300 5 2 with ledger :=
            { s.ledger with loading := some (mode, s.dval 0x2300 4 0, s.dval 0x2300 1 0, s.dval 0x2300 2 0) } }
            p 0x2300 3 (bytesOf 1 mode) 1))) ∧
    (∀ page b0 b1, s.crosses .ledgerLoadComplete = true → s.ledger.loading = some (mode, page, b0, b1) → s.inStep = false →
      s.job.epilogue = [] → mode = 1 → s.memBad = [] → s.plan.loaded = false →
      match State.readLedger { s with ledger := { s.ledger with loading := none } } page b0 b1 with
      | .error c => exec .ledgerLoadComplete s = .next
          (State.setDval { s with ledger := { s.ledger with loading := none } } 0x2300 5 c)
      | .ok l => ∃ t, exec .ledgerLoadComplete s = .next t ∧ t.ledger = { l with firstDoorbell := true } ∧
          t.dval 0x2300 5 0 = 1 ∧ t.job.stepCounter = fieldAt (s.load (if page = 0 then b0 else b1) 256) 8 8 ∧
          t.job.attempt = 0 ∧ t.exch.coldLoad = false ∧ t.cores = s.cores)

/-- Plan loads and the tables (R224, R225, R294, R322, R330, R333): in a step the load is latched with status PENDING;
otherwise it runs, TIMETABLE_LOAD until its completion, which puts the plan in force or shows the first failed test. -/
def Obligations.PlanAndTableLoadsComplete : Prop :=
  ∀ (s : State) (p : DPath),
    (s.pathMay p (.timetableLoad p) → let u := s.setDval 0x2200 3 2
     exec (.timetableLoad p) s = .next (State.okReply
       (if s.inStep then { u with plan := { u.plan with latched := true } } else { u with plan := { u.plan with loading := true } })
       p 0x2200 2 [1] 1)) ∧
    (s.pathMay p (.reductionLoad p) → exec (.reductionLoad p) s = .next (State.okReply
      (if s.inStep then { s.setDval 0x2400 3 2 with exch := { s.exch with latched := true } } else s.runReduction)
      p 0x2400 2 [1] 1)) ∧
    (s.pathMay p (.ringLoad p) → exec (.ringLoad p) s = .next (State.okReply
      (if s.inStep then { s.setDval 0x6005 3 2 with rings := { s.rings with latched := true } } else s.runRings)
      p 0x6005 2 [1] 1)) ∧
    (s.pathMay p (.itineraryLoad p) → exec (.itineraryLoad p) s = .next (State.okReply
      (if s.inStep then { s.setDval 0x6007 3 2 with itin := { s.itin with latched := true } } else s.runItinerary)
      p 0x6007 2 [1] 1)) ∧
    (s.exch.latched = false → match s.readReduction (s.dval 0x2400 1 0) with
      | .error c => s.runReduction = s.setDval 0x2400 3 c
      | .ok (x, _) => s.runReduction.exch = x ∧ s.runReduction.dval 0x2400 3 0 = 1 ∧ s.runReduction.dval 0x2400 4 0 = x.id) ∧
    (s.crosses .timetableLoadComplete = true → s.plan.loading = true → s.inStep = false → s.job.epilogue = [] →
      let u : State := { s with plan := { s.plan with loading := false } }
      exec .timetableLoadComplete s = .next (
        match u.readPlan (s.dval 0x2200 1 0) with
        | .error c => u.setDval 0x2200 3 c
        | .ok (x, hs, spans) => (u.setDval 0x2200 3 1).applyPlan x hs spans)) ∧
    (s.pathMay p (.scaleHistoryReset p) → exec (.scaleHistoryReset p) s = .next
      (State.okReply { s with job := { s.job with coldAllPending := true } } p 0x4000 3 [1] 1)) ∧
    (s.pathMay p (.exchangeHistoryReset p) → exec (.exchangeHistoryReset p) s = .next
      (State.okReply { s with exch := { s.exch with resetDue := true } } p 0x4007 1 [1] 1)) ∧
    (∀ data, s.pathMay p (.routingTableWrite p data) → data.length = 65536 →
      (s.inStep = false → routingBad s.address data = false →
        exec (.routingTableWrite p data) s = .next (State.okReply
          { s.setDval 0x6004 2 1 with doms := s.doms.put (dkey 0x6004 1) data, fab := { s.fab with ups := [] } }
          p 0x6004 1 data 65536)) ∧
      (s.inStep = true →
        exec (.routingTableWrite p data) s = .next (State.okReply (latchDict (s.setDval 0x6004 2 2) (dkey 0x6004 1) data)
          p 0x6004 1 data (s.dom 0x6004 1 (routingDefault s.address)).length)))

/-! ### Travellers (R232 to R235, R334 to R343) -/

/-- ROUTE, RETURN and caravans (R233, R235, R319, R335, R340, R341): a ROUTE of a ready core whose layer is open hands its
travellers over and otherwise waits in the queue; a RETURN of a slot sends its row to the source; caravans of the current
attempt are taken, of a later one held, of an earlier one discarded and counted. -/
def Obligations.TravellerCommandsComplete : Prop :=
  ∀ (s : State) (k : Nat) (m : Cmn),
    let no := s.fget .SEQ_ENTRY_NEXT k
    (∀ f h, s.ready k m (.route f) → (s.core k).hdr = some h → h.returnToken ≠ 255 →
      f.retrow + (f.k + 1) * (f.ntok + 1) ≤ 65536 →
      (f.retrow + (f.k + 1) * (f.ntok + 1)) * (32 * (f.roww + 1)) ≤ h.returnHalf → f.rows % 32 = 0 →
      inLarder f.choices (32 * (f.ntok + 1)) = true → inLarder f.rows (32 * (f.roww + 1) * (f.ntok + 1)) = true →
      (s.routeReady f.layer = true → exec (.route k m f) s = .next
        (((((s.counted k).enqueue k 5 { no := no, entry := .route f, c := m, started := true, sent := true }).handRoute k f).takeWaiting
          f.layer).advance k)) ∧
      (s.routeReady f.layer = false → exec (.route k m f) s = .next
        (((s.counted k).enqueue k 5 { no := no, entry := .route f, c := m, started := true, sent := false }).advance k))) ∧
    (∀ f e cp x t, s.ready k m (.ret f) → mappedRange (s.effAddr f.src) (32 * (f.roww + 1)) = true → f.nslot = 0 →
      s.memBad = [] → s.innOf f.layer k = some (e, cp) →
      ((s.tlayer f.layer).accepted.find? fun (a : Accepted) =>
        a.expert = e ∧ a.copy = cp ∧ a.slot = f.firstslot ∧ a.live.isSome) = some x → x.live = some t →
      let r : ReturnRow := ⟨s.address, t.srcCore, t.returnRow, f.layer, choiceAt x.t x.t.round, cp, x.slot,
        s.load (s.effAddr f.src) (32 * (f.roww + 1))⟩
      let q := ((s.counted k).enqueue k 5 { no := no, entry := .ret f, c := m, started := true, sent := true }).modLayer f.layer
        fun x => { x with retWords := some (f.roww + 1) }
      let u := q.sendReturn f.layer t.srcModule r
      let u := if f.flush then u.modLayer f.layer fun x => { x with innFlush := k :: x.innFlush } else u
      exec (.ret k m f) s = .next (((u.endReturns f.layer).takeWaiting f.layer).advance k)) ∧
    (∀ c : CaravanOut, s.crosses (.caravanOutbound c) = true →
      ((c.step, c.attempt) = s.curKey → s.running = true →
        exec (.caravanOutbound c) s = .next (if c.checkOk then (s.takeCaravan c).takeWaiting c.layer
          else s.raiseIn .frameLoss none)) ∧
      ((c.step, c.attempt) ≠ s.curKey → laterKey (c.step, c.attempt) s.curKey = true →
        exec (.caravanOutbound c) s = .next { s with fab := { s.fab with held := s.fab.held ++ [(c.srcModule, .caravanOut c)] } }) ∧
      ((c.step, c.attempt) ≠ s.curKey → laterKey (c.step, c.attempt) s.curKey = false →
        exec (.caravanOutbound c) s = .next (s.fcount .FABRIC_COUNT1_STALE_MSGS 1))) ∧
    (∀ c : CaravanRet, s.crosses (.caravanReturn c) = true →
      ((c.step, c.attempt) = s.curKey → s.running = true →
        exec (.caravanReturn c) s = .next (if c.checkOk then s.acceptRet c else s.raiseIn .frameLoss none)) ∧
      ((c.step, c.attempt) ≠ s.curKey → laterKey (c.step, c.attempt) s.curKey = true →
        exec (.caravanReturn c) s = .next { s with fab := { s.fab with held := s.fab.held ++ [(c.srcModule, .caravanRet c)] } }) ∧
      ((c.step, c.attempt) ≠ s.curKey → laterKey (c.step, c.attempt) s.curKey = false →
        exec (.caravanReturn c) s = .next (s.fcount .FABRIC_COUNT1_STALE_MSGS 1)))

/-- Acceptance of a round (R337, R338): sorting keeps exactly the travellers given, smallest key first; of the travellers
that try an expert of this module the first are accepted, never more than its copies' capacity less what it has already
taken, and the others are refused. -/
def Obligations.AcceptanceKeepsKeysAndCapacity : Prop :=
  (∀ (s : State) (ts : List Traveller),
    (s.sortKey id ts).length = ts.length ∧ (∀ t, t ∈ s.sortKey id ts ↔ t ∈ ts) ∧
    (s.sortKey id ts).Pairwise fun a b => keyLt (s.travKey b) (s.travKey a) = false) ∧
  ∀ (s : State) (l j e : Nat) (x : Expert), (s.ilayer l).experts[e]? = some x → x.owner = s.address →
    let mine := s.sortKey id ((((s.tlayer l).pool).filter (·.round = j)).filter fun t => expertAt t (s.ilayer l).rounds j = some e)
    let room := x.cores.length * x.capacity - ((s.tlayer l).accepted.filter (·.expert = e)).length
    ((s.decideRound l j).1.filter (·.expert = e)).map (·.t) = mine.take room ∧
    ((s.decideRound l j).1.filter (·.expert = e)).length ≤ room ∧
    ∀ t ∈ mine.drop room, t ∈ (s.decideRound l j).2
/-! ### The fabric (R309 to R332) -/

/-- Lanes (R310 to R315, R457), while the hub's clock runs: training starts on a DOWN lane with the reference present and the
lane enabled, counts and clears BOND_MISMATCH; its end publishes the far end and brings an unbonded lane UP, an idle spare to
SPARE, a spare that stands in for a port UP when the neighbour has substituted too; of a bonded pair the first lane waits, and
the second brings both UP, or both DOWN with BOND_MISMATCH; a training that fails leaves the lane DOWN, FAILED at the third
failure in a row; lock loss takes a trained lane DOWN; a bonded pair with one failed lane retrains on the other as UP_HALF. A
codeword that decodes is descrambled and taken, with its link credits, and one with corrected symbols is counted; an
uncorrectable one is counted, or merged into a count still in flight (the model's choice, log entry 114). The reference's loss
takes every lane DOWN that is neither OFF nor FAILED. -/
def Obligations.LaneCommandsComplete : Prop :=
  ∀ (s : State) (l : Nat), l < 12 →
    (s.flows hubClk = true →
      (s.laneState l = 0 → s.fon .CLK_STATUS_FABRIC_REF = true → bit (s.dval 0x6001 2 0x0FFF) l = true →
        ∃ t, exec (.laneTrainingStart l) s = .next t ∧ t.laneState l = 1 ∧ t.fget .PORT_STATUS_BOND_MISMATCH 0 l = 0 ∧
          t.fget .PORT_STATUS_BONDED 0 l = b2n (l < 10 && bit (s.dval 0x6001 1 0) (l / 2)) ∧
          t.fget .PORT_ERR_RETRAINS 0 l = min 15 (s.fget .PORT_ERR_RETRAINS 0 l + 1) ∧
          (∀ k, k < 12 → k ≠ l → t.laneState k = s.laneState k) ∧ t.mem = s.mem) ∧
      (∀ n : Neighbour, s.laneState l = 1 →
        ∃ t, exec (.laneTrainingEnd l (some n)) s = .next t ∧ t.fget .PORT_STATUS_NEIGHBOUR_VALID 0 l = 1 ∧
          t.fget .PORT_STATUS_NEIGHBOUR_PORT 0 l = n.lane % 16 ∧ t.fget .PORT_STATUS_NEIGHBOUR_ADDR 0 l = n.addr % 65536 ∧
          (t.lane l).far = some n ∧ (t.lane l).fails = 0 ∧
          (l < 10 → s.fon .PORT_STATUS_BONDED 0 l = false → t.laneState l = 2 ∧ (t.lane l).credits = freshCredits ∧
            ∀ k, k < 12 → k ≠ l → t.laneState k = s.laneState k) ∧
          (10 ≤ l → s.fget .PORT_STATUS_STANDS_FOR 0 l = 15 → t.laneState l = 5) ∧
          (10 ≤ l → s.fget .PORT_STATUS_STANDS_FOR 0 l < 10 →
            t.laneState l = if s.matching (s.fget .PORT_STATUS_STANDS_FOR 0 l) n then 2 else 0) ∧
          (∀ o, l < 10 → s.fon .PORT_STATUS_BONDED 0 l = true → o = (if l % 2 = 0 then l + 1 else l - 1) →
            ((s.lane o).ready = false → t.laneState l = 1 ∧ t.laneState o = s.laneState o) ∧
            (∀ m, (s.lane o).far = some m → (s.lane o).ready = true → 1 ≤ s.laneState o → s.laneState o ≤ 3 →
              (sameBond n m = true → t.laneState l = 2 ∧ t.laneState o = 2) ∧
              (sameBond n m = false → t.laneState l = 0 ∧ t.laneState o = 0 ∧ t.fget .PORT_STATUS_BOND_MISMATCH 0 l = 1 ∧
                t.fget .PORT_STATUS_BOND_MISMATCH 0 o = 1)))) ∧
      (s.laneState l = 1 → (s.lane l).fails < 2 →
        ∃ t, exec (.laneTrainingEnd l none) s = .next t ∧ t.laneState l = 0 ∧ (t.lane l).fails = (s.lane l).fails + 1) ∧
      (s.laneState l = 1 → 2 ≤ (s.lane l).fails →
        ∃ t, exec (.laneTrainingEnd l none) s = .next t ∧ t.laneState l = 4 ∧ t.log.sequence = (s.log.sequence + 1) % 2 ^ 32 ∧
          t.faults.counts.get Code.laneFailed.number 0 = min 0xFFFFFFFF (s.faults.counts.get Code.laneFailed.number 0 + 1)) ∧
      (s.laneState l = 2 ∨ s.laneState l = 3 ∨ s.laneState l = 5 →
        (∃ t, exec (.codewordLockLoss l) s = .next t ∧ t.laneState l = 0 ∧ (t.lane (s.joined l)).rx = []) ∧
        (∀ cw data n, rsDecode cw.symbols = some (data, n) →
          let d := lineDecode data (s.lane l).rxScr
          let u := s.rxAdvance l
          exec (.codewordReceive l cw) s = .next ((if n = 0 then u else u.countCorrected l).takeLine l d) ∧
          (n = 0 → (∀ w ∈ d.words, w.1 = 0) → (s.lane (s.joined l)).started = false →
            ∃ t, exec (.codewordReceive l cw) s = .next t ∧ t.regs = s.regs ∧ t.fab.transit = s.fab.transit ∧
              (t.lane (s.joined l)).credits =
                d.credits.foldl (fun m c => m.put c.1 (m.get c.1 0 + c.2)) (s.lane (s.joined l)).credits)) ∧
        (∀ cw, rsDecode cw.symbols = none → (s.lane (s.joined l)).started = false → (s.lane l).unc < 16 →
          ∃ t, exec (.codewordReceive l cw) s = .next t ∧ t.laneState l = s.laneState l ∧ (t.lane l).unc = (s.lane l).unc + 1 ∧
            (t.fget .PORT_ERR_UNCORRECTED 0 l = min 255 (s.fget .PORT_ERR_UNCORRECTED 0 l + 1) ∨
              t.fget .PORT_ERR_UNCORRECTED 0 l = s.fget .PORT_ERR_UNCORRECTED 0 l))) ∧
      (∀ pair, l = 2 * pair → pair < 5 → s.fon .PORT_STATUS_BONDED 0 l = true → s.laneState l = 2 → s.laneState (l + 1) = 2 →
        (∃ t, exec (.bondRetrain pair l) s = .next t ∧ t.laneState l = 0 ∧ t.laneState (l + 1) = 3) ∧
        (∃ t, exec (.bondRetrain pair (l + 1)) s = .next t ∧ t.laneState l = 3 ∧ t.laneState (l + 1) = 0))) ∧
    (∃ t, exec .fabricRefLoss s = .next t ∧ t.fget .CLK_STATUS_FABRIC_REF = 0 ∧
      t.laneState l = (if s.laneState l = 4 ∨ s.laneState l = 6 then s.laneState l else 0)) ∧
    exec .fabricRefReturn s = .next (s.fset .CLK_STATUS_FABRIC_REF 1)

/-- Frames (R316 to R324, R326), while the hub's clock runs: a port sends the frame that waits for it when it holds a link
credit, and IDLE words where nothing waits; a frame for another module goes on with its hop limit one lower, and is counted
and dropped where the limit ends or no route leads; a source-routed one goes on by the next lane of its path, or is dropped
where that lane is down; a frame for this module that breaks R316 is counted, a good one of a connection takes its place in
its message; the next message of a class is delivered once complete, and an incomplete one below a complete one is lost. -/
def Obligations.FrameCommandsComplete : Prop :=
  ∀ s : State, s.flows hubClk = true →
    (∀ port x, s.netOut = [] → s.fab.tx = [] → s.fab.transit = [x] → s.portUp port = true → x.out = port → x.f.cls ≤ 8 →
      s.linkCredit port x.f.cls = true →
      ∃ t, exec (.frameTransmit port) s = .next t ∧ t.fab.wire = s.fab.wire ++ [(s.carrier port, x.f)] ∧ t.fab.transit = [] ∧
        t.regs = s.regs ∧ t.mem = s.mem ∧ t.fab.ctxs = s.fab.ctxs) ∧
    (∀ port, s.netOut = [] → s.fab.tx = [] → s.fab.transit = [] →
      exec (.frameTransmit port) s = .next (if s.portUp port then s.putWords port [] else s)) ∧
    (∀ lane f, s.laneUp lane = true → s.isMine f = false → f.sroute = false → s.address ≠ 0xFFFF →
      (f.hopLimit < 2 → exec (.frameForward lane f) s = .next ((s.owe lane f.cls).fcount .FABRIC_COUNT0_HOP_EXPIRED 1)) ∧
      (2 ≤ f.hopLimit → s.routeTo f.dest = none →
        exec (.frameForward lane f) s = .next ((s.owe lane f.cls).fcount .FABRIC_COUNT0_NO_ROUTE_FRAMES 1)) ∧
      (∀ p, 2 ≤ f.hopLimit → s.routeTo f.dest = some p →
        ∃ t, exec (.frameForward lane f) s = .next t ∧
          t.fab.transit = s.fab.transit ++ [⟨lane, p, { f with hopLimit := f.hopLimit - 1 }⟩] ∧ t.regs = s.regs)) ∧
    (∀ lane f, s.laneUp lane = true → s.isMine f = false → f.sroute = true → s.address ≠ 0xFFFF ∨ f.cls ≤ 1 ∨ f.cls = 5 →
      let p := markReply lane f.payload
      let l := fieldAt p (2 + fieldAt p 1 1) 1
      exec (.frameForward lane f) s = .next (if s.laneUp l then
        { s with fab := { s.fab with transit := s.fab.transit ++
          [⟨lane, s.portOf l, { f with payload := putByte p 1 (fieldAt p 1 1 + 1) }⟩] } } else s.owe lane f.cls)) ∧
    (∀ lane f, s.laneUp lane = true → s.isMine f = true → f.cls ≠ 0 →
      (s.frameGood f = false → s.fab.ctxs.find? f.context = none →
        exec (.frameReceive lane f) s = .next ((s.owe lane f.cls).fcount .FABRIC_COUNT1_BAD_FRAMES 1)) ∧
      (∀ c, s.frameGood f = true → f.sroute = false → connClass f.cls = true → s.fab.ctxs.find? f.context = some c →
        c.peer = f.src → behind (c.seqRx.get f.cls 0) f.msgSeq = false →
        (boundClass f.cls && laterKey s.curKey (s.frameKey f)) = false → (c.msg f.cls f.msgSeq).skip = false →
        (c.msg f.cls f.msgSeq).parts.find? f.frameIndex = none →
        let x := c.msg f.cls f.msgSeq
        let y : RxMsg := { x with
          parts := x.parts.put f.frameIndex f.payload, last := if f.last then some f.frameIndex else x.last
          step := (s.frameKey f).1, attempt := (s.frameKey f).2 }
        let u := (s.owe lane f.cls).setCtx f.context (c.setMsg y)
        exec (.frameReceive lane f) s = .next
          (if f.cls < 6 then u else u.toPool (u.dval 0x6008 1 0) (u.dval 0x6008 2 0) f.payload))) ∧
    (∀ n cls c, connClass cls = true → s.fab.ctxs.find? n = some c →
      let x := c.msg cls (c.seqRx.get cls 0)
      x.skip = false → (boundClass cls && x.parts ≠ [] && laterKey s.curKey (x.step, x.attempt)) = false →
      (s.mayDeliver c.peer x = true → exec (.messageDeliver n cls) s = .next ((s.passMsg n x).deliver c.peer x)) ∧
      (s.mayDeliver c.peer x = false → exec (.messageDeliver n cls) s = .next s) ∧
      (∀ y, c.seqRx.get cls 0 < 2 ^ 32 → x.complete = false → x.parts ≠ [] → y ∈ c.rx → y.cls = cls → y.complete = true →
        behind ((c.seqRx.get cls 0 + 1) % 2 ^ 32) y.seq = false →
        let u := (((s.setCtx n (c.setMsg { cls := cls, seq := x.seq, skip := true })).freeCredits n cls x.parts.length).snooped
          { source := 3, channel := cls, peer := c.peer } 0 (some x.seq) [] true)
        exec (.frameLoss n cls) s = .next (
          if !boundClass cls then u.countCode .frameLoss
          else if (x.step, x.attempt) = s.curKey then (if s.running then u.raiseIn .frameLoss none else u.countCode .frameLoss)
          else u.raiseAfter .frameLoss none)))

/-- Connections and credits (R325, R327), in every state in which the hub's clock runs. OPEN is answered with the credits
granted, at least one in each class, or with REFUSED when no context is free; from a peer that has a context it is answered
from that one (the model's choice, log entry 54). OPEN_ACK opens an OPENING context, which grants its own credits unless it
has; REFUSED leaves it OPENING; CLOSE frees the context and is acknowledged; CLOSE_ACK and the closing timeout free a CLOSING
one; CREDIT adds; the retry sends OPEN again; an idle context sends CLOSE; the timer returns what has freed. In any other
state of the context, and without one, each changes nothing, but for the answer to a CLOSE. -/
def Obligations.ConnectionCommandsComplete : Prop :=
  (∀ (s : State) (peer n : Nat),
    (s.flows hubClk = true → ∀ theirs, s.ctxOf peer = none → s.freeCtx = some n →
      let g := (s.setCtx n { peer := peer, theirs := theirs, state := 2 }).grant n
      exec (.connOpen peer theirs) s = .next (g.2.post peer (.connect kOpenAck n g.1))) ∧
    (s.flows hubClk = true → ∀ theirs, s.ctxOf peer = none → s.freeCtx = none →
      exec (.connOpen peer theirs) s = .next ((s.raiseS .contextFull).post peer (.connect kRefused theirs []))) ∧
    (s.flows hubClk = true → ∀ c, s.ctxOf peer = some (n, c) →
      (∀ theirs,
        let g := (s.setCtx n (if c.state = 3 then { peer := peer, theirs := theirs, state := 2 }
          else { c with theirs := theirs })).grant n
        exec (.connOpen peer theirs) s = .next (g.2.post peer (.connect kOpenAck n g.1))) ∧
      (∀ theirs cr, c.state = 1 →
        let u := s.setCtx n { c with
          theirs := theirs, state := 2, credits := (creditClasses.zip cr).foldl (fun m k => m.put k.1 k.2) c.credits }
        (c.granted ≠ [] → exec (.connOpenAck peer theirs cr) s = .next u) ∧
        (c.granted = [] → exec (.connOpenAck peer theirs cr) s = .next
          ((u.grant n).2.post peer (.connect kCredit n (u.grant n).1)))) ∧
      (∀ theirs cr, c.state ≠ 1 → exec (.connOpenAck peer theirs cr) s = .next s) ∧
      exec (.connRefused peer) s = .next (if c.state = 1 then s.setCtx n { c with theirs := 0xFFFF } else s) ∧
      exec (.connClose peer) s = .next ((s.closeCtx n).post peer (.connect kCloseAck c.theirs [])) ∧
      exec (.connCloseAck peer) s = .next (if c.state = 3 then s.closeCtx n else s) ∧
      (∀ cls k, exec (.connCredit peer cls k) s = .next (s.setCtx n { c with
        credits := c.credits.put cls (c.credits.get cls 0 + k), used := c.used.put cls (c.used.get cls 0 - k) }))) ∧
    (s.flows hubClk = true → s.ctxOf peer = none →
      exec (.connClose peer) s = .next (s.post peer (.connect kCloseAck 0xFFFF [])) ∧
      (∀ theirs cr, exec (.connOpenAck peer theirs cr) s = .next s) ∧ exec (.connRefused peer) s = .next s ∧
      exec (.connCloseAck peer) s = .next s ∧ ∀ cls k, exec (.connCredit peer cls k) s = .next s) ∧
    (s.flows hubClk = true → ∀ c, s.fab.ctxs.find? n = some c →
      exec (.openRetryTimeout n) s = .next (if c.state = 1 then s.post c.peer (.connect kOpen n []) else s) ∧
      exec (.contextIdleClose n) s = .next
        (if c.state = 2 ∧ s.trafficTo c.peer = false ∧ c.rx = [] ∧ (∀ u ∈ c.used, u.2 = 0) ∧ (∀ f ∈ c.freed, f.2 = 0) then
          (s.setCtx n { c with state := 3 }).post c.peer (.connect kClose n []) else s) ∧
      exec (.closingTimeout n) s = .next (if c.state = 3 then s.closeCtx n else s) ∧
      (∀ cls, exec (.creditReturnTimer n cls) s = .next (if c.freed.get cls 0 = 0 then s else
        (s.setCtx n { c with freed := c.freed.put cls 0 }).post c.peer (.connect kCredit n [(cls, c.freed.get cls 0)])))) ∧
    (s.flows hubClk = true → s.fab.ctxs.find? n = none →
      exec (.openRetryTimeout n) s = .next s ∧ exec (.contextIdleClose n) s = .next s ∧
      exec (.closingTimeout n) s = .next s ∧ ∀ cls, exec (.creditReturnTimer n cls) s = .next s)) ∧
  ∀ (s : State) (n : Nat),
    (s.closeCtx n).fab.ctxs.find? n = none ∧
    (∀ c, s.fab.ctxs.find? n = some c →
      (s.grant n).1.map Prod.fst = [3, 4, 5, 6, 7, 8] ∧ (∀ g ∈ (s.grant n).1, 1 ≤ g.2) ∧
      ∃ d, (s.grant n).2.fab.ctxs.find? n = some d ∧ d.peer = c.peer ∧ d.theirs = c.theirs ∧ d.state = c.state ∧
        ∀ g ∈ (s.grant n).1, d.granted.get g.1 0 = g.2)

/-- Discovery, the address and spares (R311 to R313, R320, R321), in every state in which the commands' clocks run. An IDENTIFY
is answered along the reversed reply path and a reply is handed on; FabricAddress changes outside a step and is refused with
STATE in one; FabricPortEnable turns a lane OFF, or DOWN again; a spare that R312 allows takes its port at once when no step
runs and is latched in one, and one that R312 does not allow is refused with STATE; a released spare leaves its port, whose
own lane trains again; the substitution before the next doorbell does what is latched. -/
def Obligations.DiscoveryAndSparesComplete : Prop :=
  ∀ (s : State) (p : DPath),
    (∀ lane reply, s.crosses (.identify lane reply) = true →
      exec (.identify lane reply) s = .next
        (if s.laneUp lane then s.post 0xFFFF (.srouted 1 (reply ++ [lane]).reverse s.identity) else s)) ∧
    (∀ lane body, s.crosses (.identifyReply lane body) = true →
      exec (.identifyReply lane body) s = .next (if s.laneUp lane ∧ fieldAt body 0 1 = 0x81 then
        { s with fab := { s.fab with replies := s.fab.replies ++ [(lane, body)] } } else s)) ∧
    (∀ v, s.pathMay p (.fabricAddressWrite p v) → v < 16384 ∨ v = 0xFFFF →
      (s.inStep = false →
        ∃ t : State, exec (.fabricAddressWrite p v) s = .next (t.okReply p 0x6000 1 (bytesOf 2 v) 2) ∧
          t.dval 0x6000 1 0xFFFF = v ∧ t.fget .FABRIC_STATUS_ADDRESS = v ∧
          t.fget .FABRIC_STATUS_ADDRESS_VALID = b2n (v ≠ 0xFFFF) ∧ t.mem = s.mem) ∧
      (s.inStep = true → exec (.fabricAddressWrite p v) s = .next (s.badReply p 0x6000 1 (bytesOf 2 v) 2 7))) ∧
    (∀ v l, s.pathMay p (.fabricPortEnable p v) → v < 4096 → l < 12 →
      ∃ t : State, exec (.fabricPortEnable p v) s = .next (t.okReply p 0x6001 2 (bytesOf 2 v) 2) ∧ t.dval 0x6001 2 0 = v ∧
        (bit v l = false → t.laneState l = 6) ∧
        (bit v l = true → s.laneState l = 6 → 10 ≤ l ∨ s.carrier l = l → t.laneState l = 0) ∧
        (bit v l = true → s.laneState l ≠ 6 → s.laneState l ≠ 4 → t.laneState l = s.laneState l)) ∧
    (∀ port spare, s.pathMay p (.spareRequestAssign p port spare) → port < 10 → spare < 2 →
      let u : State := { s with fab := { s.fab with spareReq := s.fab.spareReq ++ [(some port, spare)] } }
      (s.spareAllowed port spare = false →
        exec (.spareRequestAssign p port spare) s = .next (s.badReply p 0x6001 3 (bytesOf 1 (port + 16 * spare)) 1 7)) ∧
      (s.spareAllowed port spare = true →
        exec (.spareRequestAssign p port spare) s = .next
          (State.okReply (if s.job.current.isSome then u else u.substitute) p 0x6001 3 (bytesOf 1 (port + 16 * spare)) 1)) ∧
      (s.spareAllowed port spare = true → s.job.current = none → s.fab.spareReq = [] →
        ∃ t : State, exec (.spareRequestAssign p port spare) s = .next (t.okReply p 0x6001 3 (bytesOf 1 (port + 16 * spare)) 1) ∧
          t.fget .PORT_STATUS_STANDS_FOR 0 (10 + spare) = port ∧ t.laneState port = 6 ∧ t.fab.spareReq = [] ∧
          t.laneState (10 + spare) = (if bit (s.dval 0x6001 2 0x0FFF) (10 + spare) then 0 else 6))) ∧
    (∀ spare, s.pathMay p (.spareRequestRelease p spare) → spare < 2 →
      let u : State := { s with fab := { s.fab with spareReq := s.fab.spareReq ++ [(none, spare)] } }
      exec (.spareRequestRelease p spare) s = .next
        (State.okReply (if s.job.current.isSome then u else u.substitute) p 0x6001 3 (bytesOf 1 (128 + 16 * spare)) 1) ∧
      (s.job.current = none → s.fab.spareReq = [] →
        ∃ t : State, exec (.spareRequestRelease p spare) s = .next (t.okReply p 0x6001 3 (bytesOf 1 (128 + 16 * spare)) 1) ∧
          t.fget .PORT_STATUS_STANDS_FOR 0 (10 + spare) = 15 ∧
          ∀ o, o = s.fget .PORT_STATUS_STANDS_FOR 0 (10 + spare) → o < 10 → s.laneState o = 6 →
            t.laneState o = if bit (s.dval 0x6001 2 0x0FFF) o then 0 else 6)) ∧
    (s.crosses .spareSubstitution = true →
      exec .spareSubstitution s = .next (if s.job.current.isSome then s else s.substitute) ∧
      (s.job.current = none → s.fab.spareReq = [] → exec .spareSubstitution s = .next s) ∧
      (∀ port spare, s.job.current = none → s.fab.spareReq = [(some port, spare)] → port < 10 → spare < 2 →
        ∃ t : State, exec .spareSubstitution s = .next t ∧ t.fab.spareReq = [] ∧
          t.fget .PORT_STATUS_STANDS_FOR 0 (10 + spare) = port ∧ t.laneState port = 6))

/-! ### Mailboxes (R344 to R348, R408 to R412) -/

/-- Mailboxes (R344 to R346, R408 to R411), while the commands' clocks run. Fabric: a pushed word joins the queue; a bell sends
the queued words to the bound mailbox and shows BUSY; a message from the bound mailbox enters with its bells; a read pops the
oldest word, of an empty queue it sets RX_UNDERRUN; the TAKEN of the message that is BUSY ends it, another is ignored; an
abort drops what is queued; a message from another mailbox is counted. Host, from either side: a pushed word joins the
side's queue; in QUEUE mode a bell moves the queue to the other side with its bells and shows BUSY; a read pops the oldest
word, and the last of a message ends the sender's BUSY with TAKEN; in NOTICE mode RX_ACK does so; an abort drops the
queue. That a TAKEN names its message is the model's choice (log entry 107). -/
def Obligations.MailboxesComplete : Prop :=
  (∀ (s : State) (m : Nat), m < 16 →
    (s.fon .FMB_CFG_ENABLE 0 m = true →
      (∀ w, s.crosses (.fmbTxData m w) = true → s.fon .FMB_TX_STATUS_BUSY 0 m = false → (s.fmb m).tx.length < 16 →
        ∃ t, exec (.fmbTxData m w) s = .next t ∧ (t.fmb m).tx = (s.fmb m).tx ++ [w] ∧ (t.fmb m).rx = (s.fmb m).rx ∧
          t.fget .FMB_TX_STATUS_TX_LEVEL 0 m = (s.fmb m).tx.length + 1 ∧ t.netOut = s.netOut) ∧
      (∀ w, s.crosses (.fmbTxData m w) = true → s.fon .FMB_TX_STATUS_BUSY 0 m = true ∨ 16 ≤ (s.fmb m).tx.length →
        exec (.fmbTxData m w) s = .next (s.fset .FMB_TX_STATUS_TX_OVERRUN 1 0 m)) ∧
      (∀ b, s.crosses (.fmbTxBell m b) = true → s.fon .FMB_TX_STATUS_BUSY 0 m = false →
        ∃ t, exec (.fmbTxBell m b) s = .next t ∧ t.netOut = s.netOut ++ [(s.fget .FMB_CFG_REMOTE_ADDR 0 m,
            .mail m (s.fget .FMB_CFG_REMOTE_BOX 0 m) ((s.fmb m).sent + 1) b (s.fmb m).tx)] ∧
          t.fget .FMB_TX_STATUS_BUSY 0 m = 1 ∧ (t.fmb m).tx = [] ∧ (t.fmb m).sent = (s.fmb m).sent + 1 ∧
          t.fget .FMB_TX_STATUS_TX_LEVEL 0 m = 0) ∧
      (∀ b, s.crosses (.fmbTxBell m b) = true → s.fon .FMB_TX_STATUS_BUSY 0 m = true →
        exec (.fmbTxBell m b) s = .next (s.fset .FMB_TX_STATUS_TX_OVERRUN 1 0 m)) ∧
      (∀ src box k b w ws, s.crosses (.mailboxMessage src box m k b (w :: ws)) = true →
        src = s.fget .FMB_CFG_REMOTE_ADDR 0 m → box = s.fget .FMB_CFG_REMOTE_BOX 0 m →
        (w :: ws).length ≤ 16 → (s.fmb m).rx.length + (w :: ws).length ≤ 16 →
        ∃ t, exec (.mailboxMessage src box m k b (w :: ws)) s = .next t ∧
          (t.fmb m).rx = (s.fmb m).rx ++ w :: ws ∧ (t.fmb m).owes = (s.fmb m).owes ++ [((w :: ws).length, k)] ∧
          t.fget .FMB_RX_BELL_BELLS 0 m = s.fget .FMB_RX_BELL_BELLS 0 m ||| b.toNat ∧ t.netOut = s.netOut)) ∧
    (∀ src box k b ws, s.crosses (.mailboxMessage src box m k b ws) = true →
      s.fon .FMB_CFG_ENABLE 0 m = false ∨ src ≠ s.fget .FMB_CFG_REMOTE_ADDR 0 m ∨ box ≠ s.fget .FMB_CFG_REMOTE_BOX 0 m →
      exec (.mailboxMessage src box m k b ws) s = .next (s.fcount .TRAVEL_COUNT_REJECTS 1)) ∧
    (s.crosses (.fmbRxData m) = true →
      ((s.fmb m).rx = [] → exec (.fmbRxData m) s = .next
        { s.fset .FMB_RX_STATUS_RX_UNDERRUN 1 0 m with reply := bytesOf 4 0 }) ∧
      (∀ w ws n k os, (s.fmb m).rx = w :: ws → (s.fmb m).owes = (n, k) :: os → (s.fmb m).inbox = [] →
        ∃ t, exec (.fmbRxData m) s = .next t ∧ t.reply = bytesOf 4 w.toNat ∧ (t.fmb m).rx = ws ∧
          (2 ≤ n → (t.fmb m).owes = (n - 1, k) :: os ∧ t.netOut = s.netOut) ∧
          (n ≤ 1 → (t.fmb m).owes = os ∧ t.netOut = s.netOut ++
            [(s.fget .FMB_CFG_REMOTE_ADDR 0 m, .taken m (s.fget .FMB_CFG_REMOTE_BOX 0 m) k)]))) ∧
    (∀ k, s.crosses (.mailboxTaken m k) = true →
      (s.fon .FMB_TX_STATUS_BUSY 0 m = true → k = (s.fmb m).sent →
        ∃ t, exec (.mailboxTaken m k) s = .next t ∧ t.fget .FMB_TX_STATUS_BUSY 0 m = 0 ∧
          t.fget .FMB_TX_STATUS_TAKEN 0 m = 1 ∧ t.fmbs = s.fmbs) ∧
      (s.fon .FMB_TX_STATUS_BUSY 0 m = false ∨ k ≠ (s.fmb m).sent → exec (.mailboxTaken m k) s = .next s)) ∧
    (s.crosses (.fmbTxAbort m) = true →
      ∃ t, exec (.fmbTxAbort m) s = .next t ∧ (t.fmb m).tx = [] ∧ t.fget .FMB_TX_STATUS_BUSY 0 m = 0 ∧
        (t.fmb m).rx = (s.fmb m).rx ∧ (t.fmb m).sent = (s.fmb m).sent)) ∧
  (∀ (s : State) (fw : Bool) (m : Nat), m < 8 → (fw = false → s.barOpen) →
    (∀ w, s.crosses (.mbTxData fw m w) = true → s.mbOn fw m = true → s.mget fw .MB_TX_STATUS_BUSY m = 0 →
      (s.mb fw m).tx.length < 16 →
      ∃ t, exec (.mbTxData fw m w) s = .next t ∧ (t.mb fw m).tx = (s.mb fw m).tx ++ [w] ∧ t.mb (!fw) m = s.mb (!fw) m ∧
        t.mget fw .MB_TX_STATUS_TX_LEVEL m = (s.mb fw m).tx.length + 1) ∧
    (∀ b w ws, s.crosses (.mbTxBell fw m b) = true → s.mbOn fw m = true → s.mbOn (!fw) m = true →
      s.mget fw .MB_TX_STATUS_BUSY m = 0 → s.notice m = false →
      (s.mb fw m).tx = w :: ws → (s.mb (!fw) m).rx.length + (w :: ws).length ≤ 16 →
      ∃ t, exec (.mbTxBell fw m b) s = .next t ∧ (t.mb (!fw) m).rx = (s.mb (!fw) m).rx ++ w :: ws ∧ (t.mb fw m).tx = [] ∧
        t.mget fw .MB_TX_STATUS_BUSY m = 1 ∧
        t.mget (!fw) .MB_RX_BELL_BELLS m = s.mget (!fw) .MB_RX_BELL_BELLS m ||| b.toNat) ∧
    (s.crosses (.mbRxHead fw m) = true →
      ((s.mb fw m).rx = [] →
        ∃ t, exec (.mbRxHead fw m) s = .next t ∧ t.reply = bytesOf 4 0 ∧ t.mget fw .MB_RX_STATUS_RX_UNDERRUN m = 1 ∧
          t.mbs = s.mbs) ∧
      (∀ w ws n k os, (s.mb fw m).rx = w :: ws → (s.mb fw m).owes = (n, k) :: os → 2 ≤ n → (s.mb fw m).inbox = [] →
        ∃ t, exec (.mbRxHead fw m) s = .next t ∧ t.reply = bytesOf 4 w.toNat ∧ (t.mb fw m).rx = ws ∧
          (t.mb fw m).owes = (n - 1, k) :: os ∧ t.mb (!fw) m = s.mb (!fw) m) ∧
      (∀ w ws n k os, (s.mb fw m).rx = w :: ws → (s.mb fw m).owes = (n, k) :: os → n ≤ 1 → (s.mb fw m).inbox = [] →
        s.notice m = false → (s.mb (!fw) m).aborted = 0 → s.mget (!fw) .MB_TX_STATUS_BUSY m ≠ 0 →
        ∃ t, exec (.mbRxHead fw m) s = .next t ∧ t.reply = bytesOf 4 w.toNat ∧ (t.mb fw m).rx = ws ∧
          (t.mb fw m).owes = os ∧ t.mget (!fw) .MB_TX_STATUS_BUSY m = 0 ∧ t.mget (!fw) .MB_TX_STATUS_TAKEN m = 1)) ∧
    (∀ n k os, s.crosses (.mbRxAck fw m) = true → s.notice m = true → (s.mb fw m).owes = (n, k) :: os →
      (s.mb fw m).inbox = [] → (s.mb (!fw) m).aborted = 0 → s.mget (!fw) .MB_TX_STATUS_BUSY m ≠ 0 →
      ∃ t, exec (.mbRxAck fw m) s = .next t ∧ (t.mb fw m).rx = (s.mb fw m).rx.drop n ∧ (t.mb fw m).owes = os ∧
        t.mget (!fw) .MB_TX_STATUS_BUSY m = 0 ∧ t.mget (!fw) .MB_TX_STATUS_TAKEN m = 1) ∧
    (s.crosses (.mbTxAbort fw m) = true →
      ∃ t, exec (.mbTxAbort fw m) s = .next t ∧ (t.mb fw m).tx = [] ∧ t.mget fw .MB_TX_STATUS_BUSY m = 0 ∧
        (t.mb fw m).rx = (s.mb fw m).rx ∧ t.mb (!fw) m = s.mb (!fw) m))

/-! ### The host's apertures and DMA (R390 to R395, R405 to R407) -/

/-- Accesses of the host (R247, R273, R393 to R395, R413), while their clocks run: a read answers module memory, 0xFF where
nothing is mapped, with the count; a write stores its bytes where nothing protects them, and never changes a protected byte;
a 64-bit read of a result page answers its eight bytes; what BAR0 does not take, and any BAR access in D3hot, is an
Unsupported Request; while the link stream is out of the secure state an access is dropped. -/
def Obligations.HostAccessesComplete : Prop :=
  ∀ s : State,
    (∀ off len, s.crosses (.bar2Read off len) = true → off + len ≤ bar2Size → s.barOpen → s.memBad = [] →
      ((∀ i, i < len → mapped (s.aperture + off + i) = true) → exec (.bar2Read off len) s = .next
        { s with unsupported := false, reply := s.mem.readBytes (s.aperture + off) len }) ∧
      ((∃ i, i < len ∧ mapped (s.aperture + off + i) = false) →
        ∃ t, exec (.bar2Read off len) s = .next t ∧
          t.fget .HOST_COUNT_UNMAPPED_ACCESS = min (2 ^ Fld.HOST_COUNT_UNMAPPED_ACCESS.w - 1)
            (s.fget .HOST_COUNT_UNMAPPED_ACCESS + 1) ∧
          (∀ i, i < len → mapped (s.aperture + off + i) = false → t.reply[i]? = some 0xFF))) ∧
    (∀ off data, s.crosses (.bar2Write off data) = true → off + data.length ≤ bar2Size → s.barOpen →
      (s.memBad = [] → (∀ i, i < data.length → mapped (s.aperture + off + i) = true ∧
        s.pageProtects (s.aperture + off + i) = false ∧ s.slotProtects (s.aperture + off + i) = false) →
        ∃ t, exec (.bar2Write off data) s = .next t ∧ t.cores = s.cores ∧ t.regs = s.regs ∧
          (∀ i, i < data.length → t.mem.read (s.aperture + off + i) = (data[i]?).getD 0) ∧
          (∀ a, a < s.aperture + off ∨ s.aperture + off + data.length ≤ a → t.mem.read a = s.mem.read a)) ∧
      (∃ t, exec (.bar2Write off data) s = .next t ∧
        ∀ a, mapped a = true → s.pageProtects a = true ∨ s.slotProtects a = true → t.mem.read a = s.mem.read a)) ∧
    (linkStream ∉ s.host.insecure → s.host.d3 = true → ∀ off len, s.crosses (.bar2Read off len) = true →
      off + len ≤ bar2Size → exec (.bar2Read off len) s = .next { s with unsupported := true }) ∧
    (linkStream ∈ s.host.insecure → ∀ off len, s.crosses (.bar2Read off len) = true → exec (.bar2Read off len) s = .next s) ∧
    (∀ off size w, s.crosses (.bar0Unsupported off size w) = true → s.barOpen →
      (bar0Takes off size w.isSome = false →
        exec (.bar0Unsupported off size w) s = .next { s with unsupported := true, reply := [] }) ∧
      (bar0Takes off size w.isSome = true →
        exec (.bar0Unsupported off size w) s = .next (State.bar0Access { s with unsupported := false } off size w)) ∧
      (w = none → size = 8 → off % 8 = 0 → 0x4000 ≤ off → off < 0x8000 →
        let page := s.host.pages.get ((off - 0x4000) / 4096) []
        exec (.bar0Unsupported off size w) s = .next { s with
          unsupported := false
          reply := bytesOf 4 (fieldAt page (off % 4096) 4) ++ bytesOf 4 (fieldAt page (off % 4096 + 4) 4) }))

/-- DMA (R405, R406), while the commands' clocks run: a write of TAIL; the descriptor that the host's memory holds at HEAD
starts where the ring holds one and fewer than four run, and HEAD goes on; one that ends moves its bytes, then writes its
status; a bad one halts the channel with HEAD at it; RESET empties it. -/
def Obligations.DmaCommandsComplete : Prop :=
  ∀ (s : State) (ch : Nat), ch < 16 →
    (∀ v : Word, s.crosses (.dmaTail ch v) = true → s.barOpen → ∃ t, exec (.dmaTail ch v) s = .next t ∧
      t = State.fset { s with unsupported := false } .DMA_TAIL_TAIL v.toNat ch) ∧
    (∀ b, s.crosses (.dmaDescriptorStart ch b) = true → s.hostUp = true → s.fon .DMA_CTRL_ENABLE ch = true →
      s.fon .DMA_STATUS_HALTED ch = false →
      s.fget .DMA_HEAD_HEAD ch % s.ringSize ch ≠ s.fget .DMA_TAIL_TAIL ch % s.ringSize ch → (s.dmaCh ch).flight.length < 4 →
      ((readDesc b).fence = true → (s.dmaCh ch).flight = []) →
      ∃ t, exec (.dmaDescriptorStart ch b) s = .next t ∧
        (t.dmaCh ch).flight = (s.dmaCh ch).flight ++ [(s.fget .DMA_HEAD_HEAD ch % s.ringSize ch, readDesc b)] ∧
        t.fget .DMA_STATUS_RUNNING ch = 1 ∧ t.mem = s.mem ∧ t.host.mem = s.host.mem) ∧
    (∀ h a n : Nat, ∀ up irq fence : Bool, h < 2 ^ 64 → a < 2 ^ 64 → n < 2 ^ 32 →
      readDesc (List.flatten [bytesOf 8 h, bytesOf 8 a, bytesOf 4 n, bytesOf 1 (b2n up + 2 * b2n irq + 4 * b2n fence),
        List.replicate 11 0]) =
        { hostAddr := h, moduleAddr := a, length := n, toHost := up, irq := irq, fence := fence, reservedSet := false }) ∧
    (∀ idx d rest, s.crosses (.dmaDescriptorComplete ch .ok []) = true → (s.dmaCh ch).flight = (idx, d) :: rest →
      badDescriptor d = false → d.toHost = true → (∀ i, i < d.length → mapped (d.moduleAddr + i) = true) →
      ∃ t, exec (.dmaDescriptorComplete ch .ok []) s = .next t ∧ t.mem = s.mem ∧ (t.dmaCh ch).flight = rest ∧
        t.host.mem = (s.host.mem.writeBytes d.hostAddr (s.mem.readBytes d.moduleAddr d.length)).write
          (s.descAddr ch idx + 28) 0x80 ∧ t.fget .DMA_STATUS_LAST_STATUS ch = 0x80) ∧
    (∀ idx d rest data, s.crosses (.dmaDescriptorComplete ch .ok data) = true → (s.dmaCh ch).flight = (idx, d) :: rest →
      badDescriptor d = false → d.toHost = false → data.length = d.length → s.memBad = [] →
      (∀ i, i < d.length → mapped (d.moduleAddr + i) = true ∧ s.pageProtects (d.moduleAddr + i) = false ∧
        s.slotProtects (d.moduleAddr + i) = false) →
      ∃ t, exec (.dmaDescriptorComplete ch .ok data) s = .next t ∧
        (∀ i, i < data.length → t.mem.read (d.moduleAddr + i) = (data[i]?).getD 0) ∧
        (∀ a, a < d.moduleAddr ∨ d.moduleAddr + data.length ≤ a → t.mem.read a = s.mem.read a) ∧
        t.fget .DMA_STATUS_LAST_STATUS ch = 0x80) ∧
    (∀ idx d rest e data, s.crosses (.dmaDescriptorComplete ch e data) = true → (s.dmaCh ch).flight = (idx, d) :: rest →
      badDescriptor d = true → idx < 65536 →
      ∃ t, exec (.dmaDescriptorComplete ch e data) s = .next t ∧ t.mem = s.mem ∧ (t.dmaCh ch).flight = [] ∧
        t.fget .DMA_STATUS_LAST_STATUS ch = 0x85 ∧ t.fget .DMA_STATUS_HALTED ch = 1 ∧ t.fget .DMA_HEAD_HEAD ch = idx) ∧
    (s.crosses (.dmaReset ch) = true → s.barOpen → ∃ t, exec (.dmaReset ch) s = .next t ∧ (t.dmaCh ch).flight = [] ∧
      t.fget .DMA_HEAD_HEAD ch = 0 ∧ t.fget .DMA_TAIL_TAIL ch = 0 ∧ t.fget .DMA_STATUS_HALTED ch = 0 ∧ t.mem = s.mem)

/-- Resets of the host side and the link (R390 to R393, R411, R413, R460, R463 to R465): a hot reset and a function-level reset
clear the host's registers and channels, flush what waits to cross into or out of PCLK, and leave the attempt, the cores and
memory as they are; PERST# brings the link down as well, or with PerstScope 1 resets the module; D3hot and link-down halt
what is in flight; a link below x16 or 64 GT/s is reported; an IDE failure ends the stream, is reported and halts what is in
flight. -/
def Obligations.HostResetsAndLinkComplete : Prop :=
  ∀ s : State,
    (∀ i, i = .hotReset ∨ (i = .functionLevelReset ∧ s.crosses i = true) →
      ∃ t, exec i s = .next t ∧ t.host.dma = [] ∧ t.host.msix = [] ∧ t.fget .HOST_EVENT_MASK_MASK = 0 ∧
        t.fget .APERTURE_BASE_BASE_GIB = 0 ∧ t.fget .WIN_STATUS_AVAILABLE = s.fget .WIN_STATUS_AVAILABLE ∧
        t.host.linkUp = s.host.linkUp ∧ t.job = s.job ∧ t.cores = s.cores ∧ t.mem = s.mem ∧ t.log = s.log ∧
        (∀ h ∈ t.startup.held, h ∈ s.startup.held ∧ 25 ∉ h.1) ∧
        (∀ h ∈ s.startup.held, 25 ∉ h.1 → h ∈ t.startup.held)) ∧
    (s.dval 0x1600 4 0 ≠ 1 →
      ∃ t, exec .perstAssert s = .next t ∧ t.host.perst = true ∧ t.host.linkUp = false ∧ t.host.d3 = false ∧ t.host.ide = [] ∧
        t.host.dma = [] ∧ t.fget .HOST_STATUS_IDE_ACTIVE = 0 ∧ t.job = s.job ∧ t.cores = s.cores ∧ t.mem = s.mem) ∧
    (s.dval 0x1600 4 0 = 1 → s.fget .PWR_STATUS_STATE ≠ 0 →
      ∃ t, exec .perstAssert s = .next t ∧ t.host.perst = true ∧ t.fget .RESET_CAUSE_LAST = 3 ∧ t.cores = [] ∧ t.job = {}) ∧
    exec .perstRelease s = .next { s with host := { s.host with perst := false } } ∧
    (s.crosses .d0Entry = true → exec .d0Entry s = .next { s with host := { s.host with d3 := false } }) ∧
    (s.crosses .d3hotEntry = true → s.host.d3 = false → ∃ t, exec .d3hotEntry s = .next t ∧ t.host.d3 = true ∧
      (∀ ch, ch < 16 → (t.dmaCh ch).flight = []) ∧ t.mem = s.mem ∧ t.job = s.job) ∧
    (s.host.linkUp = true → ∃ t, exec .linkDown s = .next t ∧ t.host.linkUp = false ∧ t.mem = s.mem ∧ t.job = s.job ∧
      ∀ ch idx d rest, ch < 16 → (s.dmaCh ch).flight = (idx, d) :: rest →
        (t.dmaCh ch).flight = [] ∧ t.fget .DMA_STATUS_HALTED ch = 1 ∧ t.fget .DMA_STATUS_LAST_STATUS ch = 0x84) ∧
    (s.host.perst = false → s.fget .PWR_STATUS_STATE ≠ 0 → s.fget .PWR_STATUS_STATE ≠ 4 →
      (s.crosses (.linkUp 16 6 true) = true →
        ∃ t, exec (.linkUp 16 6 true) s = .next t ∧ t.host.linkUp = true ∧ t.fget .HOST_STATUS_LINK_WIDTH = 16 ∧
          t.fget .HOST_STATUS_LINK_GEN = 6 ∧ t.fget .HOST_STATUS_FLIT = 1 ∧ t.faults = s.faults ∧ t.mem = s.mem) ∧
      (s.crosses (.linkUp 8 5 false) = true →
        ∃ t, exec (.linkUp 8 5 false) s = .next t ∧ t.host.linkUp = true ∧ t.fget .HOST_STATUS_LINK_WIDTH = 8 ∧
          t.fget .HOST_EVENT_LINK_DEGRADED = 1 ∧ t.mem = s.mem)) ∧
    (∀ x, s.crosses (.ideIntegrityFailure x) = true → x ∈ s.host.ide →
      ((∀ ch, ch < 16 → (s.dmaCh ch).flight = []) →
        exec (.ideIntegrityFailure x) s = .next (State.fset { s with host := { s.host with
            ide := s.host.ide.filter (· ≠ x), insecure := x :: s.host.insecure.filter (· ≠ x), aer := s.host.aer ++ [x] } }
          .HOST_STATUS_IDE_ACTIVE (b2n (!(s.host.ide.filter (· ≠ x)).isEmpty)))) ∧
      ∃ t, exec (.ideIntegrityFailure x) s = .next t ∧ x ∉ t.host.ide ∧ x ∈ t.host.insecure ∧ t.mem = s.mem ∧ t.job = s.job ∧
        ∀ ch idx d rest, ch < 16 → (s.dmaCh ch).flight = (idx, d) :: rest →
          (t.dmaCh ch).flight = [] ∧ t.fget .DMA_STATUS_HALTED ch = 1 ∧ t.fget .DMA_STATUS_LAST_STATUS ch = 0x84)

/-! ### The dictionary and the management firmware (R418 to R440) -/

/-- Dictionary requests (R418 to R429, R436, R458, R484), where their clocks run. A request while the firmware serves is
answered on its path: a READ with the entry's bytes, a WRITE with what it led to and the present size, an INFO with type and
access; an unknown entry, a write-only or read-only one and a path without the right to write with their codes. The first
segment of a value takes a staging slot, the last writes the value, and a timeout discards the slot. While the firmware does
not serve, the window holds its request, or counts OVERRUN while BUSY; the other paths drop theirs during a restart, and while
only MCLK is stopped theirs wait, a fifth of one source for BUSY. A message through the MCTP port is a request where it
carries the T1's mark, and is dropped otherwise; GO runs the window's request. -/
def Obligations.DictionaryRequestsComplete : Prop :=
  ∀ s : State,
    (∀ (q : DReq), s.serving = true → q.flagsBad = false → q.length ≤ pathMax q.path →
      (∀ c, lookup q.index q.sub = .error c →
        (s.crosses (.dictRead q) = true →
          exec (.dictRead q) s = .next (s.respond q.path (responseBytes 1 q { status := c, state := s }))) ∧
        (s.crosses (.dictWrite q) = true →
          exec (.dictWrite q) s = .next ((s.respond q.path (responseBytes 2 q { status := c, state := s })).after 2 q c)) ∧
        (s.crosses (.dictInfo q) = true →
          exec (.dictInfo q) s = .next (s.respond q.path (responseBytes 3 q { status := c, state := s })))) ∧
      (∀ e, lookup q.index q.sub = .ok e →
        (s.crosses (.dictRead q) = true →
          let u := (if q.index = 0x1500 ∧ q.sub = 5 then s.eccCorrected else s).draw 64
          let v := u.2.valueOf e u.1
          (e.acc ≠ .wo → q.offset ≤ v.length → e.typ = .domain ∨ e.typ = .string ∨ q.offset = 0 →
            let r := if q.index = 0x2501 then (u.2.regRead .gu (q.sub - 1) 0x10).2 else u.2
            exec (.dictRead q) s = .next (r.respond q.path
              (responseBytes 1 q { status := 0, data := (v.drop q.offset).take q.length, total := v.length, state := r }))) ∧
          (e.acc = .wo → exec (.dictRead q) s = .next
            (u.2.respond q.path (responseBytes 1 q { status := 4, total := e.typ.size, state := u.2 })))) ∧
        (let n (u : State) : Nat := if e.acc = .wo ∨ e.sub = 0 then e.typ.size else u.entrySize e
         (s.crosses (.dictInfo q) = true → exec (.dictInfo q) s = .next (s.respond q.path (responseBytes 3 q
           { status := 0, data := [BitVec.ofNat 8 e.typ.code, BitVec.ofNat 8 e.acc.code, 0, 0], total := n s, state := s }))) ∧
         (s.crosses (.dictWrite q) = true →
           (e.acc = .ro → exec (.dictWrite q) s = .next
             ((s.respond q.path (responseBytes 2 q { status := 3, total := n s, state := s })).after 2 q 3)) ∧
           (e.acc ≠ .ro → s.mayWrite q.path e = false → exec (.dictWrite q) s = .next
             ((s.respond q.path (responseBytes 2 q { status := 11, total := n s, state := s })).after 2 q 11)) ∧
           (e.acc ≠ .ro → s.mayWrite q.path e = true → q.data.length = q.length → e.typ ≠ .domain → e.typ ≠ .string →
             q.offset = 0 → q.last = true →
             let r := s.writeFrom q.path e q.data
             exec (.dictWrite q) s = .next
               ((r.2.respond q.path (responseBytes 2 q { status := r.1, total := n r.2, state := r.2 })).after 2 q r.1)) ∧
           (e.acc ≠ .ro → s.mayWrite q.path e = true → q.data.length = q.length → e.typ = .domain → s.stageOf q = none →
             q.offset = 0 → q.last = false → s.mgmt.slots.length < 16 →
             ∃ t, exec (.dictWrite q) s = .next t ∧
               t.mgmt.slots = s.mgmt.slots ++ [⟨pathNo q.path, q.tag, q.index, q.sub, q.data⟩] ∧ t.dict = s.dict ∧
               t.doms = s.doms ∧ t.mem = s.mem) ∧
           (∀ i st, e.acc ≠ .ro → s.mayWrite q.path e = true → q.data.length = q.length → e.typ = .domain →
             s.stageOf q = some i → s.mgmt.slots[i]? = some st → q.offset = st.data.length →
             st.data.length + q.data.length ≤ 65536 → q.last = true →
             let r := (s.dropStage i).writeEntry e (st.data ++ q.data)
             exec (.dictWrite q) s = .next
               ((r.2.respond q.path (responseBytes 2 q { status := r.1, total := n r.2, state := r.2 })).after 2 q r.1)))))) ∧
    (∀ (q : DReq) i op, (op = 1 ∧ i = .dictRead q) ∨ (op = 2 ∧ i = .dictWrite q) ∨ (op = 3 ∧ i = .dictInfo q) →
      s.crosses i = true → s.serving = false →
      let w : Waiting := { op := op, q := q }
      (q.path = .window → s.fon .WIN_STATUS_BUSY = true → exec i s = .next (s.fset .WIN_STATUS_OVERRUN 1)) ∧
      (q.path = .window → s.fon .WIN_STATUS_BUSY = false →
        ∃ t, exec i s = .next t ∧ t.fget .WIN_STATUS_BUSY = 1 ∧ t.fget .WIN_STATUS_HELD = b2n (!s.fon .WIN_STATUS_AVAILABLE) ∧
          t.mgmt.heldReq = some w ∧ t.mem = s.mem) ∧
      (q.path ≠ .window → s.fon .WIN_STATUS_AVAILABLE = false → exec i s = .next s) ∧
      (q.path ≠ .window → s.fon .WIN_STATUS_AVAILABLE = true → exec i s = .next { s with mgmt := { s.mgmt with
        waiting := s.mgmt.waiting ++ [{ w with busy := decide (4 ≤ s.outstanding q.path) }] } })) ∧
    (∀ i, s.crosses (.stagingSlotTimeout i) = true →
      ∃ t, exec (.stagingSlotTimeout i) s = .next t ∧ t.mgmt.slots = s.mgmt.slots.eraseIdx i ∧ t.regs = s.regs ∧
        t.dict = s.dict ∧ t.mem = s.mem ∧
        ∀ st, s.mgmt.slots[i]? = some st → (st.path, st.tag, st.index, st.sub) ∈ t.mgmt.gone) ∧
    (∀ eid typ vendor mark msg,
      (typ = 0x7E → vendor = vendorId → mark = 1 → 24 ≤ msg.length → s.serving = true →
        exec (.mctpDictionaryMessage eid typ vendor mark msg) s = .next
          (s.serve (readRequest (.mctp eid) msg).1 (readRequest (.mctp eid) msg).2)) ∧
      (typ ≠ 0x7E ∨ vendor ≠ vendorId ∨ mark ≠ 1 → exec (.mctpDictionaryMessage eid typ vendor mark msg) s = .next s)) ∧
    (s.barOpen → s.crosses .winGo = true →
      let u : State := { s with unsupported := false }
      (s.fon .WIN_STATUS_BUSY = true → exec .winGo s = .next (u.fset .WIN_STATUS_OVERRUN 1)) ∧
      (s.fon .WIN_STATUS_BUSY = false → s.serving = false →
        exec .winGo s = .next ((u.fset .WIN_STATUS_BUSY 1).fset .WIN_STATUS_HELD (b2n (!s.fon .WIN_STATUS_AVAILABLE)))) ∧
      (s.fon .WIN_STATUS_BUSY = false → s.serving = true → s.mgmt.heldReq = none → fieldAt s.windowBytes 0 1 = 1 →
        ∃ t, exec .winGo s = .next t ∧ t.fget .WIN_STATUS_DONE = 1 ∧ t.fget .WIN_STATUS_BUSY = 0 ∧ t.mem = s.mem ∧
          t.mgmt.respBuf = t.reply ∧ t.doms = s.doms ∧ (fieldAt s.windowBytes 4 2 ≠ 0x1500 → t.dict = s.dict))) ∧
    (s.fget .PWR_STATUS_STATE ≠ 0 →
      (∀ i, i < 65536 → exec (.logbookI3cRead i) s = .next { s with reply := s.logSlot i }) ∧
      (∀ a, a < 128 → exec (.dynamicAddressAssignment a) s = .next (s.setDval 0x1400 2 a)) ∧
      (∀ e, e < 256 → exec (.endpointIdAssignment e) s = .next (s.setDval 0x1400 1 e)))

/-- The management firmware (R431 to R440, R463): StoreConfig writes the copy that loses and its end shows the result;
RestoreDefaults writes every default, PathWriteMask through the window alone (the model's choice, log entry 84); a restart ends staging and sessions, counts, and leaves module memory, cores and the
attempt as they are; the firmware resumes with an image that verifies; MGMT_RST clears the block; a margin re-plan
runs on request and by period and is applied in one act. -/
def Obligations.ManagementCommandsComplete : Prop :=
  ∀ (s : State) (p : DPath),
    (s.pathMay p (.storeConfig p) → s.mgmt.storing = none →
      ∃ (t : State) (copy seq : Nat), exec (.storeConfig p) s = .next (t.okReply p 0x1010 1 [1] 1) ∧
        t.mgmt.storing = some (copy, seq) ∧ copy < 2 ∧ t.mgmt.copies.find? copy = some (s.configCopy seq) ∧
        t.mgmt.copies.find? (1 - copy) = s.mgmt.copies.find? (1 - copy) ∧ t.dval 0x1010 2 0 = 1 ∧ t.mem = s.mem) ∧
    (∀ copy seq ok, s.crosses (.storeComplete ok) = true → s.mgmt.storing = some (copy, seq) →
      ∃ t, exec (.storeComplete ok) s = .next t ∧ t.mgmt.storing = none ∧ t.dval 0x1010 2 0 = (if ok then 0 else 2) ∧
        t.mgmt.stores = min 0xFFFFFFFF (s.mgmt.stores + 1) ∧ t.mgmt.copies = (if ok then s.mgmt.copies else s.mgmt.copies.del copy)) ∧
    (s.pathMay p (.restoreDefaults p) → exec (.restoreDefaults p) s = .next (State.okReply
      (if p = .window ∨ s.restoreDefaults.dval 0x9004 1 7 = s.dval 0x9004 1 7 then s.restoreDefaults
        else s.restoreDefaults.setDval 0x9004 1 (s.dval 0x9004 1 7)) p 0x1011 1 [1] 1)) ∧
    (s.pathMay p (.mgmtRestart p) → exec (.mgmtRestart p) s = .next ((s.okReply p 0x1500 2 [1] 1).restartMgmt 2)) ∧
    (∀ i cause, (i = .watchdogExpiry ∧ cause = 1) ∨ (i = .mgmtEccDouble ∧ cause = 3) ∨ (i = .firmwareFaultTrap ∧ cause = 4) →
      s.crosses i = true → s.mgmt.restarting = false → s.fon .WIN_STATUS_AVAILABLE = true → s.mgmt.restarts < 2 →
      ∃ t, exec i s = .next t ∧ t.mgmt.restarting = true ∧ t.fget .WIN_STATUS_AVAILABLE = 0 ∧ t.mgmt.slots = [] ∧
        t.secure.sessions = [] ∧ t.dval 0x1500 4 0 = cause ∧ t.mgmt.restarts = s.mgmt.restarts + 1 ∧
        t.fget .WIN_COUNT_RESTARTS = min 65535 (s.fget .WIN_COUNT_RESTARTS + 1) ∧ t.mem = s.mem ∧ t.cores = s.cores ∧
        t.job = s.job) ∧
    (∀ u, s.crosses .mgmtResume = true → s.mgmt.restarting = true → s.startup.recovery = false → s.bootImage true = some u →
      exec .mgmtResume s = .next u.resumed ∧
      (s.fon .WIN_STATUS_BUSY = false → s.mgmt.waiting = [] → u.resumed.mgmt.restarting = false ∧ u.resumed.fget .WIN_STATUS_AVAILABLE = 1 ∧
        u.resumed.mem = s.mem)) ∧
    (∃ t, exec .mgmtRstPin s = .next t ∧ t.mgmt.restarting = (s.mgmt.restarting || s.fon .WIN_STATUS_AVAILABLE) ∧
      t.fget .WIN_STATUS_AVAILABLE = 0 ∧ t.mgmt.reqBuf = [] ∧ t.mgmt.slots = [] ∧
      t.fmbs = s.fmbs.map (fun q => (q.1, { sent := q.2.sent })) ∧ t.dval 0x1400 1 1 = 0 ∧
      (∀ h ∈ t.startup.held, h ∈ s.startup.held ∧ 26 ∉ h.1) ∧
      t.mem = s.mem ∧ t.cores = s.cores ∧ t.job = s.job) ∧
    (s.pathMay p (.marginReplanRequest p) → s.mgmt.replan = none → exec (.marginReplanRequest p) s = .next
      (State.okReply { s with mgmt := { s.mgmt with replan := some 1 } } p 0x5010 2 [1] 1)) ∧
    (s.crosses .marginReplanPeriod = true → s.startup.state = 5 → s.mgmt.replan = none → exec .marginReplanPeriod s = .next
      { s with mgmt := { s.mgmt with replan := some 0, replanDue := s.mgmt.restarting } }) ∧
    (∀ trigger m, s.crosses (.marginReplanApply m) = true → s.mgmt.replan = some trigger → s.mgmt.replanDue = false → s.serving = true →
      ∃ t, exec (.marginReplanApply m) s = .next t ∧ t.mgmt.replan = none ∧
        t.dval 0x5201 1 29 = verifyWindow (s.dval 0x5201 1 29) s.rowShare.1 s.rowShare.2 ∧
        (∀ c, c < 4096 → t.fget .ARRAY_CTRL_VERIFY_WINDOW c =
          verifyWindow (s.dval 0x5201 1 29) s.rowShare.1 s.rowShare.2 % 2 ^ Fld.ARRAY_CTRL_VERIFY_WINDOW.w) ∧
        t.dval 0x5010 3 0 = min 0xFFFFFFFF (s.dval 0x5010 3 0 + 1) ∧ t.mem = s.mem ∧ t.job = s.job)
/-! ### Registers by their access codes (R11 to R13) -/

/-- Where the access's clocks run, a read of a register answers the value of each field, zero for a write-only one, and clears a read-clear field; a write
sets an RW field, clears the W1C bits written 1 and changes no other field (R11). Reserved bits read as zero and keep what
they are (R12). No other register changes. -/
def Obligations.RegisterAccessesFollowTheirCodes : Prop :=
  ∀ (s : State) (sec : Sec) (inst off : Nat), plainSec sec = true → inst < instances sec → s.flows (secClk sec inst) = true →
    (∃ t r, exec (.readClearRegister sec inst off) s = .next t ∧ t.reply = bytesOf 4 r ∧
      (∀ f, fieldApart sec off f → bits r f.lo f.w = (if f.acc = .wo then 0 else bits (s.rword sec inst off) f.lo f.w) ∧
        bits (t.rword sec inst off) f.lo f.w = (if f.acc = .rc then 0 else bits (s.rword sec inst off) f.lo f.w)) ∧
      (∀ b, b < 32 → (∀ f ∈ fldsAt sec off, b < f.lo ∨ f.lo + f.w ≤ b) → bit r b = false) ∧
      (∀ sec' j x, regKey sec' j x ≠ regKey sec inst off → t.rword sec' j x = s.rword sec' j x) ∧
      t.mem = s.mem ∧ t.cores = s.cores) ∧
    (∀ v : Word, ∃ t, exec (.registerWrite sec inst off v) s = .next t ∧
      (∀ f, fieldApart sec off f →
        (f.acc = .rw → bits (t.rword sec inst off) f.lo f.w = bits v.toNat f.lo f.w) ∧
        (f.acc = .w1c → ∀ k, k < f.w → bit (t.rword sec inst off) (f.lo + k) =
          (bit (s.rword sec inst off) (f.lo + k) && !bit v.toNat (f.lo + k))) ∧
        (f.acc ≠ .rw → f.acc ≠ .w1c → bits (t.rword sec inst off) f.lo f.w = bits (s.rword sec inst off) f.lo f.w)) ∧
      (∀ b, b < 32 → (∀ f ∈ fldsAt sec off, b < f.lo ∨ f.lo + f.w ≤ b) →
        bit (t.rword sec inst off) b = bit (s.rword sec inst off) b) ∧
      (∀ sec' j x, regKey sec' j x ≠ regKey sec inst off → t.rword sec' j x = s.rword sec' j x) ∧
      t.mem = s.mem ∧ t.cores = s.cores ∧ t.reply = s.reply)

/-! ### Housekeeping converters (R441 to R453, R498) -/

/-- Converters: an entry of a running survey, or of a burst, writes its result with NEW, BURST and COUNT and goes to the next
place; an enabled trigger of an idle converter starts its burst with TRIG_CAUSE, one after the burst's first result is dropped
and counted, and one before it may belong to the burst's own HCLK (the model's choice, log entry 113); THERMAL and the regulator alarm stand until cleared; self-calibration is requested, starts with every result
STALE, and ends with its coefficients or HK_CAL_REJECT; a read of a result clears NEW and latches HK_RINFO. -/
def Obligations.ConverterCommandsComplete : Prop :=
  ∀ (s : State) (h : Nat), h < 5 →
    (∀ e code, s.fon .HK_CTRL_ENABLE h = true → (s.hkOf h).burst = none → (s.hkOf h).calibrating = false →
      (s.hkOf h).started = true → (s.hkOf h).round[(s.hkOf h).place]? = some e →
      (s.hkOf h).place + 1 < (s.hkOf h).round.length → s.fget .HK_LIST_CFG_SURVEY_LEN h ≠ 0 → e % 64 ∉ (s.hkOf h).failed →
      (hkRange (e % 64)).1 ≤ code → code ≤ (hkRange (e % 64)).2 →
      ∃ t, exec (.surveyEntryEnd h code) s = .next t ∧ (t.hkOf h).place = (s.hkOf h).place + 1 ∧
        (t.hkOf h).codes.get (e % 64) 0 = code ∧
        t.fget .HK_RESULT_CODE h (e % 64) = packCode (e % 64) (s.fon .HK_CTRL_PACK h) code % 2 ^ 32 ∧
        t.fget .HK_RINFO_NEW h (e % 64) = 1 ∧ t.fget .HK_RINFO_BURST h (e % 64) = 0 ∧
        t.fget .HK_RINFO_COUNT h (e % 64) = (s.fget .HK_RINFO_COUNT h (e % 64) + 1) % 65536 ∧ t.mem = s.mem) ∧
    (∀ list e code, s.fon .HK_CTRL_ENABLE h = true → (s.hkOf h).burst = some list → list[(s.hkOf h).burstPlace]? = some e → e % 64 ∉ (s.hkOf h).failed →
      (hkRange (e % 64)).1 ≤ code → code ≤ (hkRange (e % 64)).2 →
      ∃ t, exec (.burstEntryEnd h code) s = .next t ∧ (t.hkOf h).codes.get (e % 64) 0 = code ∧
        t.fget .HK_RINFO_BURST h (e % 64) = 1 ∧
        ((s.hkOf h).burstPlace + 1 < list.length → (t.hkOf h).burst = some list ∧
          (t.hkOf h).burstPlace = (s.hkOf h).burstPlace + 1) ∧
        (list.length ≤ (s.hkOf h).burstPlace + 1 → (t.hkOf h).burst = none ∧ t.fget .HK_STATUS_BURST_DONE h = 1)) ∧
    (s.fon .HK_CTRL_ENABLE h = true → s.burstList h ≠ [] →
      (bit (s.fget .HK_CTRL_TRIG_EN h) 2 = true → (s.hkOf h).burst = none →
        ∃ t, exec (.burstSw h) s = .next t ∧ (t.hkOf h).burst = some (s.burstList h) ∧ (t.hkOf h).burstPlace = 0 ∧
          t.fget .HK_STATUS_TRIG_CAUSE h = 4 ∧ t.fget .HK_STATUS_STATE h = 2) ∧
      (bit (s.fget .HK_CTRL_TRIG_EN h) 2 = true → (s.hkOf h).burst.isSome = true →
        ∃ t, exec (.burstSw h) s = .next t ∧ (t.hkOf h).burst = (s.hkOf h).burst ∧
          ((s.hkOf h).burstNew = false → (t.hkOf h).dropped = min 0xFFFFFFFF ((s.hkOf h).dropped + 1)) ∧
          ((s.hkOf h).burstNew = true → (t.hkOf h).dropped = min 0xFFFFFFFF ((s.hkOf h).dropped + 1) ∨
            bit (t.fget .HK_STATUS_TRIG_CAUSE h) 2 = true)) ∧
      (bit (s.fget .HK_CTRL_TRIG_EN h) 1 = true → (s.hkOf h).burst = none →
        ∃ t, exec (.thermal h) s = .next t ∧ (t.hkOf h).thermal = true ∧ t.fget .HK_STATUS_TRIG_CAUSE h = 2 ∧
          (t.hkOf h).burst = some (s.burstList h))) ∧
    (∃ t, exec (.regAlarm h) s = .next t ∧ (t.hkOf h).alarm = true ∧
      (h < 4 → s.powered = true → s.power.level ≤ 8 → t.fget (levelFld h) = 8 ∧ t.fget .PWR_STATUS_STATE = 3)) ∧
    (∃ t, exec (.thermal h) s = .next t ∧ (t.hkOf h).thermal = true) ∧
    exec (.thermalClear h) s = .next (s.modHk h fun k => { k with thermal := false }) ∧
    exec (.regAlarmClear h) s = .next (s.modHk h fun k => { k with alarm := false }) ∧
    ((s.hkOf h).calibrating = false → exec (.selfcalReq h) s = .next (s.modHk h fun k => { k with calReq := true })) ∧
    (∃ t, exec .selfcalPeriod s = .next t ∧ ((s.hkOf h).calibrating = false → (t.hkOf h).calReq = true) ∧
      ((s.hkOf h).calibrating = true → t.hkOf h = s.hkOf h)) ∧
    ((s.hkOf h).calReq = true → (s.hkOf h).burst = none → (s.hkOf h).calibrating = false →
      ∃ t, exec (.selfcalStart h) s = .next t ∧ (t.hkOf h).calibrating = true ∧ (t.hkOf h).calReq = false ∧
        t.fget .HK_STATUS_STATE h = 3 ∧ t.fget .HK_STATUS_STALE_ANY h = 1 ∧
        (∀ i, i < 64 → t.fget .HK_RINFO_STALE h i = 1)) ∧
    (∀ o g : Int, (s.hkOf h).calibrating = true → (s.hkOf h).burst = none →
      (o.natAbs ≤ 2 ^ 14 → g.natAbs ≤ 20000 →
        ∃ t, exec (.selfcalEnd h o g) s = .next t ∧ (t.hkOf h).offset = o ∧ (t.hkOf h).gain = g ∧
          (t.hkOf h).calibrating = false ∧ t.faults = s.faults) ∧
      (2 ^ 14 < o.natAbs ∨ 20000 < g.natAbs →
        ∃ t, exec (.selfcalEnd h o g) s = .next t ∧ (t.hkOf h).offset = (s.hkOf h).offset ∧
          (t.hkOf h).gain = (s.hkOf h).gain ∧ t.fget .HK_STATUS_HK_CAL_REJECT h = 1 ∧ (t.hkOf h).calibrating = false)) ∧
    (∀ i, s.crosses (.hkResultRead h i) = true → i < 64 → ∃ t, exec (.hkResultRead h i) s = .next t ∧ t.reply = bytesOf 4 (s.fget .HK_RESULT_CODE h i) ∧
      t.fget .HK_RINFO_NEW h i = 0 ∧ (t.hkOf h).latched.find? i = some (s.rword .hk h (0x104 + 8 * i)) ∧
      t.fget .HK_RESULT_CODE h i = s.fget .HK_RESULT_CODE h i)

/-! ### General check-value units (R380 to R389) -/

/-- Units GU5 to GU15, while the commands' clocks run: START with settings R387 allows arms an idle unit and clears RESULTS,
with a bad one sets CONFIG_BAD, and on an armed one sets WRITE_IGNORED; STOP disarms; the oldest item that the stream has
brought begins, and one of many sources that the buffer cannot hold may be skipped; its end gives the check value of R383
over its bytes with the fold of R382, with an earlier one still DONE lost; an aborted item sets ABORTED; a RANGE ends BUSY; a
read of RESULT_LO latches RESULT_HI. How much of the buffer is free is the model's choice (log entry 56). -/
def Obligations.CheckUnitCommandsComplete : Prop :=
  ∀ (s : State) (u : Nat), 5 ≤ u → u < 16 →
    (∀ c : Word, s.crosses (.guStart u c) = true →
      (s.fon .GU_STATUS_BUSY u = true → exec (.guStart u c) s = .next (s.fset .GU_STATUS_WRITE_IGNORED 1 u)) ∧
      (s.fon .GU_STATUS_BUSY u = false → (s.regWrite .gu u 0 c.toNat).guBad u = true →
        exec (.guStart u c) s = .next ((s.regWrite .gu u 0 c.toNat).fset .GU_STATUS_CONFIG_BAD 1 u)) ∧
      (s.fon .GU_STATUS_BUSY u = false → (s.regWrite .gu u 0 c.toNat).guBad u = false →
        ∃ t, exec (.guStart u c) s = .next t ∧ t.fget .GU_STATUS_BUSY u = 1 ∧ t.fget .GU_COUNT_RESULTS u = 0 ∧
          (t.gu u).cur = [] ∧ (t.gu u).items = 0 ∧ (s.fget .GU_SNOOP_SOURCE u ≠ 5 → (t.gu u).due = []) ∧
          (s.fget .GU_SNOOP_SOURCE u = 5 → (t.gu u).due = [s.guRange u]) ∧
          t.fget .GU_CTRL_WIDTH_M1 u = bits c.toNat Fld.GU_CTRL_WIDTH_M1.lo Fld.GU_CTRL_WIDTH_M1.w ∧ t.mem = s.mem)) ∧
    (s.crosses (.guStop u) = true →
      ∃ t, exec (.guStop u) s = .next t ∧ t.fget .GU_STATUS_BUSY u = 0 ∧ (t.gu u).cur = [] ∧ (t.gu u).due = [] ∧ t.mem = s.mem) ∧
    (s.crosses (.guItemBegin u) = true →
      (∀ it rest, s.fon .GU_STATUS_BUSY u = true → (s.gu u).due = it :: rest →
        let x := if s.fget .GU_SNOOP_SOURCE u = 5 then s.guRange u else it
        (s.guMany u = false ∨ (s.gu u).buffered + x.data.length ≤ snoopBuffer →
          ∃ t, exec (.guItemBegin u) s = .next t ∧ (t.gu u).cur = (s.gu u).cur ++ [x] ∧ (t.gu u).due = rest ∧
            t.regs = s.regs) ∧
        (∃ t, exec (.guItemBegin u) s = .next t ∧ (t.gu u).due = rest ∧
          ((t.gu u).cur = (s.gu u).cur ++ [x] ∨ ((t.gu u).cur = (s.gu u).cur ∧ t.fget .GU_STATUS_SKIPPED u = 1)))) ∧
      ((s.gu u).due = [] → exec (.guItemBegin u) s = .next s)) ∧
    (s.crosses (.guItemEnd u) = true →
      (∀ it rest, (s.gu u).cur = it :: rest →
        let f := s.guFold u it.addr (it.seq % 2 ^ 32)
        let v := crcFold (s.guSet u) f.1 f.2 it.data
        (it.aborted = false → s.fget .GU_SNOOP_SOURCE u ≠ 5 ∨ s.guRange u = it →
          ∃ t, exec (.guItemEnd u) s = .next t ∧ t.fget .GU_STATUS_DONE u = 1 ∧ t.fget .GU_RESULT_LO_VALUE u = v % 2 ^ 32 ∧
            t.fget .GU_RESULT_HI_VALUE u = v / 2 ^ 32 % 2 ^ 32 ∧
            t.fget .GU_COUNT_RESULTS u = (s.fget .GU_COUNT_RESULTS u + 1) % 65536 ∧ (t.gu u).cur = rest ∧
            (s.fon .GU_STATUS_DONE u = true → t.fget .GU_STATUS_OVERRUN u = 1) ∧
            (s.fget .GU_SNOOP_SOURCE u = 5 → t.fget .GU_STATUS_BUSY u = 0)) ∧
        (it.aborted = true → ∃ t, exec (.guItemEnd u) s = .next t ∧ t.fget .GU_STATUS_ABORTED u = 1 ∧ (t.gu u).cur = rest ∧
          t.fget .GU_STATUS_DONE u = s.fget .GU_STATUS_DONE u ∧ t.fget .GU_COUNT_RESULTS u = s.fget .GU_COUNT_RESULTS u)) ∧
      ((s.gu u).cur = [] → exec (.guItemEnd u) s = .next s)) ∧
    (s.fget .GU_CTRL_FOLD_MODE u = 0 → ∀ a q, s.guFold u a q = (0, [])) ∧
    (s.crosses (.guResultLo u) = true →
      ∃ t, exec (.guResultLo u) s = .next t ∧ t.reply = bytesOf 4 (s.fget .GU_RESULT_LO_VALUE u) ∧
        (t.gu u).latched = some (s.fget .GU_RESULT_HI_VALUE u) ∧ t.regs = s.regs)

/-! ### Power, clocks and resets (R456 to R467, R494 to R499) -/

/-- Power and resets. A module reset by its pin or by the dictionary clears every domain but HCLK: registers take their
reset values, those of the converters stay, RESET_CAUSE shows the cause, and start-up begins at BOOT. The input in range raises
power good with every register at its reset value; a loss or an overvoltage leaves the module OFF and writes no record; a
protective shutdown writes its record, ends the attempt and leaves PROTECT_OFF with its cause; a rail that misses its limit
in the power sequence fails start-up (R463, R464, R467, R494, R495, R499). -/
def Obligations.PowerAndResetsComplete : Prop :=
  ∀ (s : State) (p : DPath),
    (s.fget .PWR_STATUS_STATE ≠ 0 →
      ∃ t, exec .modRstPin s = .next t ∧ t.fget .RESET_CAUSE_LAST = 1 ∧
        t.fget .RESET_CAUSE_MODULE_RESETS = min 65535 (s.fget .RESET_CAUSE_MODULE_RESETS + 1) ∧
        (s.powered = true → t.startup.state = 1 ∧ t.fget .PWR_STATUS_STATE = 2) ∧
        (∀ sec i o, sec ≠ .hk → regKey sec i o ≠ regKey .clock 0 0xC → regKey sec i o ≠ regKey .power 0 0 →
          t.rword sec i o = resetReg sec i o) ∧
        (∀ i o, t.rword .hk i o = s.rword .hk i o) ∧ t.hks = s.hks ∧ t.log = s.log ∧ t.cores = [] ∧
        t.job = State.reset.job ∧ t.doms = State.reset.doms ∧ t.phys.powerOns = s.phys.powerOns ∧ t.pending = s.pending) ∧
    (s.fget .PWR_STATUS_STATE = 0 → exec .modRstPin s = .next s) ∧
    (s.pathMay p (.moduleReset p) → exec (.moduleReset p) s = .next ((s.okReply p 0x1600 3 [1] 1).moduleReset 2)) ∧
    (s.fget .PWR_STATUS_STATE = 0 →
      ∃ t, exec .powerInputInRange s = .next t ∧ t.fget .PWR_STATUS_STATE = 1 ∧
        (∀ sec i o, t.rword sec i o = resetReg sec i o) ∧ t.phys.powerOns = (s.phys.powerOns + 1) % 2 ^ 32 ∧ t.log = s.log) ∧
    (s.fget .PWR_STATUS_STATE ≠ 0 → exec .powerInputInRange s = .next s) ∧
    (∀ i, i = .powerLoss ∨ i = .overvoltage →
      ∃ t, exec i s = .next t ∧ t.fget .PWR_STATUS_STATE = 0 ∧ t.log = s.log ∧ t.cores = [] ∧ t.mem = [] ∧
        t.phys.powerOns = s.phys.powerOns ∧ (s.mgmt.storing = none → t.mgmt.copies = s.mgmt.copies)) ∧
    (∀ i cause, ((i = .undervoltage ∧ cause = 4) ∨ (∃ d, d < 4 ∧ i = .criticalTemperature d ∧ cause = 1) ∨
        (i = .criticalTemperature 4 ∧ cause = 3) ∨
        (∃ r, (s.startup.state ≠ 0 ∨ s.fget .PWR_STATUS_STATE ≠ 1) ∧ i = .railOutOfRegulation r ∧ cause = 2)) →
      s.fget .PWR_STATUS_STATE ≠ 0 → s.fget .PWR_STATUS_STATE ≠ 4 →
      ∃ t, exec i s = .next t ∧ t.fget .PWR_STATUS_STATE = 4 ∧ t.fget .PWR_STATUS_CAUSE = cause ∧
        t.fget .PWR_STATUS_ALERT = 1 ∧ t.dval 0x5020 6 0 = cause ∧ (∀ d, d < 4 → t.fget (levelFld d) = 0) ∧
        t.log = (s.plainStatus [BitVec.ofNat 8 cause]).log ∧ t.cores = [] ∧ t.mem = [] ∧ t.job.current = none ∧
        t.fget .HOST_STATUS_READY = 0) ∧
    (∀ r, s.startup.state = 0 → s.fget .PWR_STATUS_STATE = 1 →
      ∃ t, exec (.railOutOfRegulation r) s = .next t ∧ t.startup.state = 6 ∧ t.mem = s.mem ∧
        t.log = (s.logWrite recFault 4 Code.selftestFail.number (locHub r) (s.rword .power 0 0) 0xFFFFFFFF [0]).log)

/-- The power limit moves the power level of all four compute dies by one, up to 8 and down to 0, and publishes the mean in
InputPower (R497); a raised thermal trigger moves its die's level up by one, the hub's that of all four, and a level falls by
one once the trigger has cleared; a die's level is the larger of the two (R496, R498). -/
def Obligations.ThrottleLevelsFollowPowerAndHeat : Prop :=
  ∀ s : State,
    (∀ w, s.powered = true →
      ∃ t, exec (.powerLimitEvaluation w) s = .next t ∧ t.power.watts = w ∧
        t.entryBytes ⟨0x5020, 3, .f32, .ro, 0, .any⟩ 0 = bytesOf 4 (roundLane (.fin false w 0)).1.toNat ∧
        t.power.thermal = s.power.thermal ∧
        (s.dval 0x5020 2 2800 < w → t.power.level = min 8 (s.power.level + 1)) ∧
        (w * 100 < 95 * s.dval 0x5020 2 2800 → t.power.level = s.power.level - 1) ∧
        (w ≤ s.dval 0x5020 2 2800 → 95 * s.dval 0x5020 2 2800 ≤ w * 100 → t.power.level = s.power.level) ∧
        (∀ d, d < 4 → t.fget (levelFld d) = max t.power.level (s.thermalLevel d) % 16) ∧
        t.fget .PWR_STATUS_STATE = (if (List.range 4).all (fun d => t.dieLevel d = 0) then 2 else 3)) ∧
    (∀ d, d < 4 → s.powered = true →
      (s.hot d = true → ∃ t, exec (.thermalLevelTick d) s = .next t ∧ t.thermalLevel d = min 8 (s.thermalLevel d + 1) ∧
        t.fget (levelFld d) = max s.power.level (t.thermalLevel d) % 16) ∧
      (s.hot d = false → (s.hkOf d).alarm = false →
        ∃ t, exec (.thermalLevelTick d) s = .next t ∧ t.thermalLevel d = s.thermalLevel d - 1 ∧
          t.fget (levelFld d) = max s.power.level (t.thermalLevel d) % 16) ∧
      (s.hot d = false → (s.hkOf d).alarm = true → exec (.thermalLevelTick d) s = .next s)) ∧
    (s.powered = true → (s.hkOf 4).thermal = true →
      ∃ t, exec (.thermalLevelTick 4) s = .next t ∧ ∀ d, d < 4 → t.thermalLevel d = min 8 (s.thermalLevel d + 1))

/-- Clocks. A command for a stopped clock, or behind one that waits in its crossing, waits there unchanged, and nothing else
changes (R458, R460). A clock that loses lock stops; a relock lets it through and counts; one that does not relock sets
CLOCK_FAIL with its record and stays stopped (R458, R459). In the POWER stage a PLL may fail to come to lock (R459, R467).
Whether PCLK went with the host reference is free (log entry 67). An event that meets one of its source still in flight into
the stopped MCLK is merged, counted and shown in XING_OVERRUN (R462). -/
def Obligations.ClockCommandsComplete : Prop :=
  (∀ (s : State) (i : Instr), s.clocksOf i ≠ [] → s.crosses i = false →
    exec i s = .next { s with startup := { s.startup with held := s.startup.held ++ [(s.clocksOf i, i)] } }) ∧
  (∀ (s : State) (src : Nat), s.runs [26] = false →
    ((26, src) ∉ s.startup.inFlight →
      s.fwIrq src = { s with startup := { s.startup with inFlight := s.startup.inFlight ++ [(26, src)] } }) ∧
    ((26, src) ∈ s.startup.inFlight → (s.fwIrq src).mgmt = s.mgmt ∧ (s.fwIrq src).fget .XING_OVERRUN_X12 = 1 ∧
      (s.fwIrq src).fget .XING_OVERRUN_OVERRUN_COUNT = min 65535 (s.fget .XING_OVERRUN_OVERRUN_COUNT + 1))) ∧
  ∀ (s : State) (p : Nat), p < 27 →
    (p ∉ s.startup.offPlls →
      bit (s.rword .clock 0 0) p = true ∨ (s.startup.state = 0 ∧ s.fget .PWR_STATUS_STATE = 1) →
      ∃ t, exec (.pllLockLoss p) s = .next t ∧ p ∈ t.startup.offPlls ∧ (∀ q ∈ t.startup.offPlls, q = p ∨ q ∈ s.startup.offPlls) ∧
        bit (t.rword .clock 0 0) p = false ∧
        (∀ k, k ≠ p → k ≠ 27 → bit (t.rword .clock 0 0) k = bit (s.rword .clock 0 0) k) ∧
        (p ≠ 25 → bit (t.rword .clock 0 0) 27 = bit (s.rword .clock 0 0) 27) ∧
        (∀ sec i o, regKey sec i o ≠ regKey .clock 0 0 → t.rword sec i o = s.rword sec i o) ∧
        t.mem = s.mem ∧ t.cores = s.cores ∧ t.job = s.job ∧ t.startup.held = s.startup.held) ∧
    (p ∈ s.startup.offPlls → p ∉ s.startup.failedPlls →
      ((p = 26 → s.fon .WIN_STATUS_BUSY = false ∧ s.mgmt.waiting = []) →
        ∃ t, exec (.pllRelock p) s = .next t ∧ p ∉ t.startup.offPlls ∧
          (∀ q, q ≠ p → (q ∈ t.startup.offPlls ↔ q ∈ s.startup.offPlls)) ∧ bit (t.rword .clock 0 0) p = true ∧
          t.fget .CLK_COUNT_RELOCKS = min 65535 (s.fget .CLK_COUNT_RELOCKS + 1) ∧
          t.startup.relocks = min 0xFFFFFFFF (s.startup.relocks + 1) ∧ t.startup.held = s.startup.held ∧
          (∀ e ∈ t.startup.inFlight, e.1 ≠ p) ∧ t.mem = s.mem ∧ t.cores = s.cores ∧ t.job = s.job) ∧
      (∃ t, exec (.clockFail p) s = .next t ∧ t.fget .CLK_STATUS_CLOCK_FAIL = 1 ∧ p ∈ t.startup.failedPlls ∧
        p ∈ t.startup.offPlls ∧ exec (.pllRelock p) t = .next t ∧ t.mem = s.mem ∧ t.cores = s.cores ∧ t.job = s.job ∧
        t.log.sequence = (s.log.sequence + 1) % 2 ^ 32)) ∧
    (p ∈ s.startup.failedPlls → exec (.pllRelock p) s = .next s)

/-! ### Start-up and firmware images (R467 to R470, R475 to R480, R485, R486) -/

/-- Start-up: BOOT starts the activated image that verifies, else the other slot's, else it waits for a recovery image;
CONFIG loads the copy that wins and makes the dictionary available; SELFTEST clears module memory, takes spares or fails the
module; DISCOVERY makes it READY; a stage past its limit fails start-up (R434, R467 to R469, R479). -/
def Obligations.StartupStagesComplete : Prop :=
  ∀ (s : State) (ms : Nat), s.starting = true → s.startup.recovery = false →
    (s.crosses (.bootComplete ms) = true → s.startup.state ≤ 1 → s.startup.elapsed + 25 + ms ≤ 12000 → ms ≤ 1500 →
      (∀ m, s.slotImage s.secure.active = some m → s.verifies m = true →
        ∃ t, exec (.bootComplete ms) s = .next t ∧ t.startup.state = 2 ∧ t.fget .PWR_STATUS_STATE = 2 ∧
          t.secure.image = some m ∧ t.secure.running = s.secure.active ∧ t.secure.fallback = false) ∧
      (∀ m, s.slotVerifies s.secure.active = false → s.slotImage (1 - s.secure.active) = some m → s.verifies m = true →
        ∃ t, exec (.bootComplete ms) s = .next t ∧ t.startup.state = 2 ∧
          t.secure.image = some m ∧ t.secure.running = 1 - s.secure.active ∧ t.secure.fallback = true) ∧
      (s.slotVerifies s.secure.active = false → s.slotVerifies (1 - s.secure.active) = false →
        ∃ t, exec (.bootComplete ms) s = .next t ∧ t.startup.state = 1 ∧ t.startup.recovery = true ∧
          t.secure = s.secure ∧ t.log.sequence = (s.log.sequence + 1) % 2 ^ 32)) ∧
    (s.crosses (.configComplete ms) = true → s.startup.state = 2 → s.startup.elapsed + ms ≤ 12000 → ms ≤ 200 → s.fon .WIN_STATUS_HELD = false →
      (s.winner = none → ∃ t, exec (.configComplete ms) s = .next t ∧ t.startup.state = 3 ∧
        t.fget .WIN_STATUS_AVAILABLE = 1 ∧ t.dval 0x1012 1 1 = 0 ∧ t.mem = s.mem) ∧
      (∀ k b, s.winner = some (k, b) → fieldAt b 12 4 = 0 →
        ∃ t, exec (.configComplete ms) s = .next t ∧ t.startup.state = 3 ∧ t.fget .WIN_STATUS_AVAILABLE = 1 ∧
          t.dval 0x1012 1 0 = k ∧ t.dval 0x1012 2 0 = fieldAt b 8 4 ∧ t.mgmt.loaded = b ∧ t.mem = s.mem)) ∧
    (∀ r : SelfTest, s.crosses (.selftestComplete ms r) = true → s.startup.state = 3 → s.startup.elapsed + ms ≤ 12000 → ms ≤ 2310 →
      (selfTestFails r s.phys.aged s.phys.agedEngines = true →
        ∃ t, exec (.selftestComplete ms r) s = .next t ∧ t.startup.state = 6) ∧
      (selfTestFails r s.phys.aged s.phys.agedEngines = false →
        ∃ t, exec (.selftestComplete ms r) s = .next t ∧ t.startup.state = 4 ∧ t.mem = [] ∧
          t.phys.spareRow = (List.range 128).filterMap fun c => (lostRows r s.phys.aged c).head?.map fun row => (c, row))) ∧
    (s.crosses (.discoveryComplete ms) = true → s.startup.state = 4 → s.startup.elapsed + ms ≤ 12000 → ms ≤ 500 →
      ∃ t, exec (.discoveryComplete ms) s = .next t ∧ t.startup.state = 5 ∧ t.fget .HOST_STATUS_READY = 1 ∧
        t.fget .HOST_EVENT_READY = 1 ∧ t.mem = s.mem) ∧
    (∀ i, (i = .configComplete ms ∧ s.crosses i = true ∧ s.startup.state = 2 ∧ 200 < ms) ∨
        (i = .discoveryComplete ms ∧ s.crosses i = true ∧ s.startup.state = 4 ∧ 500 < ms) ∨ (i = .startupTimeout ∧ s.startup.state < 5) →
      ∃ t, exec i s = .next t ∧ t.startup.state = 6 ∧ t.mem = s.mem ∧ t.log.sequence = (s.log.sequence + 1) % 2 ^ 32) ∧
    (5 ≤ s.startup.state → exec .startupTimeout s = .next s)

/-- Firmware images, where the commands' clocks run: a verified image in the recovery area starts from slot 0, and one that does
not verify leaves the module waiting; an update writes the slot that does not run, and its end leaves the image that stands
at FirmwareSource where it verifies and flash reads it back, else an invalid slot; a slot that verifies is activated; a
rollback commit raises the counter to the running image's Svn and revokes the keys of its RevokeMask; all of these are
refused in the wrong state (R478 to R480, R485, R486). -/
def Obligations.FirmwareCommandsComplete : Prop :=
  ∀ (s : State) (p : DPath),
    (s.crosses .recoveryAreaPoll = true →
      let m := s.imageAt 0
      (s.startup.recovery = true → s.verifies m = true → s.startup.state = 1 →
        ∃ t, exec .recoveryAreaPoll s = .next t ∧ t.startup.state = 2 ∧
          t.startup.recovery = false ∧ t.secure.image = some m ∧ t.secure.active = 0 ∧
          t.slotImage 0 = some m ∧ t.mem = s.mem) ∧
      (s.startup.recovery = false ∨ s.verifies m = false → exec .recoveryAreaPoll s = .next s)) ∧
    (∀ slot, slot < 2 → s.pathMay p (.firmwareUpdate p slot) →
      (slot ≠ s.secure.running → s.secure.update = none → exec (.firmwareUpdate p slot) s = .next
        ((State.updateStatus { s with secure := { s.secure with update := some slot } } 1).okReply p 0x9001 4 (bytesOf 1 slot) 1)) ∧
      (slot = s.secure.running ∨ s.secure.update.isSome = true →
        exec (.firmwareUpdate p slot) s = .next (s.badReply p 0x9001 4 (bytesOf 1 slot) 1 7))) ∧
    (∀ slot, slot < 2 → s.pathMay p (.firmwareActivate p slot) →
      (s.slotVerifies slot = true → exec (.firmwareActivate p slot) s = .next
        (State.okReply { s with secure := { s.secure with active := slot } } p 0x9001 5 (bytesOf 1 slot) 1)) ∧
      (s.slotVerifies slot = false →
        exec (.firmwareActivate p slot) s = .next (s.badReply p 0x9001 5 (bytesOf 1 slot) 1 7))) ∧
    (∀ ok slot, s.crosses (.firmwareUpdateComplete ok) = true → s.secure.update = some slot →
      let img := s.imageAt (s.dval 0x9001 3 0)
      ∃ t, exec (.firmwareUpdateComplete ok) s = .next t ∧ t.secure.update = none ∧
        t.slotImage slot = (if s.verifies img && ok then some img else none) ∧
        (∀ k, k ≠ slot → t.slotImage k = s.slotImage k) ∧
        t.dval 0x9001 6 0 = (if s.verifies img then (if ok then 3 else 5) else 4) ∧ t.mem = s.mem) ∧
    (s.pathMay p (.rollbackCommit p) →
      (∀ m, s.secure.update = none → s.secure.image = some m →
        ∃ t : State, exec (.rollbackCommit p) s = .next (t.okReply p 0x9002 2 [1] 1) ∧ t.rollback = max s.rollback m.svn ∧
          (∀ k, k < 4 → t.keyState k = (if bit m.revokeMask k then 2 else s.keyState k)) ∧ t.mem = s.mem ∧ t.regs = s.regs) ∧
      (s.secure.update.isSome = true → exec (.rollbackCommit p) s = .next (s.badReply p 0x9002 2 [1] 1 7)))

/-! ### The security block (R473, R474, R481 to R483, R393) -/

/-- SPDM requests while the firmware serves: version, capabilities, algorithms and the slot 0 digest, chain, challenge and
measurements are answered, slots other than 0 with an error; a transport opens up to four sessions, which FINISH makes
ready, and the requests inside a ready session are answered; END_SESSION ends it; IDE keys are taken inside a secured DOE
session alone; while the firmware is away a request over DOE waits and one over MCTP is not answered (R473, R474, R481 to R483,
R485). -/
def Obligations.SecurityRequestsComplete : Prop :=
  ∀ (s : State) (tr : Transport),
    (s.serving = true → s.flows (spdmClk tr) = true →
      exec (.getVersion tr) s = .next (s.answer (.version 0x13)) ∧
      exec (.getCapabilities tr) s = .next (s.answer (.capabilities ["CERT", "CHAL", "MEAS", "KEY_EX", "ENCRYPT", "MAC", "HBEAT"])) ∧
      (∀ a, a < 2 → ∃ t, exec (.negotiateAlgorithms tr a) s = .next t ∧ t.secure.aead.get (tnum tr) 0 = a ∧
        t.secure.answers = s.secure.answers ++ [.algorithms a] ∧ t.secure.sessions = s.secure.sessions) ∧
      (∀ nonce offset len,
        exec (.getDigests tr 0) s = .next (s.answer (.digests (sm3 certChain))) ∧
        exec (.getCertificate tr 0 offset len) s = .next (s.answer (if certChain.length ≤ offset then badRequest
          else .certificate ((certChain.drop offset).take len)
            (certChain.length - offset - min len (certChain.length - offset)))) ∧
        exec (.challenge tr 0 nonce) s = .next (s.answer (.challengeAuth (sign nonce)))) ∧
      (∀ slot nonce offset len, slot ≠ 0 →
        exec (.getDigests tr slot) s = .next (s.answer badRequest) ∧
        exec (.getCertificate tr slot offset len) s = .next (s.answer badRequest) ∧
        exec (.challenge tr slot nonce) s = .next (s.answer badRequest)) ∧
      (∀ a, 2 ≤ a → exec (.negotiateAlgorithms tr a) s = .next (s.answer badRequest)) ∧
      (∀ k nonce, 6 < k → k ≠ 0xFF → exec (.getMeasurements tr k nonce) s = .next (s.answer badRequest)) ∧
      (∀ nonce, exec (.getMeasurements tr 0 nonce) s = .next (s.answer (.measurements [] (sign nonce)))) ∧
      (∀ k nonce, 1 ≤ k → k ≤ 6 → exec (.getMeasurements tr k nonce) s = .next
        (s.answer (.measurements (s.measurement k) (sign (s.measurement k ++ nonce))))) ∧
      (∀ nonce, exec (.getMeasurements tr 0xFF nonce) s = .next (s.answer (.measurements ([1, 2, 3, 4, 5, 6].flatMap s.measurement)
        (sign ([1, 2, 3, 4, 5, 6].flatMap s.measurement ++ nonce))))) ∧
      (∀ r, (s.sessionsOf tr).length < 4 →
        ∃ t, exec (.keyExchange tr r) s = .next t ∧
          t.secure.sessions = s.secure.sessions ++ [{ transport := tnum tr, id := s.secure.nextSession }] ∧
          t.secure.nextSession = s.secure.nextSession + 1 ∧
          t.secure.answers = s.secure.answers ++ [.keyExchange s.secure.nextSession (sign (bytesOf 4 r))] ∧ t.regs = s.regs) ∧
      (∀ r, 4 ≤ (s.sessionsOf tr).length → exec (.keyExchange tr r) s = .next (s.answer busy)) ∧
      (∀ x, (s.sessionsOf tr).find? (fun y => y.id = x.id) = some x →
        (x.ready = false → ∃ t, exec (.finish tr x.id) s = .next t ∧ { x with ready := true } ∈ t.secure.sessions ∧
          x ∉ t.secure.sessions ∧ t.secure.sessions.length = s.secure.sessions.length) ∧
        (x.ready = true →
          exec (.heartbeat tr x.id) s = .next (s.answer (.done x.id)) ∧
          (∃ t, exec (.keyUpdate tr x.id) s = .next t ∧ { x with keys := x.keys + 1 } ∈ t.secure.sessions ∧
            t.secure.sessions.length = s.secure.sessions.length) ∧
          (∃ t, exec (.endSession tr x.id) s = .next t ∧
            t.secure.sessions = s.secure.sessions.filter (· ≠ x) ∧ t.secure.answers = s.secure.answers ++ [.done x.id]))) ∧
      (∀ n, (s.sessionsOf tr).find? (fun y => y.id = n) = none →
        exec (.finish tr n) s = .next (s.answer badRequest) ∧ exec (.heartbeat tr n) s = .next (s.answer badRequest) ∧
        exec (.keyUpdate tr n) s = .next (s.answer badRequest) ∧ exec (.endSession tr n) s = .next (s.answer badRequest)) ∧
      (∀ session stream, tr = .doe →
        (stream < 2 → (s.sessionsOf .doe).any (fun x => x.id = session && x.ready) = true →
          ∃ t, exec (.ideKm session stream) s = .next t ∧ stream ∈ t.host.ide ∧ stream ∉ t.host.insecure ∧ t.fget .HOST_STATUS_IDE_ACTIVE = 1 ∧
            t.secure.answers = s.secure.answers ++ [.ideKm stream]) ∧
        (2 ≤ stream ∨ (s.sessionsOf .doe).any (fun x => x.id = session && x.ready) = false →
          exec (.ideKm session stream) s = .next (s.answer badRequest)))) ∧
    (s.fon .WIN_STATUS_AVAILABLE = false → ∀ i, i = .getVersion tr ∨ i = .getCapabilities tr ∨ (∃ a, i = .negotiateAlgorithms tr a) ∨
        (∃ n, i = .getDigests tr n) ∨ (∃ n o l, i = .getCertificate tr n o l) ∨ (∃ n b, i = .challenge tr n b) ∨
        (∃ n b, i = .getMeasurements tr n b) ∨ (∃ n, i = .keyExchange tr n) ∨ (∃ n, i = .finish tr n) ∨
        (∃ n, i = .heartbeat tr n) ∨ (∃ n, i = .keyUpdate tr n) ∨ (∃ n, i = .endSession tr n) →
      (tr = .doe → exec i s = .next (s.hold i)) ∧ (tr = .mctp → s.flows [26] = true → exec i s = .next s))
end

