-- ==== Sys2Proof/Laws/Bits.lean ====
section
/-! SUPPORT. Laws of bit fields, little-endian bytes and sparse maps. -/

namespace Sys2Proof.Laws

open Sys2Proof.Machine

/-! ### Bit fields -/

theorem bits_testBit (x lo w i : Nat) : (bits x lo w).testBit i = (decide (i < w) && x.testBit (lo + i)) := by
  simp [bits, Nat.testBit_mod_two_pow, Nat.testBit_shiftRight]

theorem setBits_testBit (x lo w v i : Nat) :
    (setBits x lo w v).testBit i =
      if i < lo then x.testBit i else if i < lo + w then v.testBit (i - lo) else x.testBit i := by
  have e : setBits x lo w v = 2 ^ lo * (2 ^ w * (x >>> (lo + w)) + v % 2 ^ w) + x % 2 ^ lo := by
    unfold setBits
    rw [Nat.pow_add]; ring
  rw [e, Nat.testBit_two_pow_mul_add _ (Nat.mod_lt _ (Nat.two_pow_pos lo))]
  by_cases h : i < lo
  · simp [h, Nat.testBit_mod_two_pow]
  · rw [if_neg h, if_neg h, Nat.testBit_two_pow_mul_add _ (Nat.mod_lt _ (Nat.two_pow_pos w))]
    by_cases h2 : i - lo < w
    · have : i < lo + w := by omega
      simp [h2, this, Nat.testBit_mod_two_pow]
    · have : ¬ i < lo + w := by omega
      simp only [h2, this, if_false, Nat.testBit_shiftRight]
      congr 1
      omega

/-- A field that has just been set. -/
theorem bits_setBits_same (x lo w v : Nat) : bits (setBits x lo w v) lo w = v % 2 ^ w := by
  apply Nat.eq_of_testBit_eq
  intro i
  rw [bits_testBit, setBits_testBit, Nat.testBit_mod_two_pow]
  by_cases h : i < w <;> simp [h]

/-- Another field of the same word stays. -/
theorem bits_setBits_other (x lo w v lo' w' : Nat) (h : lo' + w' ≤ lo ∨ lo + w ≤ lo') :
    bits (setBits x lo w v) lo' w' = bits x lo' w' := by
  apply Nat.eq_of_testBit_eq
  intro i
  rw [bits_testBit, bits_testBit, setBits_testBit]
  by_cases hi : i < w'
  · simp only [hi, decide_true, Bool.true_and]
    split
    · rfl
    · split
      · omega
      · rfl
  · simp [hi]

/-- Bits below 32 of a word cut to 32 bits. -/
theorem bits_mod32 (x lo w : Nat) (h : lo + w ≤ 32) : bits (x % 2 ^ 32) lo w = bits x lo w := by
  apply Nat.eq_of_testBit_eq
  intro i
  rw [bits_testBit, bits_testBit, Nat.testBit_mod_two_pow]
  by_cases hi : i < w
  · have : lo + i < 32 := by omega
    simp [hi, this]
  · simp [hi]

theorem bits_lt (x lo w : Nat) : bits x lo w < 2 ^ w := Nat.mod_lt _ (Nat.two_pow_pos w)

@[simp] theorem b2n_true : b2n true = 1 := rfl
@[simp] theorem b2n_false : b2n false = 0 := rfl

/-! ### Bytes -/

@[simp] theorem bytesOf_length (n v : Nat) : (bytesOf n v).length = n := by
  induction n generalizing v with
  | zero => rfl
  | succ n ih => simp [bytesOf, ih]

/-- The bytes of a number spell it again. -/
theorem natOf_bytesOf (n v : Nat) : natOf (bytesOf n v) = v % 256 ^ n := by
  induction n generalizing v with
  | zero => simp [bytesOf, natOf, Nat.mod_one]
  | succ n ih =>
    simp only [bytesOf, natOf, ih, BitVec.toNat_ofNat]
    have h : v % 256 ^ (n + 1) = v % 256 + 256 * (v / 256 % 256 ^ n) := by
      rw [Nat.pow_succ, Nat.mul_comm (256 ^ n) 256, Nat.mod_mul]
    rw [h]

theorem natOf_lt (b : List Byte) : natOf b < 256 ^ b.length := by
  induction b with
  | nil => simp [natOf]
  | cons x r ih =>
    simp only [natOf, List.length_cons, Nat.pow_succ]
    have := x.isLt
    omega

/-! ### Sparse maps -/

variable {α : Type}

@[simp] theorem find?_nil (a : Nat) : SMap.find? ([] : SMap α) a = none := rfl

@[simp] theorem find?_put_same (m : SMap α) (a : Nat) (v : α) : (m.put a v).find? a = some v := by
  induction m with
  | nil => simp [SMap.put, SMap.find?]
  | cons x r ih =>
    obtain ⟨k, w⟩ := x
    simp only [SMap.put]
    split
    · simp [SMap.find?]
    · split
      · simp [SMap.find?]
      · rename_i h
        simpa [SMap.find?, h] using ih

theorem find?_put_ne (m : SMap α) (a b : Nat) (v : α) (h : b ≠ a) : (m.put a v).find? b = m.find? b := by
  induction m with
  | nil => simp [SMap.put, SMap.find?, Ne.symm h]
  | cons x r ih =>
    obtain ⟨k, w⟩ := x
    simp only [SMap.put]
    split
    · simp [SMap.find?, Ne.symm h]
    · split
      · rename_i hk
        subst hk
        simp [SMap.find?, Ne.symm h]
      · simp [SMap.find?, ih]

/-- A key that was taken out is not listed. -/
@[simp] theorem find?_del_same (m : SMap α) (a : Nat) : (m.del a).find? a = none := by
  induction m with
  | nil => rfl
  | cons x r ih =>
    by_cases h : x.1 = a
    · simpa [SMap.del, List.filter_cons, h] using ih
    · simpa [SMap.del, List.filter_cons, h, SMap.find?] using ih

/-- Every other key keeps its entry. -/
theorem find?_del_ne (m : SMap α) (a b : Nat) (h : b ≠ a) : (m.del a).find? b = m.find? b := by
  induction m with
  | nil => rfl
  | cons x r ih =>
    simp only [SMap.del] at ih ⊢
    by_cases hx : x.1 = a
    · simpa [List.filter_cons, hx, SMap.find?, Ne.symm h] using ih
    · simp only [List.filter_cons, hx, ne_eq, not_false_eq_true, decide_true, if_true, SMap.find?]
      split
      · rfl
      · simpa using ih

@[simp] theorem get_put_same (m : SMap α) (a : Nat) (v d : α) : (m.put a v).get a d = v := by simp [SMap.get]

theorem get_put_ne (m : SMap α) (a b : Nat) (v d : α) (h : b ≠ a) : (m.put a v).get b d = m.get b d := by
  simp [SMap.get, find?_put_ne m a b v h]

end Sys2Proof.Laws
end

