-- ==== Sys2Proof/Laws/State.lean ====
section
/-! SUPPORT. What the basic updates of State leave alone: one lemma per field and update. -/

namespace Sys2Proof.Laws

open Sys2Proof Sys2Proof.Machine

variable (s : State)

/-! ### setRword -/

@[simp] theorem setRword_pending (sec : Sec) (inst off v : Nat) : (s.setRword sec inst off v).pending = s.pending := rfl
@[simp] theorem setRword_fresh (sec : Sec) (inst off v : Nat) : (s.setRword sec inst off v).fresh = s.fresh := rfl
@[simp] theorem setRword_mem (sec : Sec) (inst off v : Nat) : (s.setRword sec inst off v).mem = s.mem := rfl
@[simp] theorem setRword_memBad (sec : Sec) (inst off v : Nat) : (s.setRword sec inst off v).memBad = s.memBad := rfl
@[simp] theorem setRword_dict (sec : Sec) (inst off v : Nat) : (s.setRword sec inst off v).dict = s.dict := rfl
@[simp] theorem setRword_doms (sec : Sec) (inst off v : Nat) : (s.setRword sec inst off v).doms = s.doms := rfl
@[simp] theorem setRword_cores (sec : Sec) (inst off v : Nat) : (s.setRword sec inst off v).cores = s.cores := rfl
@[simp] theorem setRword_plan (sec : Sec) (inst off v : Nat) : (s.setRword sec inst off v).plan = s.plan := rfl
@[simp] theorem setRword_ledger (sec : Sec) (inst off v : Nat) : (s.setRword sec inst off v).ledger = s.ledger := rfl
@[simp] theorem setRword_job (sec : Sec) (inst off v : Nat) : (s.setRword sec inst off v).job = s.job := rfl
@[simp] theorem setRword_upd (sec : Sec) (inst off v : Nat) : (s.setRword sec inst off v).upd = s.upd := rfl
@[simp] theorem setRword_exch (sec : Sec) (inst off v : Nat) : (s.setRword sec inst off v).exch = s.exch := rfl
@[simp] theorem setRword_rings (sec : Sec) (inst off v : Nat) : (s.setRword sec inst off v).rings = s.rings := rfl
@[simp] theorem setRword_itin (sec : Sec) (inst off v : Nat) : (s.setRword sec inst off v).itin = s.itin := rfl
@[simp] theorem setRword_trav (sec : Sec) (inst off v : Nat) : (s.setRword sec inst off v).trav = s.trav := rfl
@[simp] theorem setRword_fab (sec : Sec) (inst off v : Nat) : (s.setRword sec inst off v).fab = s.fab := rfl
@[simp] theorem setRword_fmbs (sec : Sec) (inst off v : Nat) : (s.setRword sec inst off v).fmbs = s.fmbs := rfl
@[simp] theorem setRword_faults (sec : Sec) (inst off v : Nat) : (s.setRword sec inst off v).faults = s.faults := rfl
@[simp] theorem setRword_log (sec : Sec) (inst off v : Nat) : (s.setRword sec inst off v).log = s.log := rfl
@[simp] theorem setRword_stats (sec : Sec) (inst off v : Nat) : (s.setRword sec inst off v).stats = s.stats := rfl
@[simp] theorem setRword_lastStats (sec : Sec) (inst off v : Nat) : (s.setRword sec inst off v).lastStats = s.lastStats := rfl
@[simp] theorem setRword_gus (sec : Sec) (inst off v : Nat) : (s.setRword sec inst off v).gus = s.gus := rfl
@[simp] theorem setRword_host (sec : Sec) (inst off v : Nat) : (s.setRword sec inst off v).host = s.host := rfl
@[simp] theorem setRword_seqSnap (sec : Sec) (inst off v : Nat) : (s.setRword sec inst off v).seqSnap = s.seqSnap := rfl
@[simp] theorem setRword_vecSnap (sec : Sec) (inst off v : Nat) : (s.setRword sec inst off v).vecSnap = s.vecSnap := rfl
@[simp] theorem setRword_mbs (sec : Sec) (inst off v : Nat) : (s.setRword sec inst off v).mbs = s.mbs := rfl
@[simp] theorem setRword_mgmt (sec : Sec) (inst off v : Nat) : (s.setRword sec inst off v).mgmt = s.mgmt := rfl
@[simp] theorem setRword_hks (sec : Sec) (inst off v : Nat) : (s.setRword sec inst off v).hks = s.hks := rfl
@[simp] theorem setRword_startup (sec : Sec) (inst off v : Nat) : (s.setRword sec inst off v).startup = s.startup := rfl
@[simp] theorem setRword_power (sec : Sec) (inst off v : Nat) : (s.setRword sec inst off v).power = s.power := rfl
@[simp] theorem setRword_secure (sec : Sec) (inst off v : Nat) : (s.setRword sec inst off v).secure = s.secure := rfl
@[simp] theorem setRword_reply (sec : Sec) (inst off v : Nat) : (s.setRword sec inst off v).reply = s.reply := rfl
@[simp] theorem setRword_unsupported (sec : Sec) (inst off v : Nat) : (s.setRword sec inst off v).unsupported = s.unsupported := rfl
@[simp] theorem setRword_pendingDict (sec : Sec) (inst off v : Nat) : (s.setRword sec inst off v).pendingDict = s.pendingDict := rfl
@[simp] theorem setRword_phys (sec : Sec) (inst off v : Nat) : (s.setRword sec inst off v).phys = s.phys := rfl
@[simp] theorem setRword_tables (sec : Sec) (inst off v : Nat) : (s.setRword sec inst off v).tables = s.tables := rfl
@[simp] theorem setRword_netOut (sec : Sec) (inst off v : Nat) : (s.setRword sec inst off v).netOut = s.netOut := rfl
@[simp] theorem setRword_band (sec : Sec) (inst off v : Nat) : (s.setRword sec inst off v).band = s.band := rfl
@[simp] theorem setRword_bounds (sec : Sec) (inst off v : Nat) : (s.setRword sec inst off v).bounds = s.bounds := rfl
@[simp] theorem setRword_creepTot (sec : Sec) (inst off v : Nat) : (s.setRword sec inst off v).creepTot = s.creepTot := rfl

/-! ### fset -/

@[simp] theorem fset_pending (f : Fld) (v a i j : Nat) : (s.fset f v a i j).pending = s.pending := rfl
@[simp] theorem fset_fresh (f : Fld) (v a i j : Nat) : (s.fset f v a i j).fresh = s.fresh := rfl
@[simp] theorem fset_mem (f : Fld) (v a i j : Nat) : (s.fset f v a i j).mem = s.mem := rfl
@[simp] theorem fset_memBad (f : Fld) (v a i j : Nat) : (s.fset f v a i j).memBad = s.memBad := rfl
@[simp] theorem fset_dict (f : Fld) (v a i j : Nat) : (s.fset f v a i j).dict = s.dict := rfl
@[simp] theorem fset_doms (f : Fld) (v a i j : Nat) : (s.fset f v a i j).doms = s.doms := rfl
@[simp] theorem fset_cores (f : Fld) (v a i j : Nat) : (s.fset f v a i j).cores = s.cores := rfl
@[simp] theorem fset_plan (f : Fld) (v a i j : Nat) : (s.fset f v a i j).plan = s.plan := rfl
@[simp] theorem fset_ledger (f : Fld) (v a i j : Nat) : (s.fset f v a i j).ledger = s.ledger := rfl
@[simp] theorem fset_job (f : Fld) (v a i j : Nat) : (s.fset f v a i j).job = s.job := rfl
@[simp] theorem fset_upd (f : Fld) (v a i j : Nat) : (s.fset f v a i j).upd = s.upd := rfl
@[simp] theorem fset_exch (f : Fld) (v a i j : Nat) : (s.fset f v a i j).exch = s.exch := rfl
@[simp] theorem fset_rings (f : Fld) (v a i j : Nat) : (s.fset f v a i j).rings = s.rings := rfl
@[simp] theorem fset_itin (f : Fld) (v a i j : Nat) : (s.fset f v a i j).itin = s.itin := rfl
@[simp] theorem fset_trav (f : Fld) (v a i j : Nat) : (s.fset f v a i j).trav = s.trav := rfl
@[simp] theorem fset_fab (f : Fld) (v a i j : Nat) : (s.fset f v a i j).fab = s.fab := rfl
@[simp] theorem fset_fmbs (f : Fld) (v a i j : Nat) : (s.fset f v a i j).fmbs = s.fmbs := rfl
@[simp] theorem fset_faults (f : Fld) (v a i j : Nat) : (s.fset f v a i j).faults = s.faults := rfl
@[simp] theorem fset_log (f : Fld) (v a i j : Nat) : (s.fset f v a i j).log = s.log := rfl
@[simp] theorem fset_stats (f : Fld) (v a i j : Nat) : (s.fset f v a i j).stats = s.stats := rfl
@[simp] theorem fset_lastStats (f : Fld) (v a i j : Nat) : (s.fset f v a i j).lastStats = s.lastStats := rfl
@[simp] theorem fset_gus (f : Fld) (v a i j : Nat) : (s.fset f v a i j).gus = s.gus := rfl
@[simp] theorem fset_host (f : Fld) (v a i j : Nat) : (s.fset f v a i j).host = s.host := rfl
@[simp] theorem fset_seqSnap (f : Fld) (v a i j : Nat) : (s.fset f v a i j).seqSnap = s.seqSnap := rfl
@[simp] theorem fset_vecSnap (f : Fld) (v a i j : Nat) : (s.fset f v a i j).vecSnap = s.vecSnap := rfl
@[simp] theorem fset_mbs (f : Fld) (v a i j : Nat) : (s.fset f v a i j).mbs = s.mbs := rfl
@[simp] theorem fset_mgmt (f : Fld) (v a i j : Nat) : (s.fset f v a i j).mgmt = s.mgmt := rfl
@[simp] theorem fset_hks (f : Fld) (v a i j : Nat) : (s.fset f v a i j).hks = s.hks := rfl
@[simp] theorem fset_startup (f : Fld) (v a i j : Nat) : (s.fset f v a i j).startup = s.startup := rfl
@[simp] theorem fset_power (f : Fld) (v a i j : Nat) : (s.fset f v a i j).power = s.power := rfl
@[simp] theorem fset_secure (f : Fld) (v a i j : Nat) : (s.fset f v a i j).secure = s.secure := rfl
@[simp] theorem fset_reply (f : Fld) (v a i j : Nat) : (s.fset f v a i j).reply = s.reply := rfl
@[simp] theorem fset_unsupported (f : Fld) (v a i j : Nat) : (s.fset f v a i j).unsupported = s.unsupported := rfl
@[simp] theorem fset_pendingDict (f : Fld) (v a i j : Nat) : (s.fset f v a i j).pendingDict = s.pendingDict := rfl
@[simp] theorem fset_phys (f : Fld) (v a i j : Nat) : (s.fset f v a i j).phys = s.phys := rfl
@[simp] theorem fset_tables (f : Fld) (v a i j : Nat) : (s.fset f v a i j).tables = s.tables := rfl
@[simp] theorem fset_netOut (f : Fld) (v a i j : Nat) : (s.fset f v a i j).netOut = s.netOut := rfl
@[simp] theorem fset_band (f : Fld) (v a i j : Nat) : (s.fset f v a i j).band = s.band := rfl
@[simp] theorem fset_bounds (f : Fld) (v a i j : Nat) : (s.fset f v a i j).bounds = s.bounds := rfl
@[simp] theorem fset_creepTot (f : Fld) (v a i j : Nat) : (s.fset f v a i j).creepTot = s.creepTot := rfl

/-! ### fsetS -/

@[simp] theorem fsetS_pending (f : Fld) (v : Int) (a i j : Nat) : (s.fsetS f v a i j).pending = s.pending := rfl
@[simp] theorem fsetS_fresh (f : Fld) (v : Int) (a i j : Nat) : (s.fsetS f v a i j).fresh = s.fresh := rfl
@[simp] theorem fsetS_mem (f : Fld) (v : Int) (a i j : Nat) : (s.fsetS f v a i j).mem = s.mem := rfl
@[simp] theorem fsetS_memBad (f : Fld) (v : Int) (a i j : Nat) : (s.fsetS f v a i j).memBad = s.memBad := rfl
@[simp] theorem fsetS_dict (f : Fld) (v : Int) (a i j : Nat) : (s.fsetS f v a i j).dict = s.dict := rfl
@[simp] theorem fsetS_doms (f : Fld) (v : Int) (a i j : Nat) : (s.fsetS f v a i j).doms = s.doms := rfl
@[simp] theorem fsetS_cores (f : Fld) (v : Int) (a i j : Nat) : (s.fsetS f v a i j).cores = s.cores := rfl
@[simp] theorem fsetS_plan (f : Fld) (v : Int) (a i j : Nat) : (s.fsetS f v a i j).plan = s.plan := rfl
@[simp] theorem fsetS_ledger (f : Fld) (v : Int) (a i j : Nat) : (s.fsetS f v a i j).ledger = s.ledger := rfl
@[simp] theorem fsetS_job (f : Fld) (v : Int) (a i j : Nat) : (s.fsetS f v a i j).job = s.job := rfl
@[simp] theorem fsetS_upd (f : Fld) (v : Int) (a i j : Nat) : (s.fsetS f v a i j).upd = s.upd := rfl
@[simp] theorem fsetS_exch (f : Fld) (v : Int) (a i j : Nat) : (s.fsetS f v a i j).exch = s.exch := rfl
@[simp] theorem fsetS_rings (f : Fld) (v : Int) (a i j : Nat) : (s.fsetS f v a i j).rings = s.rings := rfl
@[simp] theorem fsetS_itin (f : Fld) (v : Int) (a i j : Nat) : (s.fsetS f v a i j).itin = s.itin := rfl
@[simp] theorem fsetS_trav (f : Fld) (v : Int) (a i j : Nat) : (s.fsetS f v a i j).trav = s.trav := rfl
@[simp] theorem fsetS_fab (f : Fld) (v : Int) (a i j : Nat) : (s.fsetS f v a i j).fab = s.fab := rfl
@[simp] theorem fsetS_fmbs (f : Fld) (v : Int) (a i j : Nat) : (s.fsetS f v a i j).fmbs = s.fmbs := rfl
@[simp] theorem fsetS_faults (f : Fld) (v : Int) (a i j : Nat) : (s.fsetS f v a i j).faults = s.faults := rfl
@[simp] theorem fsetS_log (f : Fld) (v : Int) (a i j : Nat) : (s.fsetS f v a i j).log = s.log := rfl
@[simp] theorem fsetS_stats (f : Fld) (v : Int) (a i j : Nat) : (s.fsetS f v a i j).stats = s.stats := rfl
@[simp] theorem fsetS_lastStats (f : Fld) (v : Int) (a i j : Nat) : (s.fsetS f v a i j).lastStats = s.lastStats := rfl
@[simp] theorem fsetS_gus (f : Fld) (v : Int) (a i j : Nat) : (s.fsetS f v a i j).gus = s.gus := rfl
@[simp] theorem fsetS_host (f : Fld) (v : Int) (a i j : Nat) : (s.fsetS f v a i j).host = s.host := rfl
@[simp] theorem fsetS_seqSnap (f : Fld) (v : Int) (a i j : Nat) : (s.fsetS f v a i j).seqSnap = s.seqSnap := rfl
@[simp] theorem fsetS_vecSnap (f : Fld) (v : Int) (a i j : Nat) : (s.fsetS f v a i j).vecSnap = s.vecSnap := rfl
@[simp] theorem fsetS_mbs (f : Fld) (v : Int) (a i j : Nat) : (s.fsetS f v a i j).mbs = s.mbs := rfl
@[simp] theorem fsetS_mgmt (f : Fld) (v : Int) (a i j : Nat) : (s.fsetS f v a i j).mgmt = s.mgmt := rfl
@[simp] theorem fsetS_hks (f : Fld) (v : Int) (a i j : Nat) : (s.fsetS f v a i j).hks = s.hks := rfl
@[simp] theorem fsetS_startup (f : Fld) (v : Int) (a i j : Nat) : (s.fsetS f v a i j).startup = s.startup := rfl
@[simp] theorem fsetS_power (f : Fld) (v : Int) (a i j : Nat) : (s.fsetS f v a i j).power = s.power := rfl
@[simp] theorem fsetS_secure (f : Fld) (v : Int) (a i j : Nat) : (s.fsetS f v a i j).secure = s.secure := rfl
@[simp] theorem fsetS_reply (f : Fld) (v : Int) (a i j : Nat) : (s.fsetS f v a i j).reply = s.reply := rfl
@[simp] theorem fsetS_unsupported (f : Fld) (v : Int) (a i j : Nat) : (s.fsetS f v a i j).unsupported = s.unsupported := rfl
@[simp] theorem fsetS_pendingDict (f : Fld) (v : Int) (a i j : Nat) : (s.fsetS f v a i j).pendingDict = s.pendingDict := rfl
@[simp] theorem fsetS_phys (f : Fld) (v : Int) (a i j : Nat) : (s.fsetS f v a i j).phys = s.phys := rfl
@[simp] theorem fsetS_tables (f : Fld) (v : Int) (a i j : Nat) : (s.fsetS f v a i j).tables = s.tables := rfl
@[simp] theorem fsetS_netOut (f : Fld) (v : Int) (a i j : Nat) : (s.fsetS f v a i j).netOut = s.netOut := rfl
@[simp] theorem fsetS_band (f : Fld) (v : Int) (a i j : Nat) : (s.fsetS f v a i j).band = s.band := rfl
@[simp] theorem fsetS_bounds (f : Fld) (v : Int) (a i j : Nat) : (s.fsetS f v a i j).bounds = s.bounds := rfl
@[simp] theorem fsetS_creepTot (f : Fld) (v : Int) (a i j : Nat) : (s.fsetS f v a i j).creepTot = s.creepTot := rfl

/-! ### fcount -/

@[simp] theorem fcount_pending (f : Fld) (n a i j : Nat) : (s.fcount f n a i j).pending = s.pending := by unfold State.fcount; split <;> rfl
@[simp] theorem fcount_fresh (f : Fld) (n a i j : Nat) : (s.fcount f n a i j).fresh = s.fresh := by unfold State.fcount; split <;> rfl
@[simp] theorem fcount_mem (f : Fld) (n a i j : Nat) : (s.fcount f n a i j).mem = s.mem := by unfold State.fcount; split <;> rfl
@[simp] theorem fcount_memBad (f : Fld) (n a i j : Nat) : (s.fcount f n a i j).memBad = s.memBad := by unfold State.fcount; split <;> rfl
@[simp] theorem fcount_dict (f : Fld) (n a i j : Nat) : (s.fcount f n a i j).dict = s.dict := by unfold State.fcount; split <;> rfl
@[simp] theorem fcount_doms (f : Fld) (n a i j : Nat) : (s.fcount f n a i j).doms = s.doms := by unfold State.fcount; split <;> rfl
@[simp] theorem fcount_cores (f : Fld) (n a i j : Nat) : (s.fcount f n a i j).cores = s.cores := by unfold State.fcount; split <;> rfl
@[simp] theorem fcount_plan (f : Fld) (n a i j : Nat) : (s.fcount f n a i j).plan = s.plan := by unfold State.fcount; split <;> rfl
@[simp] theorem fcount_ledger (f : Fld) (n a i j : Nat) : (s.fcount f n a i j).ledger = s.ledger := by unfold State.fcount; split <;> rfl
@[simp] theorem fcount_job (f : Fld) (n a i j : Nat) : (s.fcount f n a i j).job = s.job := by unfold State.fcount; split <;> rfl
@[simp] theorem fcount_upd (f : Fld) (n a i j : Nat) : (s.fcount f n a i j).upd = s.upd := by unfold State.fcount; split <;> rfl
@[simp] theorem fcount_exch (f : Fld) (n a i j : Nat) : (s.fcount f n a i j).exch = s.exch := by unfold State.fcount; split <;> rfl
@[simp] theorem fcount_rings (f : Fld) (n a i j : Nat) : (s.fcount f n a i j).rings = s.rings := by unfold State.fcount; split <;> rfl
@[simp] theorem fcount_itin (f : Fld) (n a i j : Nat) : (s.fcount f n a i j).itin = s.itin := by unfold State.fcount; split <;> rfl
@[simp] theorem fcount_trav (f : Fld) (n a i j : Nat) : (s.fcount f n a i j).trav = s.trav := by unfold State.fcount; split <;> rfl
@[simp] theorem fcount_fab (f : Fld) (n a i j : Nat) : (s.fcount f n a i j).fab = s.fab := by unfold State.fcount; split <;> rfl
@[simp] theorem fcount_fmbs (f : Fld) (n a i j : Nat) : (s.fcount f n a i j).fmbs = s.fmbs := by unfold State.fcount; split <;> rfl
@[simp] theorem fcount_faults (f : Fld) (n a i j : Nat) : (s.fcount f n a i j).faults = s.faults := by unfold State.fcount; split <;> rfl
@[simp] theorem fcount_log (f : Fld) (n a i j : Nat) : (s.fcount f n a i j).log = s.log := by unfold State.fcount; split <;> rfl
@[simp] theorem fcount_stats (f : Fld) (n a i j : Nat) : (s.fcount f n a i j).stats = s.stats := by unfold State.fcount; split <;> rfl
@[simp] theorem fcount_lastStats (f : Fld) (n a i j : Nat) : (s.fcount f n a i j).lastStats = s.lastStats := by unfold State.fcount; split <;> rfl
@[simp] theorem fcount_gus (f : Fld) (n a i j : Nat) : (s.fcount f n a i j).gus = s.gus := by unfold State.fcount; split <;> rfl
@[simp] theorem fcount_host (f : Fld) (n a i j : Nat) : (s.fcount f n a i j).host = s.host := by unfold State.fcount; split <;> rfl
@[simp] theorem fcount_seqSnap (f : Fld) (n a i j : Nat) : (s.fcount f n a i j).seqSnap = s.seqSnap := by unfold State.fcount; split <;> rfl
@[simp] theorem fcount_vecSnap (f : Fld) (n a i j : Nat) : (s.fcount f n a i j).vecSnap = s.vecSnap := by unfold State.fcount; split <;> rfl
@[simp] theorem fcount_mbs (f : Fld) (n a i j : Nat) : (s.fcount f n a i j).mbs = s.mbs := by unfold State.fcount; split <;> rfl
@[simp] theorem fcount_mgmt (f : Fld) (n a i j : Nat) : (s.fcount f n a i j).mgmt = s.mgmt := by unfold State.fcount; split <;> rfl
@[simp] theorem fcount_hks (f : Fld) (n a i j : Nat) : (s.fcount f n a i j).hks = s.hks := by unfold State.fcount; split <;> rfl
@[simp] theorem fcount_startup (f : Fld) (n a i j : Nat) : (s.fcount f n a i j).startup = s.startup := by unfold State.fcount; split <;> rfl
@[simp] theorem fcount_power (f : Fld) (n a i j : Nat) : (s.fcount f n a i j).power = s.power := by unfold State.fcount; split <;> rfl
@[simp] theorem fcount_secure (f : Fld) (n a i j : Nat) : (s.fcount f n a i j).secure = s.secure := by unfold State.fcount; split <;> rfl
@[simp] theorem fcount_reply (f : Fld) (n a i j : Nat) : (s.fcount f n a i j).reply = s.reply := by unfold State.fcount; split <;> rfl
@[simp] theorem fcount_unsupported (f : Fld) (n a i j : Nat) : (s.fcount f n a i j).unsupported = s.unsupported := by unfold State.fcount; split <;> rfl
@[simp] theorem fcount_pendingDict (f : Fld) (n a i j : Nat) : (s.fcount f n a i j).pendingDict = s.pendingDict := by unfold State.fcount; split <;> rfl
@[simp] theorem fcount_phys (f : Fld) (n a i j : Nat) : (s.fcount f n a i j).phys = s.phys := by unfold State.fcount; split <;> rfl
@[simp] theorem fcount_tables (f : Fld) (n a i j : Nat) : (s.fcount f n a i j).tables = s.tables := by unfold State.fcount; split <;> rfl
@[simp] theorem fcount_netOut (f : Fld) (n a i j : Nat) : (s.fcount f n a i j).netOut = s.netOut := by unfold State.fcount; split <;> rfl
@[simp] theorem fcount_band (f : Fld) (n a i j : Nat) : (s.fcount f n a i j).band = s.band := by unfold State.fcount; split <;> rfl
@[simp] theorem fcount_bounds (f : Fld) (n a i j : Nat) : (s.fcount f n a i j).bounds = s.bounds := by unfold State.fcount; split <;> rfl
@[simp] theorem fcount_creepTot (f : Fld) (n a i j : Nat) : (s.fcount f n a i j).creepTot = s.creepTot := by unfold State.fcount; split <;> rfl

/-! ### setDval -/

@[simp] theorem setDval_pending (x y v : Nat) : (s.setDval x y v).pending = s.pending := rfl
@[simp] theorem setDval_fresh (x y v : Nat) : (s.setDval x y v).fresh = s.fresh := rfl
@[simp] theorem setDval_mem (x y v : Nat) : (s.setDval x y v).mem = s.mem := rfl
@[simp] theorem setDval_memBad (x y v : Nat) : (s.setDval x y v).memBad = s.memBad := rfl
@[simp] theorem setDval_regs (x y v : Nat) : (s.setDval x y v).regs = s.regs := rfl
@[simp] theorem setDval_doms (x y v : Nat) : (s.setDval x y v).doms = s.doms := rfl
@[simp] theorem setDval_cores (x y v : Nat) : (s.setDval x y v).cores = s.cores := rfl
@[simp] theorem setDval_plan (x y v : Nat) : (s.setDval x y v).plan = s.plan := rfl
@[simp] theorem setDval_ledger (x y v : Nat) : (s.setDval x y v).ledger = s.ledger := rfl
@[simp] theorem setDval_job (x y v : Nat) : (s.setDval x y v).job = s.job := rfl
@[simp] theorem setDval_upd (x y v : Nat) : (s.setDval x y v).upd = s.upd := rfl
@[simp] theorem setDval_exch (x y v : Nat) : (s.setDval x y v).exch = s.exch := rfl
@[simp] theorem setDval_rings (x y v : Nat) : (s.setDval x y v).rings = s.rings := rfl
@[simp] theorem setDval_itin (x y v : Nat) : (s.setDval x y v).itin = s.itin := rfl
@[simp] theorem setDval_trav (x y v : Nat) : (s.setDval x y v).trav = s.trav := rfl
@[simp] theorem setDval_fab (x y v : Nat) : (s.setDval x y v).fab = s.fab := rfl
@[simp] theorem setDval_fmbs (x y v : Nat) : (s.setDval x y v).fmbs = s.fmbs := rfl
@[simp] theorem setDval_faults (x y v : Nat) : (s.setDval x y v).faults = s.faults := rfl
@[simp] theorem setDval_log (x y v : Nat) : (s.setDval x y v).log = s.log := rfl
@[simp] theorem setDval_stats (x y v : Nat) : (s.setDval x y v).stats = s.stats := rfl
@[simp] theorem setDval_lastStats (x y v : Nat) : (s.setDval x y v).lastStats = s.lastStats := rfl
@[simp] theorem setDval_gus (x y v : Nat) : (s.setDval x y v).gus = s.gus := rfl
@[simp] theorem setDval_host (x y v : Nat) : (s.setDval x y v).host = s.host := rfl
@[simp] theorem setDval_seqSnap (x y v : Nat) : (s.setDval x y v).seqSnap = s.seqSnap := rfl
@[simp] theorem setDval_vecSnap (x y v : Nat) : (s.setDval x y v).vecSnap = s.vecSnap := rfl
@[simp] theorem setDval_mbs (x y v : Nat) : (s.setDval x y v).mbs = s.mbs := rfl
@[simp] theorem setDval_mgmt (x y v : Nat) : (s.setDval x y v).mgmt = s.mgmt := rfl
@[simp] theorem setDval_hks (x y v : Nat) : (s.setDval x y v).hks = s.hks := rfl
@[simp] theorem setDval_startup (x y v : Nat) : (s.setDval x y v).startup = s.startup := rfl
@[simp] theorem setDval_power (x y v : Nat) : (s.setDval x y v).power = s.power := rfl
@[simp] theorem setDval_secure (x y v : Nat) : (s.setDval x y v).secure = s.secure := rfl
@[simp] theorem setDval_reply (x y v : Nat) : (s.setDval x y v).reply = s.reply := rfl
@[simp] theorem setDval_unsupported (x y v : Nat) : (s.setDval x y v).unsupported = s.unsupported := rfl
@[simp] theorem setDval_pendingDict (x y v : Nat) : (s.setDval x y v).pendingDict = s.pendingDict := rfl
@[simp] theorem setDval_phys (x y v : Nat) : (s.setDval x y v).phys = s.phys := rfl
@[simp] theorem setDval_tables (x y v : Nat) : (s.setDval x y v).tables = s.tables := rfl
@[simp] theorem setDval_netOut (x y v : Nat) : (s.setDval x y v).netOut = s.netOut := rfl
@[simp] theorem setDval_band (x y v : Nat) : (s.setDval x y v).band = s.band := rfl
@[simp] theorem setDval_bounds (x y v : Nat) : (s.setDval x y v).bounds = s.bounds := rfl
@[simp] theorem setDval_creepTot (x y v : Nat) : (s.setDval x y v).creepTot = s.creepTot := rfl

/-! ### countD -/

@[simp] theorem countD_pending (x y n : Nat) : (s.countD x y n).pending = s.pending := by unfold State.countD; split <;> rfl
@[simp] theorem countD_fresh (x y n : Nat) : (s.countD x y n).fresh = s.fresh := by unfold State.countD; split <;> rfl
@[simp] theorem countD_mem (x y n : Nat) : (s.countD x y n).mem = s.mem := by unfold State.countD; split <;> rfl
@[simp] theorem countD_memBad (x y n : Nat) : (s.countD x y n).memBad = s.memBad := by unfold State.countD; split <;> rfl
@[simp] theorem countD_regs (x y n : Nat) : (s.countD x y n).regs = s.regs := by unfold State.countD; split <;> rfl
@[simp] theorem countD_doms (x y n : Nat) : (s.countD x y n).doms = s.doms := by unfold State.countD; split <;> rfl
@[simp] theorem countD_cores (x y n : Nat) : (s.countD x y n).cores = s.cores := by unfold State.countD; split <;> rfl
@[simp] theorem countD_plan (x y n : Nat) : (s.countD x y n).plan = s.plan := by unfold State.countD; split <;> rfl
@[simp] theorem countD_ledger (x y n : Nat) : (s.countD x y n).ledger = s.ledger := by unfold State.countD; split <;> rfl
@[simp] theorem countD_job (x y n : Nat) : (s.countD x y n).job = s.job := by unfold State.countD; split <;> rfl
@[simp] theorem countD_upd (x y n : Nat) : (s.countD x y n).upd = s.upd := by unfold State.countD; split <;> rfl
@[simp] theorem countD_exch (x y n : Nat) : (s.countD x y n).exch = s.exch := by unfold State.countD; split <;> rfl
@[simp] theorem countD_rings (x y n : Nat) : (s.countD x y n).rings = s.rings := by unfold State.countD; split <;> rfl
@[simp] theorem countD_itin (x y n : Nat) : (s.countD x y n).itin = s.itin := by unfold State.countD; split <;> rfl
@[simp] theorem countD_trav (x y n : Nat) : (s.countD x y n).trav = s.trav := by unfold State.countD; split <;> rfl
@[simp] theorem countD_fab (x y n : Nat) : (s.countD x y n).fab = s.fab := by unfold State.countD; split <;> rfl
@[simp] theorem countD_fmbs (x y n : Nat) : (s.countD x y n).fmbs = s.fmbs := by unfold State.countD; split <;> rfl
@[simp] theorem countD_faults (x y n : Nat) : (s.countD x y n).faults = s.faults := by unfold State.countD; split <;> rfl
@[simp] theorem countD_log (x y n : Nat) : (s.countD x y n).log = s.log := by unfold State.countD; split <;> rfl
@[simp] theorem countD_stats (x y n : Nat) : (s.countD x y n).stats = s.stats := by unfold State.countD; split <;> rfl
@[simp] theorem countD_lastStats (x y n : Nat) : (s.countD x y n).lastStats = s.lastStats := by unfold State.countD; split <;> rfl
@[simp] theorem countD_gus (x y n : Nat) : (s.countD x y n).gus = s.gus := by unfold State.countD; split <;> rfl
@[simp] theorem countD_host (x y n : Nat) : (s.countD x y n).host = s.host := by unfold State.countD; split <;> rfl
@[simp] theorem countD_seqSnap (x y n : Nat) : (s.countD x y n).seqSnap = s.seqSnap := by unfold State.countD; split <;> rfl
@[simp] theorem countD_vecSnap (x y n : Nat) : (s.countD x y n).vecSnap = s.vecSnap := by unfold State.countD; split <;> rfl
@[simp] theorem countD_mbs (x y n : Nat) : (s.countD x y n).mbs = s.mbs := by unfold State.countD; split <;> rfl
@[simp] theorem countD_mgmt (x y n : Nat) : (s.countD x y n).mgmt = s.mgmt := by unfold State.countD; split <;> rfl
@[simp] theorem countD_hks (x y n : Nat) : (s.countD x y n).hks = s.hks := by unfold State.countD; split <;> rfl
@[simp] theorem countD_startup (x y n : Nat) : (s.countD x y n).startup = s.startup := by unfold State.countD; split <;> rfl
@[simp] theorem countD_power (x y n : Nat) : (s.countD x y n).power = s.power := by unfold State.countD; split <;> rfl
@[simp] theorem countD_secure (x y n : Nat) : (s.countD x y n).secure = s.secure := by unfold State.countD; split <;> rfl
@[simp] theorem countD_reply (x y n : Nat) : (s.countD x y n).reply = s.reply := by unfold State.countD; split <;> rfl
@[simp] theorem countD_unsupported (x y n : Nat) : (s.countD x y n).unsupported = s.unsupported := by unfold State.countD; split <;> rfl
@[simp] theorem countD_pendingDict (x y n : Nat) : (s.countD x y n).pendingDict = s.pendingDict := by unfold State.countD; split <;> rfl
@[simp] theorem countD_phys (x y n : Nat) : (s.countD x y n).phys = s.phys := by unfold State.countD; split <;> rfl
@[simp] theorem countD_tables (x y n : Nat) : (s.countD x y n).tables = s.tables := by unfold State.countD; split <;> rfl
@[simp] theorem countD_netOut (x y n : Nat) : (s.countD x y n).netOut = s.netOut := by unfold State.countD; split <;> rfl
@[simp] theorem countD_band (x y n : Nat) : (s.countD x y n).band = s.band := by unfold State.countD; split <;> rfl
@[simp] theorem countD_bounds (x y n : Nat) : (s.countD x y n).bounds = s.bounds := by unfold State.countD; split <;> rfl
@[simp] theorem countD_creepTot (x y n : Nat) : (s.countD x y n).creepTot = s.creepTot := by unfold State.countD; split <;> rfl

/-! ### setCore -/

@[simp] theorem setCore_pending (c : Nat) (k : Core) : (s.setCore c k).pending = s.pending := rfl
@[simp] theorem setCore_fresh (c : Nat) (k : Core) : (s.setCore c k).fresh = s.fresh := rfl
@[simp] theorem setCore_mem (c : Nat) (k : Core) : (s.setCore c k).mem = s.mem := rfl
@[simp] theorem setCore_memBad (c : Nat) (k : Core) : (s.setCore c k).memBad = s.memBad := rfl
@[simp] theorem setCore_regs (c : Nat) (k : Core) : (s.setCore c k).regs = s.regs := rfl
@[simp] theorem setCore_dict (c : Nat) (k : Core) : (s.setCore c k).dict = s.dict := rfl
@[simp] theorem setCore_doms (c : Nat) (k : Core) : (s.setCore c k).doms = s.doms := rfl
@[simp] theorem setCore_plan (c : Nat) (k : Core) : (s.setCore c k).plan = s.plan := rfl
@[simp] theorem setCore_ledger (c : Nat) (k : Core) : (s.setCore c k).ledger = s.ledger := rfl
@[simp] theorem setCore_job (c : Nat) (k : Core) : (s.setCore c k).job = s.job := rfl
@[simp] theorem setCore_upd (c : Nat) (k : Core) : (s.setCore c k).upd = s.upd := rfl
@[simp] theorem setCore_exch (c : Nat) (k : Core) : (s.setCore c k).exch = s.exch := rfl
@[simp] theorem setCore_rings (c : Nat) (k : Core) : (s.setCore c k).rings = s.rings := rfl
@[simp] theorem setCore_itin (c : Nat) (k : Core) : (s.setCore c k).itin = s.itin := rfl
@[simp] theorem setCore_trav (c : Nat) (k : Core) : (s.setCore c k).trav = s.trav := rfl
@[simp] theorem setCore_fab (c : Nat) (k : Core) : (s.setCore c k).fab = s.fab := rfl
@[simp] theorem setCore_fmbs (c : Nat) (k : Core) : (s.setCore c k).fmbs = s.fmbs := rfl
@[simp] theorem setCore_faults (c : Nat) (k : Core) : (s.setCore c k).faults = s.faults := rfl
@[simp] theorem setCore_log (c : Nat) (k : Core) : (s.setCore c k).log = s.log := rfl
@[simp] theorem setCore_stats (c : Nat) (k : Core) : (s.setCore c k).stats = s.stats := rfl
@[simp] theorem setCore_lastStats (c : Nat) (k : Core) : (s.setCore c k).lastStats = s.lastStats := rfl
@[simp] theorem setCore_gus (c : Nat) (k : Core) : (s.setCore c k).gus = s.gus := rfl
@[simp] theorem setCore_host (c : Nat) (k : Core) : (s.setCore c k).host = s.host := rfl
@[simp] theorem setCore_seqSnap (c : Nat) (k : Core) : (s.setCore c k).seqSnap = s.seqSnap := rfl
@[simp] theorem setCore_vecSnap (c : Nat) (k : Core) : (s.setCore c k).vecSnap = s.vecSnap := rfl
@[simp] theorem setCore_mbs (c : Nat) (k : Core) : (s.setCore c k).mbs = s.mbs := rfl
@[simp] theorem setCore_mgmt (c : Nat) (k : Core) : (s.setCore c k).mgmt = s.mgmt := rfl
@[simp] theorem setCore_hks (c : Nat) (k : Core) : (s.setCore c k).hks = s.hks := rfl
@[simp] theorem setCore_startup (c : Nat) (k : Core) : (s.setCore c k).startup = s.startup := rfl
@[simp] theorem setCore_power (c : Nat) (k : Core) : (s.setCore c k).power = s.power := rfl
@[simp] theorem setCore_secure (c : Nat) (k : Core) : (s.setCore c k).secure = s.secure := rfl
@[simp] theorem setCore_reply (c : Nat) (k : Core) : (s.setCore c k).reply = s.reply := rfl
@[simp] theorem setCore_unsupported (c : Nat) (k : Core) : (s.setCore c k).unsupported = s.unsupported := rfl
@[simp] theorem setCore_pendingDict (c : Nat) (k : Core) : (s.setCore c k).pendingDict = s.pendingDict := rfl
@[simp] theorem setCore_phys (c : Nat) (k : Core) : (s.setCore c k).phys = s.phys := rfl
@[simp] theorem setCore_tables (c : Nat) (k : Core) : (s.setCore c k).tables = s.tables := rfl
@[simp] theorem setCore_netOut (c : Nat) (k : Core) : (s.setCore c k).netOut = s.netOut := rfl
@[simp] theorem setCore_band (c : Nat) (k : Core) : (s.setCore c k).band = s.band := rfl
@[simp] theorem setCore_bounds (c : Nat) (k : Core) : (s.setCore c k).bounds = s.bounds := rfl
@[simp] theorem setCore_creepTot (c : Nat) (k : Core) : (s.setCore c k).creepTot = s.creepTot := rfl

/-! ### modCore -/

@[simp] theorem modCore_pending (c : Nat) (g : Core → Core) : (s.modCore c g).pending = s.pending := rfl
@[simp] theorem modCore_fresh (c : Nat) (g : Core → Core) : (s.modCore c g).fresh = s.fresh := rfl
@[simp] theorem modCore_mem (c : Nat) (g : Core → Core) : (s.modCore c g).mem = s.mem := rfl
@[simp] theorem modCore_memBad (c : Nat) (g : Core → Core) : (s.modCore c g).memBad = s.memBad := rfl
@[simp] theorem modCore_regs (c : Nat) (g : Core → Core) : (s.modCore c g).regs = s.regs := rfl
@[simp] theorem modCore_dict (c : Nat) (g : Core → Core) : (s.modCore c g).dict = s.dict := rfl
@[simp] theorem modCore_doms (c : Nat) (g : Core → Core) : (s.modCore c g).doms = s.doms := rfl
@[simp] theorem modCore_plan (c : Nat) (g : Core → Core) : (s.modCore c g).plan = s.plan := rfl
@[simp] theorem modCore_ledger (c : Nat) (g : Core → Core) : (s.modCore c g).ledger = s.ledger := rfl
@[simp] theorem modCore_job (c : Nat) (g : Core → Core) : (s.modCore c g).job = s.job := rfl
@[simp] theorem modCore_upd (c : Nat) (g : Core → Core) : (s.modCore c g).upd = s.upd := rfl
@[simp] theorem modCore_exch (c : Nat) (g : Core → Core) : (s.modCore c g).exch = s.exch := rfl
@[simp] theorem modCore_rings (c : Nat) (g : Core → Core) : (s.modCore c g).rings = s.rings := rfl
@[simp] theorem modCore_itin (c : Nat) (g : Core → Core) : (s.modCore c g).itin = s.itin := rfl
@[simp] theorem modCore_trav (c : Nat) (g : Core → Core) : (s.modCore c g).trav = s.trav := rfl
@[simp] theorem modCore_fab (c : Nat) (g : Core → Core) : (s.modCore c g).fab = s.fab := rfl
@[simp] theorem modCore_fmbs (c : Nat) (g : Core → Core) : (s.modCore c g).fmbs = s.fmbs := rfl
@[simp] theorem modCore_faults (c : Nat) (g : Core → Core) : (s.modCore c g).faults = s.faults := rfl
@[simp] theorem modCore_log (c : Nat) (g : Core → Core) : (s.modCore c g).log = s.log := rfl
@[simp] theorem modCore_stats (c : Nat) (g : Core → Core) : (s.modCore c g).stats = s.stats := rfl
@[simp] theorem modCore_lastStats (c : Nat) (g : Core → Core) : (s.modCore c g).lastStats = s.lastStats := rfl
@[simp] theorem modCore_gus (c : Nat) (g : Core → Core) : (s.modCore c g).gus = s.gus := rfl
@[simp] theorem modCore_host (c : Nat) (g : Core → Core) : (s.modCore c g).host = s.host := rfl
@[simp] theorem modCore_seqSnap (c : Nat) (g : Core → Core) : (s.modCore c g).seqSnap = s.seqSnap := rfl
@[simp] theorem modCore_vecSnap (c : Nat) (g : Core → Core) : (s.modCore c g).vecSnap = s.vecSnap := rfl
@[simp] theorem modCore_mbs (c : Nat) (g : Core → Core) : (s.modCore c g).mbs = s.mbs := rfl
@[simp] theorem modCore_mgmt (c : Nat) (g : Core → Core) : (s.modCore c g).mgmt = s.mgmt := rfl
@[simp] theorem modCore_hks (c : Nat) (g : Core → Core) : (s.modCore c g).hks = s.hks := rfl
@[simp] theorem modCore_startup (c : Nat) (g : Core → Core) : (s.modCore c g).startup = s.startup := rfl
@[simp] theorem modCore_power (c : Nat) (g : Core → Core) : (s.modCore c g).power = s.power := rfl
@[simp] theorem modCore_secure (c : Nat) (g : Core → Core) : (s.modCore c g).secure = s.secure := rfl
@[simp] theorem modCore_reply (c : Nat) (g : Core → Core) : (s.modCore c g).reply = s.reply := rfl
@[simp] theorem modCore_unsupported (c : Nat) (g : Core → Core) : (s.modCore c g).unsupported = s.unsupported := rfl
@[simp] theorem modCore_pendingDict (c : Nat) (g : Core → Core) : (s.modCore c g).pendingDict = s.pendingDict := rfl
@[simp] theorem modCore_phys (c : Nat) (g : Core → Core) : (s.modCore c g).phys = s.phys := rfl
@[simp] theorem modCore_tables (c : Nat) (g : Core → Core) : (s.modCore c g).tables = s.tables := rfl
@[simp] theorem modCore_netOut (c : Nat) (g : Core → Core) : (s.modCore c g).netOut = s.netOut := rfl
@[simp] theorem modCore_band (c : Nat) (g : Core → Core) : (s.modCore c g).band = s.band := rfl
@[simp] theorem modCore_bounds (c : Nat) (g : Core → Core) : (s.modCore c g).bounds = s.bounds := rfl
@[simp] theorem modCore_creepTot (c : Nat) (g : Core → Core) : (s.modCore c g).creepTot = s.creepTot := rfl

/-! ### draw -/

@[simp] theorem draw_pending (n : Nat) : ((s.draw n).2).pending = s.pending := rfl
@[simp] theorem draw_mem (n : Nat) : ((s.draw n).2).mem = s.mem := rfl
@[simp] theorem draw_memBad (n : Nat) : ((s.draw n).2).memBad = s.memBad := rfl
@[simp] theorem draw_regs (n : Nat) : ((s.draw n).2).regs = s.regs := rfl
@[simp] theorem draw_dict (n : Nat) : ((s.draw n).2).dict = s.dict := rfl
@[simp] theorem draw_doms (n : Nat) : ((s.draw n).2).doms = s.doms := rfl
@[simp] theorem draw_cores (n : Nat) : ((s.draw n).2).cores = s.cores := rfl
@[simp] theorem draw_plan (n : Nat) : ((s.draw n).2).plan = s.plan := rfl
@[simp] theorem draw_ledger (n : Nat) : ((s.draw n).2).ledger = s.ledger := rfl
@[simp] theorem draw_job (n : Nat) : ((s.draw n).2).job = s.job := rfl
@[simp] theorem draw_upd (n : Nat) : ((s.draw n).2).upd = s.upd := rfl
@[simp] theorem draw_exch (n : Nat) : ((s.draw n).2).exch = s.exch := rfl
@[simp] theorem draw_rings (n : Nat) : ((s.draw n).2).rings = s.rings := rfl
@[simp] theorem draw_itin (n : Nat) : ((s.draw n).2).itin = s.itin := rfl
@[simp] theorem draw_trav (n : Nat) : ((s.draw n).2).trav = s.trav := rfl
@[simp] theorem draw_fab (n : Nat) : ((s.draw n).2).fab = s.fab := rfl
@[simp] theorem draw_fmbs (n : Nat) : ((s.draw n).2).fmbs = s.fmbs := rfl
@[simp] theorem draw_faults (n : Nat) : ((s.draw n).2).faults = s.faults := rfl
@[simp] theorem draw_log (n : Nat) : ((s.draw n).2).log = s.log := rfl
@[simp] theorem draw_stats (n : Nat) : ((s.draw n).2).stats = s.stats := rfl
@[simp] theorem draw_lastStats (n : Nat) : ((s.draw n).2).lastStats = s.lastStats := rfl
@[simp] theorem draw_gus (n : Nat) : ((s.draw n).2).gus = s.gus := rfl
@[simp] theorem draw_host (n : Nat) : ((s.draw n).2).host = s.host := rfl
@[simp] theorem draw_seqSnap (n : Nat) : ((s.draw n).2).seqSnap = s.seqSnap := rfl
@[simp] theorem draw_vecSnap (n : Nat) : ((s.draw n).2).vecSnap = s.vecSnap := rfl
@[simp] theorem draw_mbs (n : Nat) : ((s.draw n).2).mbs = s.mbs := rfl
@[simp] theorem draw_mgmt (n : Nat) : ((s.draw n).2).mgmt = s.mgmt := rfl
@[simp] theorem draw_hks (n : Nat) : ((s.draw n).2).hks = s.hks := rfl
@[simp] theorem draw_startup (n : Nat) : ((s.draw n).2).startup = s.startup := rfl
@[simp] theorem draw_power (n : Nat) : ((s.draw n).2).power = s.power := rfl
@[simp] theorem draw_secure (n : Nat) : ((s.draw n).2).secure = s.secure := rfl
@[simp] theorem draw_reply (n : Nat) : ((s.draw n).2).reply = s.reply := rfl
@[simp] theorem draw_unsupported (n : Nat) : ((s.draw n).2).unsupported = s.unsupported := rfl
@[simp] theorem draw_pendingDict (n : Nat) : ((s.draw n).2).pendingDict = s.pendingDict := rfl
@[simp] theorem draw_phys (n : Nat) : ((s.draw n).2).phys = s.phys := rfl
@[simp] theorem draw_tables (n : Nat) : ((s.draw n).2).tables = s.tables := rfl
@[simp] theorem draw_netOut (n : Nat) : ((s.draw n).2).netOut = s.netOut := rfl
@[simp] theorem draw_band (n : Nat) : ((s.draw n).2).band = s.band := rfl
@[simp] theorem draw_bounds (n : Nat) : ((s.draw n).2).bounds = s.bounds := rfl
@[simp] theorem draw_creepTot (n : Nat) : ((s.draw n).2).creepTot = s.creepTot := rfl

/-! ### countCode -/

@[simp] theorem countCode_pending (c : Code) : (s.countCode c).pending = s.pending := rfl
@[simp] theorem countCode_fresh (c : Code) : (s.countCode c).fresh = s.fresh := rfl
@[simp] theorem countCode_mem (c : Code) : (s.countCode c).mem = s.mem := rfl
@[simp] theorem countCode_memBad (c : Code) : (s.countCode c).memBad = s.memBad := rfl
@[simp] theorem countCode_regs (c : Code) : (s.countCode c).regs = s.regs := rfl
@[simp] theorem countCode_dict (c : Code) : (s.countCode c).dict = s.dict := rfl
@[simp] theorem countCode_doms (c : Code) : (s.countCode c).doms = s.doms := rfl
@[simp] theorem countCode_cores (c : Code) : (s.countCode c).cores = s.cores := rfl
@[simp] theorem countCode_plan (c : Code) : (s.countCode c).plan = s.plan := rfl
@[simp] theorem countCode_ledger (c : Code) : (s.countCode c).ledger = s.ledger := rfl
@[simp] theorem countCode_job (c : Code) : (s.countCode c).job = s.job := rfl
@[simp] theorem countCode_upd (c : Code) : (s.countCode c).upd = s.upd := rfl
@[simp] theorem countCode_exch (c : Code) : (s.countCode c).exch = s.exch := rfl
@[simp] theorem countCode_rings (c : Code) : (s.countCode c).rings = s.rings := rfl
@[simp] theorem countCode_itin (c : Code) : (s.countCode c).itin = s.itin := rfl
@[simp] theorem countCode_trav (c : Code) : (s.countCode c).trav = s.trav := rfl
@[simp] theorem countCode_fab (c : Code) : (s.countCode c).fab = s.fab := rfl
@[simp] theorem countCode_fmbs (c : Code) : (s.countCode c).fmbs = s.fmbs := rfl
@[simp] theorem countCode_log (c : Code) : (s.countCode c).log = s.log := rfl
@[simp] theorem countCode_stats (c : Code) : (s.countCode c).stats = s.stats := rfl
@[simp] theorem countCode_lastStats (c : Code) : (s.countCode c).lastStats = s.lastStats := rfl
@[simp] theorem countCode_gus (c : Code) : (s.countCode c).gus = s.gus := rfl
@[simp] theorem countCode_host (c : Code) : (s.countCode c).host = s.host := rfl
@[simp] theorem countCode_seqSnap (c : Code) : (s.countCode c).seqSnap = s.seqSnap := rfl
@[simp] theorem countCode_vecSnap (c : Code) : (s.countCode c).vecSnap = s.vecSnap := rfl
@[simp] theorem countCode_mbs (c : Code) : (s.countCode c).mbs = s.mbs := rfl
@[simp] theorem countCode_mgmt (c : Code) : (s.countCode c).mgmt = s.mgmt := rfl
@[simp] theorem countCode_hks (c : Code) : (s.countCode c).hks = s.hks := rfl
@[simp] theorem countCode_startup (c : Code) : (s.countCode c).startup = s.startup := rfl
@[simp] theorem countCode_power (c : Code) : (s.countCode c).power = s.power := rfl
@[simp] theorem countCode_secure (c : Code) : (s.countCode c).secure = s.secure := rfl
@[simp] theorem countCode_reply (c : Code) : (s.countCode c).reply = s.reply := rfl
@[simp] theorem countCode_unsupported (c : Code) : (s.countCode c).unsupported = s.unsupported := rfl
@[simp] theorem countCode_pendingDict (c : Code) : (s.countCode c).pendingDict = s.pendingDict := rfl
@[simp] theorem countCode_phys (c : Code) : (s.countCode c).phys = s.phys := rfl
@[simp] theorem countCode_tables (c : Code) : (s.countCode c).tables = s.tables := rfl
@[simp] theorem countCode_netOut (c : Code) : (s.countCode c).netOut = s.netOut := rfl
@[simp] theorem countCode_band (c : Code) : (s.countCode c).band = s.band := rfl
@[simp] theorem countCode_bounds (c : Code) : (s.countCode c).bounds = s.bounds := rfl
@[simp] theorem countCode_creepTot (c : Code) : (s.countCode c).creepTot = s.creepTot := rfl

/-! ### logWrite -/

@[simp] theorem logWrite_pending (t c k l w e : Nat) (d : List Byte) : (s.logWrite t c k l w e d).pending = s.pending := by unfold State.logWrite; dsimp only; split <;> rfl
@[simp] theorem logWrite_fresh (t c k l w e : Nat) (d : List Byte) : (s.logWrite t c k l w e d).fresh = s.fresh := by unfold State.logWrite; dsimp only; split <;> rfl
@[simp] theorem logWrite_mem (t c k l w e : Nat) (d : List Byte) : (s.logWrite t c k l w e d).mem = s.mem := by unfold State.logWrite; dsimp only; split <;> rfl
@[simp] theorem logWrite_memBad (t c k l w e : Nat) (d : List Byte) : (s.logWrite t c k l w e d).memBad = s.memBad := by unfold State.logWrite; dsimp only; split <;> rfl
@[simp] theorem logWrite_regs (t c k l w e : Nat) (d : List Byte) : (s.logWrite t c k l w e d).regs = s.regs := by unfold State.logWrite; dsimp only; split <;> rfl
@[simp] theorem logWrite_dict (t c k l w e : Nat) (d : List Byte) : (s.logWrite t c k l w e d).dict = s.dict := by unfold State.logWrite; dsimp only; split <;> rfl
@[simp] theorem logWrite_doms (t c k l w e : Nat) (d : List Byte) : (s.logWrite t c k l w e d).doms = s.doms := by unfold State.logWrite; dsimp only; split <;> rfl
@[simp] theorem logWrite_cores (t c k l w e : Nat) (d : List Byte) : (s.logWrite t c k l w e d).cores = s.cores := by unfold State.logWrite; dsimp only; split <;> rfl
@[simp] theorem logWrite_plan (t c k l w e : Nat) (d : List Byte) : (s.logWrite t c k l w e d).plan = s.plan := by unfold State.logWrite; dsimp only; split <;> rfl
@[simp] theorem logWrite_ledger (t c k l w e : Nat) (d : List Byte) : (s.logWrite t c k l w e d).ledger = s.ledger := by unfold State.logWrite; dsimp only; split <;> rfl
@[simp] theorem logWrite_job (t c k l w e : Nat) (d : List Byte) : (s.logWrite t c k l w e d).job = s.job := by unfold State.logWrite; dsimp only; split <;> rfl
@[simp] theorem logWrite_upd (t c k l w e : Nat) (d : List Byte) : (s.logWrite t c k l w e d).upd = s.upd := by unfold State.logWrite; dsimp only; split <;> rfl
@[simp] theorem logWrite_exch (t c k l w e : Nat) (d : List Byte) : (s.logWrite t c k l w e d).exch = s.exch := by unfold State.logWrite; dsimp only; split <;> rfl
@[simp] theorem logWrite_rings (t c k l w e : Nat) (d : List Byte) : (s.logWrite t c k l w e d).rings = s.rings := by unfold State.logWrite; dsimp only; split <;> rfl
@[simp] theorem logWrite_itin (t c k l w e : Nat) (d : List Byte) : (s.logWrite t c k l w e d).itin = s.itin := by unfold State.logWrite; dsimp only; split <;> rfl
@[simp] theorem logWrite_trav (t c k l w e : Nat) (d : List Byte) : (s.logWrite t c k l w e d).trav = s.trav := by unfold State.logWrite; dsimp only; split <;> rfl
@[simp] theorem logWrite_fab (t c k l w e : Nat) (d : List Byte) : (s.logWrite t c k l w e d).fab = s.fab := by unfold State.logWrite; dsimp only; split <;> rfl
@[simp] theorem logWrite_fmbs (t c k l w e : Nat) (d : List Byte) : (s.logWrite t c k l w e d).fmbs = s.fmbs := by unfold State.logWrite; dsimp only; split <;> rfl
@[simp] theorem logWrite_faults (t c k l w e : Nat) (d : List Byte) : (s.logWrite t c k l w e d).faults = s.faults := by unfold State.logWrite; dsimp only; split <;> rfl
@[simp] theorem logWrite_stats (t c k l w e : Nat) (d : List Byte) : (s.logWrite t c k l w e d).stats = s.stats := by unfold State.logWrite; dsimp only; split <;> rfl
@[simp] theorem logWrite_lastStats (t c k l w e : Nat) (d : List Byte) : (s.logWrite t c k l w e d).lastStats = s.lastStats := by unfold State.logWrite; dsimp only; split <;> rfl
@[simp] theorem logWrite_gus (t c k l w e : Nat) (d : List Byte) : (s.logWrite t c k l w e d).gus = s.gus := by unfold State.logWrite; dsimp only; split <;> rfl
@[simp] theorem logWrite_host (t c k l w e : Nat) (d : List Byte) : (s.logWrite t c k l w e d).host = s.host := by unfold State.logWrite; dsimp only; split <;> rfl
@[simp] theorem logWrite_seqSnap (t c k l w e : Nat) (d : List Byte) : (s.logWrite t c k l w e d).seqSnap = s.seqSnap := by unfold State.logWrite; dsimp only; split <;> rfl
@[simp] theorem logWrite_vecSnap (t c k l w e : Nat) (d : List Byte) : (s.logWrite t c k l w e d).vecSnap = s.vecSnap := by unfold State.logWrite; dsimp only; split <;> rfl
@[simp] theorem logWrite_mbs (t c k l w e : Nat) (d : List Byte) : (s.logWrite t c k l w e d).mbs = s.mbs := by unfold State.logWrite; dsimp only; split <;> rfl
@[simp] theorem logWrite_mgmt (t c k l w e : Nat) (d : List Byte) : (s.logWrite t c k l w e d).mgmt = s.mgmt := by unfold State.logWrite; dsimp only; split <;> rfl
@[simp] theorem logWrite_hks (t c k l w e : Nat) (d : List Byte) : (s.logWrite t c k l w e d).hks = s.hks := by unfold State.logWrite; dsimp only; split <;> rfl
@[simp] theorem logWrite_startup (t c k l w e : Nat) (d : List Byte) : (s.logWrite t c k l w e d).startup = s.startup := by unfold State.logWrite; dsimp only; split <;> rfl
@[simp] theorem logWrite_power (t c k l w e : Nat) (d : List Byte) : (s.logWrite t c k l w e d).power = s.power := by unfold State.logWrite; dsimp only; split <;> rfl
@[simp] theorem logWrite_secure (t c k l w e : Nat) (d : List Byte) : (s.logWrite t c k l w e d).secure = s.secure := by unfold State.logWrite; dsimp only; split <;> rfl
@[simp] theorem logWrite_reply (t c k l w e : Nat) (d : List Byte) : (s.logWrite t c k l w e d).reply = s.reply := by unfold State.logWrite; dsimp only; split <;> rfl
@[simp] theorem logWrite_unsupported (t c k l w e : Nat) (d : List Byte) : (s.logWrite t c k l w e d).unsupported = s.unsupported := by unfold State.logWrite; dsimp only; split <;> rfl
@[simp] theorem logWrite_pendingDict (t c k l w e : Nat) (d : List Byte) : (s.logWrite t c k l w e d).pendingDict = s.pendingDict := by unfold State.logWrite; dsimp only; split <;> rfl
@[simp] theorem logWrite_phys (t c k l w e : Nat) (d : List Byte) : (s.logWrite t c k l w e d).phys = s.phys := by unfold State.logWrite; dsimp only; split <;> rfl
@[simp] theorem logWrite_tables (t c k l w e : Nat) (d : List Byte) : (s.logWrite t c k l w e d).tables = s.tables := by unfold State.logWrite; dsimp only; split <;> rfl
@[simp] theorem logWrite_netOut (t c k l w e : Nat) (d : List Byte) : (s.logWrite t c k l w e d).netOut = s.netOut := by unfold State.logWrite; dsimp only; split <;> rfl
@[simp] theorem logWrite_band (t c k l w e : Nat) (d : List Byte) : (s.logWrite t c k l w e d).band = s.band := by unfold State.logWrite; dsimp only; split <;> rfl
@[simp] theorem logWrite_bounds (t c k l w e : Nat) (d : List Byte) : (s.logWrite t c k l w e d).bounds = s.bounds := by unfold State.logWrite; dsimp only; split <;> rfl
@[simp] theorem logWrite_creepTot (t c k l w e : Nat) (d : List Byte) : (s.logWrite t c k l w e d).creepTot = s.creepTot := by unfold State.logWrite; dsimp only; split <;> rfl

/-! ### post -/

@[simp] theorem post_pending (d : Nat) (m : OutMsg) : (s.post d m).pending = s.pending := rfl
@[simp] theorem post_fresh (d : Nat) (m : OutMsg) : (s.post d m).fresh = s.fresh := rfl
@[simp] theorem post_mem (d : Nat) (m : OutMsg) : (s.post d m).mem = s.mem := rfl
@[simp] theorem post_memBad (d : Nat) (m : OutMsg) : (s.post d m).memBad = s.memBad := rfl
@[simp] theorem post_regs (d : Nat) (m : OutMsg) : (s.post d m).regs = s.regs := rfl
@[simp] theorem post_dict (d : Nat) (m : OutMsg) : (s.post d m).dict = s.dict := rfl
@[simp] theorem post_doms (d : Nat) (m : OutMsg) : (s.post d m).doms = s.doms := rfl
@[simp] theorem post_cores (d : Nat) (m : OutMsg) : (s.post d m).cores = s.cores := rfl
@[simp] theorem post_plan (d : Nat) (m : OutMsg) : (s.post d m).plan = s.plan := rfl
@[simp] theorem post_ledger (d : Nat) (m : OutMsg) : (s.post d m).ledger = s.ledger := rfl
@[simp] theorem post_job (d : Nat) (m : OutMsg) : (s.post d m).job = s.job := rfl
@[simp] theorem post_upd (d : Nat) (m : OutMsg) : (s.post d m).upd = s.upd := rfl
@[simp] theorem post_exch (d : Nat) (m : OutMsg) : (s.post d m).exch = s.exch := rfl
@[simp] theorem post_rings (d : Nat) (m : OutMsg) : (s.post d m).rings = s.rings := rfl
@[simp] theorem post_itin (d : Nat) (m : OutMsg) : (s.post d m).itin = s.itin := rfl
@[simp] theorem post_trav (d : Nat) (m : OutMsg) : (s.post d m).trav = s.trav := rfl
@[simp] theorem post_fab (d : Nat) (m : OutMsg) : (s.post d m).fab = s.fab := rfl
@[simp] theorem post_fmbs (d : Nat) (m : OutMsg) : (s.post d m).fmbs = s.fmbs := rfl
@[simp] theorem post_faults (d : Nat) (m : OutMsg) : (s.post d m).faults = s.faults := rfl
@[simp] theorem post_log (d : Nat) (m : OutMsg) : (s.post d m).log = s.log := rfl
@[simp] theorem post_stats (d : Nat) (m : OutMsg) : (s.post d m).stats = s.stats := rfl
@[simp] theorem post_lastStats (d : Nat) (m : OutMsg) : (s.post d m).lastStats = s.lastStats := rfl
@[simp] theorem post_gus (d : Nat) (m : OutMsg) : (s.post d m).gus = s.gus := rfl
@[simp] theorem post_host (d : Nat) (m : OutMsg) : (s.post d m).host = s.host := rfl
@[simp] theorem post_seqSnap (d : Nat) (m : OutMsg) : (s.post d m).seqSnap = s.seqSnap := rfl
@[simp] theorem post_vecSnap (d : Nat) (m : OutMsg) : (s.post d m).vecSnap = s.vecSnap := rfl
@[simp] theorem post_mbs (d : Nat) (m : OutMsg) : (s.post d m).mbs = s.mbs := rfl
@[simp] theorem post_mgmt (d : Nat) (m : OutMsg) : (s.post d m).mgmt = s.mgmt := rfl
@[simp] theorem post_hks (d : Nat) (m : OutMsg) : (s.post d m).hks = s.hks := rfl
@[simp] theorem post_startup (d : Nat) (m : OutMsg) : (s.post d m).startup = s.startup := rfl
@[simp] theorem post_power (d : Nat) (m : OutMsg) : (s.post d m).power = s.power := rfl
@[simp] theorem post_secure (d : Nat) (m : OutMsg) : (s.post d m).secure = s.secure := rfl
@[simp] theorem post_reply (d : Nat) (m : OutMsg) : (s.post d m).reply = s.reply := rfl
@[simp] theorem post_unsupported (d : Nat) (m : OutMsg) : (s.post d m).unsupported = s.unsupported := rfl
@[simp] theorem post_pendingDict (d : Nat) (m : OutMsg) : (s.post d m).pendingDict = s.pendingDict := rfl
@[simp] theorem post_phys (d : Nat) (m : OutMsg) : (s.post d m).phys = s.phys := rfl
@[simp] theorem post_tables (d : Nat) (m : OutMsg) : (s.post d m).tables = s.tables := rfl

end Sys2Proof.Laws
end

