-- ==== Sys2Proof/Laws/Clocks.lean ====
section
/-! SUPPORT. What the clock gate in front of a meaning does. -/

namespace Sys2Proof.Laws

open Sys2Proof Sys2Proof.Machine

variable (s : State)

/-- A command that crosses has its effect. -/
theorem clocked_of_crosses {i : Instr} {o : Out} (h : s.crosses i = true) : s.clocked i o = o := by
  unfold State.clocked; rw [if_pos h]

/-- A command that does not cross is held, and nothing else happens. -/
theorem clocked_of_held {i : Instr} {o : Out} (h : s.crosses i = false) : s.clocked i o = .next (s.hold i) := by
  unfold State.clocked; simp [h]

/-- A command that needs no clock crosses where nothing waits. -/
theorem crosses_of_free {i : Instr} (h : s.clocksOf i = []) (hh : s.startup.held = []) : s.crosses i = true := by
  unfold State.crosses State.flows State.runs; simp [h, hh]

/-- What a gate can answer, said once. -/
theorem clocked_cases {i : Instr} {o : Out} :
    (s.crosses i = true ∧ s.clocked i o = o) ∨ (s.crosses i = false ∧ s.clocked i o = .next (s.hold i)) := by
  cases h : s.crosses i
  · exact .inr ⟨rfl, clocked_of_held s h⟩
  · exact .inl ⟨rfl, clocked_of_crosses s h⟩

@[simp] theorem hold_pending (i : Instr) : (s.hold i).pending = s.pending := rfl
@[simp] theorem hold_mem (i : Instr) : (s.hold i).mem = s.mem := rfl
@[simp] theorem hold_regs (i : Instr) : (s.hold i).regs = s.regs := rfl
@[simp] theorem hold_cores (i : Instr) : (s.hold i).cores = s.cores := rfl
@[simp] theorem hold_job (i : Instr) : (s.hold i).job = s.job := rfl
@[simp] theorem hold_dict (i : Instr) : (s.hold i).dict = s.dict := rfl
@[simp] theorem hold_fab (i : Instr) : (s.hold i).fab = s.fab := rfl
@[simp] theorem hold_host (i : Instr) : (s.hold i).host = s.host := rfl
@[simp] theorem hold_mgmt (i : Instr) : (s.hold i).mgmt = s.mgmt := rfl
@[simp] theorem hold_hks (i : Instr) : (s.hold i).hks = s.hks := rfl
@[simp] theorem hold_held (i : Instr) : (s.hold i).startup.held = s.startup.held ++ [(s.clocksOf i, i)] := rfl
@[simp] theorem hold_offPlls (i : Instr) : (s.hold i).startup.offPlls = s.startup.offPlls := rfl

end Sys2Proof.Laws
end

