-- ==== Sys2Proof/Laws/Memory.lean ====
section
/-! SUPPORT. Laws of byte memory: every operation keeps the canonical form; a read after a write. -/

namespace Sys2Proof.Laws

open Sys2Proof Sys2Proof.Machine

/-- A smaller bound is as good. -/
theorem wfFrom_mono {lo lo' : Nat} {m : Mem} (h : lo' ≤ lo) (w : Mem.wfFrom lo m = true) : Mem.wfFrom lo' m = true := by
  cases m with
  | nil => rfl
  | cons x r =>
    obtain ⟨k, v⟩ := x
    simp only [Mem.wfFrom, Bool.and_eq_true, decide_eq_true_eq] at w ⊢
    exact ⟨⟨by omega, w.1.2⟩, w.2⟩

/-- Leaving entries out keeps the form. -/
theorem wfFrom_filter {lo : Nat} {m : Mem} (p : Nat × Byte → Bool) (w : Mem.wfFrom lo m = true) :
    Mem.wfFrom lo (m.filter p) = true := by
  induction m generalizing lo with
  | nil => rfl
  | cons x r ih =>
    obtain ⟨k, v⟩ := x
    simp only [Mem.wfFrom, Bool.and_eq_true, decide_eq_true_eq] at w
    rw [List.filter_cons]
    split
    · simp only [Mem.wfFrom, Bool.and_eq_true, decide_eq_true_eq]
      exact ⟨w.1, ih w.2⟩
    · exact wfFrom_mono (by omega) (ih w.2)

/-- A write above the bound keeps the form from the bound on. -/
theorem wfFrom_write {lo a : Nat} {m : Mem} {b : Byte} (h : lo ≤ a) (w : Mem.wfFrom lo m = true) :
    Mem.wfFrom lo (m.write a b) = true := by
  induction m generalizing lo with
  | nil => by_cases hb : b = 0#8 <;> simp_all [Mem.write, Mem.wfFrom]
  | cons x r ih =>
    obtain ⟨k, v⟩ := x
    simp only [Mem.wfFrom, Bool.and_eq_true, decide_eq_true_eq] at w
    obtain ⟨⟨w1, w2⟩, w3⟩ := w
    simp only [Mem.write]
    by_cases hb : b = 0
    all_goals split
    · simp only [Mem.wfFrom, Bool.and_eq_true, decide_eq_true_eq]
      exact ⟨⟨w1, w2⟩, wfFrom_filter _ w3⟩
    · split
      · exact wfFrom_mono (by omega : lo ≤ k + 1) (wfFrom_filter _ w3)
      · simp only [Mem.wfFrom, Bool.and_eq_true, decide_eq_true_eq]
        exact ⟨⟨w1, w2⟩, ih (by omega) w3⟩
    · simp only [Mem.wfFrom, Bool.and_eq_true, decide_eq_true_eq]
      exact ⟨⟨h, hb⟩, ⟨by omega, w2⟩, w3⟩
    · split
      · rename_i hk
        subst hk
        simp only [Mem.wfFrom, Bool.and_eq_true, decide_eq_true_eq]
        exact ⟨⟨w1, hb⟩, w3⟩
      · simp only [Mem.wfFrom, Bool.and_eq_true, decide_eq_true_eq]
        exact ⟨⟨w1, w2⟩, ih (by omega) w3⟩

/-- A write keeps the canonical form. -/
theorem write_wf {m : Mem} (a : Nat) (b : Byte) (w : m.wf = true) : (m.write a b).wf = true :=
  wfFrom_write (Nat.zero_le a) w

/-- Storing bytes keeps the canonical form. -/
theorem writeBytes_wf {m : Mem} (a : Nat) (bs : List Byte) (w : m.wf = true) : (m.writeBytes a bs).wf = true := by
  induction bs generalizing m a with
  | nil => exact w
  | cons b r ih => exact ih (a + 1) (write_wf a b w)

/-- The empty memory is in canonical form. -/
theorem empty_wf : Mem.wf [] = true := rfl

/-- With the entries of an address left out, that address reads as zero. -/
theorem read_filter_same (m : Mem) (a : Nat) : Mem.read (m.filter fun x => x.1 ≠ a) a = 0 := by
  induction m with
  | nil => rfl
  | cons x r ih =>
    by_cases h : x.1 = a
    · simpa [List.filter_cons, h] using ih
    · simpa [List.filter_cons, h, Mem.read] using ih

/-- With the entries of an address left out, every other address reads as before. -/
theorem read_filter_other (m : Mem) {a c : Nat} (h : c ≠ a) : Mem.read (m.filter fun x => x.1 ≠ a) c = Mem.read m c := by
  induction m with
  | nil => rfl
  | cons x r ih =>
    by_cases hx : x.1 = a
    · simpa [List.filter_cons, hx, Mem.read, Ne.symm h] using ih
    · simp only [List.filter_cons, hx, ne_eq, not_false_eq_true, decide_true, if_true, Mem.read]
      split
      · rfl
      · simpa using ih

/-- A read of the byte just written, in any memory. -/
theorem read_write (m : Mem) (a : Nat) (b : Byte) : (m.write a b).read a = b := by
  induction m with
  | nil => by_cases hb : b = 0#8 <;> simp [Mem.write, Mem.read, hb]
  | cons x r ih =>
    obtain ⟨k, v⟩ := x
    simp only [Mem.write]
    split
    · rename_i hk
      have hk' : k ≠ a := by omega
      by_cases hb : b = 0
      · rw [if_pos hb, Mem.read, if_neg hk', read_filter_same, hb]
      · rw [if_neg hb, Mem.read, if_pos rfl]
    · split
      · by_cases hb : b = 0
        · rw [if_pos hb, read_filter_same, hb]
        · rw [if_neg hb, Mem.read, if_pos rfl]
      · rename_i hk
        rw [Mem.read, if_neg hk, ih]

/-- A write leaves every other byte alone, in any memory. -/
theorem read_write_ne (m : Mem) (a c : Nat) (b : Byte) (h : c ≠ a) : (m.write a b).read c = m.read c := by
  induction m with
  | nil => by_cases hb : b = 0#8 <;> simp [Mem.write, Mem.read, hb, Ne.symm h]
  | cons x r ih =>
    obtain ⟨k, v⟩ := x
    simp only [Mem.write]
    split
    · by_cases hb : b = 0
      · rw [if_pos hb, Mem.read, Mem.read, read_filter_other r h]
      · rw [if_neg hb, Mem.read, if_neg (Ne.symm h)]
    · split
      · rename_i hk
        by_cases hb : b = 0
        · rw [if_pos hb, read_filter_other r h, Mem.read, if_neg (by omega)]
        · rw [if_neg hb, Mem.read, if_neg (Ne.symm h), Mem.read, if_neg (by omega)]
      · rw [Mem.read, Mem.read, ih]

/-- A store leaves every byte outside it alone. -/
theorem read_writeBytes_ne (m : Mem) (a c : Nat) (bs : List Byte) (h : c < a ∨ a + bs.length ≤ c) :
    (m.writeBytes a bs).read c = m.read c := by
  induction bs generalizing m a with
  | nil => rfl
  | cons b r ih =>
    simp only [List.length_cons] at h
    simp only [Mem.writeBytes]
    rw [ih (m.write a b) (a + 1) (by omega)]
    exact read_write_ne m a c b (by omega)

/-- A read of a byte just stored. -/
theorem read_writeBytes (m : Mem) (a i : Nat) (bs : List Byte) (h : i < bs.length) :
    (m.writeBytes a bs).read (a + i) = bs[i] := by
  induction bs generalizing m a i with
  | nil => simp at h
  | cons b r ih =>
    simp only [Mem.writeBytes]
    cases i with
    | zero =>
      rw [Nat.add_zero, read_writeBytes_ne _ _ _ _ (by omega)]
      exact read_write m a b
    | succ i =>
      have := ih (m.write a b) (a + 1) i (by simpa using h)
      rw [show a + (i + 1) = a + 1 + i by omega, this]
      rfl

@[simp] theorem readBytes_length (m : Mem) (a n : Nat) : (m.readBytes a n).length = n := by
  induction n generalizing a with
  | zero => rfl
  | succ n ih => simp [Mem.readBytes, ih]

/-- A byte of what a read returns. -/
theorem readBytes_getElem (m : Mem) (a n i : Nat) (h : i < n) :
    (m.readBytes a n)[i]'(by simpa using h) = m.read (a + i) := by
  induction n generalizing a i with
  | zero => omega
  | succ n ih =>
    cases i with
    | zero => simp [Mem.readBytes]
    | succ i =>
      simp only [Mem.readBytes, List.getElem_cons_succ]
      rw [ih (a + 1) i (by omega)]
      congr 1
      omega

/-- A read after a store to the same place gives what was stored. -/
theorem readBytes_writeBytes (m : Mem) (a : Nat) (bs : List Byte) :
    (m.writeBytes a bs).readBytes a bs.length = bs := by
  apply List.ext_getElem
  · simp
  · intro i h1 h2
    rw [readBytes_getElem _ _ _ _ h2, read_writeBytes m a i bs h2]

end Sys2Proof.Laws
end

