-- ==== Sys2Proof/Laws/Regs.lean ====
section
/-! SUPPORT. Laws of the register bank: a field that was set, and every other field. -/

namespace Sys2Proof.Laws

open Sys2Proof Sys2Proof.Machine

/-- Keys of the register bank differ where the section, the instance or the offset does. -/
theorem regKey_inj {a b : Sec} {i j x y : Nat} (h : regKey a i x = regKey b j y) :
    secNo a = secNo b ∧ i % 4096 = j % 4096 ∧ x % 65536 = y % 65536 := by
  unfold regKey at h
  omega

/-- Two sections with one number are the same. -/
theorem secNo_inj {a b : Sec} (h : secNo a = secNo b) : a = b := by
  cases a <;> cases b <;> first | rfl | (simp [secNo] at h)

/-- A register just stored. -/
theorem rword_setRword (s : State) (sec : Sec) (i x v : Nat) : (s.setRword sec i x v).rword sec i x = v % 2 ^ 32 := by
  simp [State.rword, State.setRword, word]

/-- Another register. -/
theorem rword_setRword_ne (s : State) (sec : Sec) (i x v : Nat) (sec' : Sec) (i' x' : Nat)
    (h : regKey sec' i' x' ≠ regKey sec i x) : (s.setRword sec i x v).rword sec' i' x' = s.rword sec' i' x' := by
  simp [State.rword, State.setRword, find?_put_ne _ _ _ _ h]

/-- The word of a register after a field of it was set. -/
theorem rword_fset (s : State) (f : Fld) (v a i j : Nat) :
    (s.fset f v a i j).rword f.sec a (f.addr i j) = setBits (s.rword f.sec a (f.addr i j)) f.lo f.w v % 2 ^ 32 :=
  rword_setRword _ _ _ _ _

/-- The word of another register. -/
theorem rword_fset_ne (s : State) (f : Fld) (v a i j : Nat) (sec : Sec) (b x : Nat)
    (h : regKey sec b x ≠ regKey f.sec a (f.addr i j)) : (s.fset f v a i j).rword sec b x = s.rword sec b x :=
  rword_setRword_ne _ _ _ _ _ _ _ _ h

/-- A field that was set. -/
theorem fget_fset (s : State) (f : Fld) (v a i j : Nat) (h : f.lo + f.w ≤ 32) :
    (s.fset f v a i j).fget f a i j = v % 2 ^ f.w := by
  unfold State.fget
  rw [rword_fset, bits_mod32 _ _ _ h, bits_setBits_same]

/-- A field of another section. -/
theorem fget_fset_sec (s : State) (f g : Fld) (v a i j b k l : Nat) (h : g.sec ≠ f.sec) :
    (s.fset f v a i j).fget g b k l = s.fget g b k l := by
  unfold State.fget
  rw [rword_fset_ne]
  intro e
  exact h (secNo_inj (regKey_inj e).1)

/-- A field at another offset. -/
theorem fget_fset_off (s : State) (f g : Fld) (v a i j b k l : Nat) (h : g.addr k l % 65536 ≠ f.addr i j % 65536) :
    (s.fset f v a i j).fget g b k l = s.fget g b k l := by
  unfold State.fget
  rw [rword_fset_ne]
  intro e
  exact h (regKey_inj e).2.2

/-- A field of another instance: another core, unit, mailbox or channel. -/
theorem fget_fset_inst (s : State) (f g : Fld) (v a i j b k l : Nat) (h : b % 4096 ≠ a % 4096) :
    (s.fset f v a i j).fget g b k l = s.fget g b k l := by
  unfold State.fget
  rw [rword_fset_ne]
  intro e
  exact h (regKey_inj e).2.1

/-- A field at other bits of the same register. -/
theorem fget_fset_bits (s : State) (f g : Fld) (v a i j k l : Nat) (h : g.lo + g.w ≤ f.lo ∨ f.lo + f.w ≤ g.lo)
    (hs : g.sec = f.sec) (ha : g.addr k l = f.addr i j) (hg : g.lo + g.w ≤ 32) :
    (s.fset f v a i j).fget g a k l = s.fget g a k l := by
  unfold State.fget
  rw [hs, ha, rword_fset, bits_mod32 _ _ _ hg, bits_setBits_other _ _ _ _ _ _ h]

/-- A field is below its width's power of two. -/
theorem fget_lt (s : State) (f : Fld) (a i j : Nat) : s.fget f a i j < 2 ^ f.w := bits_lt _ _ _

/-- A counter that counts nothing. -/
@[simp] theorem fcount_zero (s : State) (f : Fld) (a i j : Nat) : s.fcount f 0 a i j = s := by simp [State.fcount]

/-- A counter after `n` events: it saturates at its largest value. -/
theorem fget_fcount (s : State) (f : Fld) (n a i j : Nat) (h : f.lo + f.w ≤ 32) :
    (s.fcount f n a i j).fget f a i j = min (2 ^ f.w - 1) (s.fget f a i j + n) := by
  have hl := fget_lt s f a i j
  unfold State.fcount
  split
  · rename_i hn
    subst hn
    have := Nat.le_sub_one_of_lt hl
    simp [this]
  · rw [fget_fset _ _ _ _ _ _ h]
    have hp := Nat.two_pow_pos f.w
    unfold satAdd
    apply Nat.mod_eq_of_lt
    omega

/-- What does not touch the register bank leaves every field. -/
theorem fget_congr {s t : State} (h : s.regs = t.regs) (f : Fld) (a i j : Nat) : s.fget f a i j = t.fget f a i j := by
  simp [State.fget, State.rword, h]

theorem rword_congr {s t : State} (h : s.regs = t.regs) (sec : Sec) (a x : Nat) : s.rword sec a x = t.rword sec a x := by
  simp [State.rword, h]

/-- A dictionary value just set, and another. -/
theorem dval_setDval (s : State) (x y v d : Nat) : (s.setDval x y v).dval x y d = v := by
  simp [State.dval, State.setDval]

theorem dval_setDval_ne (s : State) (x y v x' y' d : Nat) (h : dkey x' y' ≠ dkey x y) :
    (s.setDval x y v).dval x' y' d = s.dval x' y' d := by
  simp [State.dval, State.setDval, get_put_ne _ _ _ _ _ h]

/-- A core that was changed, and another. -/
theorem core_modCore (s : State) (c : Nat) (g : Core → Core) : (s.modCore c g).core c = g (s.core c) := by
  simp [State.core, State.modCore, State.setCore]

theorem core_modCore_ne (s : State) (c d : Nat) (g : Core → Core) (h : d ≠ c) : (s.modCore c g).core d = s.core d := by
  simp [State.core, State.modCore, State.setCore, get_put_ne _ _ _ _ _ h]

/-! ### Fields through updates of other parts of State -/

@[simp] theorem fget_setDval (s : State) (x y v : Nat) (f : Fld) (a i j : Nat) :
    (s.setDval x y v).fget f a i j = s.fget f a i j := rfl
@[simp] theorem fget_modCore (s : State) (c : Nat) (g : Core → Core) (f : Fld) (a i j : Nat) :
    (s.modCore c g).fget f a i j = s.fget f a i j := rfl
@[simp] theorem fget_draw (s : State) (n : Nat) (f : Fld) (a i j : Nat) : (s.draw n).2.fget f a i j = s.fget f a i j := rfl
@[simp] theorem fget_countCode (s : State) (c : Code) (f : Fld) (a i j : Nat) :
    (s.countCode c).fget f a i j = s.fget f a i j := rfl
@[simp] theorem fget_logWrite (s : State) (t c k l w e : Nat) (d : List Byte) (f : Fld) (a i j : Nat) :
    (s.logWrite t c k l w e d).fget f a i j = s.fget f a i j := fget_congr (by simp) _ _ _ _
@[simp] theorem fget_post (s : State) (d : Nat) (m : OutMsg) (f : Fld) (a i j : Nat) :
    (s.post d m).fget f a i j = s.fget f a i j := rfl

end Sys2Proof.Laws
end

