-- ==== Sys2Proof/Laws/Ops.lean ====
section
/-! SUPPORT. What the shared operations can do. A mask empties the parts of State that an operation may change; that the
masked states agree says that it changes nothing else, and one lemma per other field follows. -/

namespace Sys2Proof.Laws

open Sys2Proof Sys2Proof.Machine

variable (s : State)

@[simp] theorem core_setRword (a : Sec) (b c d e : Nat) : (s.setRword a b c d).core e = s.core e := rfl
@[simp] theorem core_fset (f : Fld) (v a i j e : Nat) : (s.fset f v a i j).core e = s.core e := rfl
@[simp] theorem core_fsetS (f : Fld) (v : Int) (a i j e : Nat) : (s.fsetS f v a i j).core e = s.core e := rfl
@[simp] theorem core_fcount (f : Fld) (v a i j e : Nat) : (s.fcount f v a i j).core e = s.core e := by
  unfold State.fcount; split <;> rfl

/-- A fold of state changes that each leave a part of the state leaves it. -/
theorem foldl_keeps {α β : Type} (p : State → β) (g : State → α → State) (h : ∀ s x, p (g s x) = p s) :
    ∀ (l : List α) (s : State), p (l.foldl g s) = p s
  | [], _ => rfl
  | x :: r, s => by rw [List.foldl_cons, foldl_keeps p g h r, h]

/-! ### Masks -/

/-- All but the registers. -/
def maskR (s : State) : State := { s with regs := [] }
/-- All but registers, fault record and logbook. -/
def maskF (s : State) : State := { s with regs := [], faults := {}, log := {} }
/-- All but registers, fault record, logbook, attempt and cores. -/
def maskJ (s : State) : State := { s with regs := [], faults := {}, log := {}, job := {}, cores := [] }

theorem maskF_of {s t : State} (h : maskR s = maskR t) (hf : s.faults = t.faults) (hl : s.log = t.log) :
    maskF s = maskF t := by
  cases s; cases t; simp_all [maskR, maskF]
theorem maskJ_of {s t : State} (h : maskF s = maskF t) : maskJ s = maskJ t := by
  have : maskJ (maskF s) = maskJ (maskF t) := by rw [h]
  exact this

@[simp] theorem maskR_regs (x : SMap Word) : maskR { s with regs := x } = maskR s := rfl
@[simp] theorem maskR_setRword (a : Sec) (b c d : Nat) : maskR (s.setRword a b c d) = maskR s := rfl
@[simp] theorem maskR_fset (f : Fld) (v a i j : Nat) : maskR (s.fset f v a i j) = maskR s := rfl
@[simp] theorem maskR_fsetS (f : Fld) (v : Int) (a i j : Nat) : maskR (s.fsetS f v a i j) = maskR s := rfl
@[simp] theorem maskR_fcount (f : Fld) (v a i j : Nat) : maskR (s.fcount f v a i j) = maskR s := by
  unfold State.fcount; split <;> rfl
@[simp] theorem maskF_regs (x : SMap Word) : maskF { s with regs := x } = maskF s := rfl
@[simp] theorem maskF_faults (x : Faults) : maskF { s with faults := x } = maskF s := rfl
@[simp] theorem maskF_log (x : Log) : maskF { s with log := x } = maskF s := rfl
@[simp] theorem maskF_setRword (a : Sec) (b c d : Nat) : maskF (s.setRword a b c d) = maskF s := rfl
@[simp] theorem maskF_fset (f : Fld) (v a i j : Nat) : maskF (s.fset f v a i j) = maskF s := rfl
@[simp] theorem maskF_fsetS (f : Fld) (v : Int) (a i j : Nat) : maskF (s.fsetS f v a i j) = maskF s := rfl
@[simp] theorem maskF_fcount (f : Fld) (v a i j : Nat) : maskF (s.fcount f v a i j) = maskF s := by
  unfold State.fcount; split <;> rfl
@[simp] theorem maskJ_regs (x : SMap Word) : maskJ { s with regs := x } = maskJ s := rfl
@[simp] theorem maskJ_faults (x : Faults) : maskJ { s with faults := x } = maskJ s := rfl
@[simp] theorem maskJ_log (x : Log) : maskJ { s with log := x } = maskJ s := rfl
@[simp] theorem maskJ_job (x : Job) : maskJ { s with job := x } = maskJ s := rfl
@[simp] theorem maskJ_cores (x : SMap Core) : maskJ { s with cores := x } = maskJ s := rfl
@[simp] theorem maskJ_setRword (a : Sec) (b c d : Nat) : maskJ (s.setRword a b c d) = maskJ s := rfl
@[simp] theorem maskJ_fset (f : Fld) (v a i j : Nat) : maskJ (s.fset f v a i j) = maskJ s := rfl
@[simp] theorem maskJ_fsetS (f : Fld) (v : Int) (a i j : Nat) : maskJ (s.fsetS f v a i j) = maskJ s := rfl
@[simp] theorem maskJ_fcount (f : Fld) (v a i j : Nat) : maskJ (s.fcount f v a i j) = maskJ s := by
  unfold State.fcount; split <;> rfl
@[simp] theorem maskF_countCode (c : Code) : maskF (s.countCode c) = maskF s := rfl
@[simp] theorem maskF_logWrite (t c k l w e : Nat) (d : List Byte) : maskF (s.logWrite t c k l w e d) = maskF s := by
  unfold State.logWrite; dsimp only; split <;> rfl
@[simp] theorem maskJ_countCode (c : Code) : maskJ (s.countCode c) = maskJ s := rfl
@[simp] theorem maskJ_logWrite (t c k l w e : Nat) (d : List Byte) : maskJ (s.logWrite t c k l w e d) = maskJ s := by
  unfold State.logWrite; dsimp only; split <;> rfl
theorem maskR_pending_eq {s t : State} (h : maskR s = maskR t) : s.pending = t.pending := by
  have e := congrArg State.pending h; exact e
theorem maskR_mem_eq {s t : State} (h : maskR s = maskR t) : s.mem = t.mem := by
  have e := congrArg State.mem h; exact e
theorem maskR_memBad_eq {s t : State} (h : maskR s = maskR t) : s.memBad = t.memBad := by
  have e := congrArg State.memBad h; exact e
theorem maskR_dict_eq {s t : State} (h : maskR s = maskR t) : s.dict = t.dict := by
  have e := congrArg State.dict h; exact e
theorem maskR_plan_eq {s t : State} (h : maskR s = maskR t) : s.plan = t.plan := by
  have e := congrArg State.plan h; exact e
theorem maskR_ledger_eq {s t : State} (h : maskR s = maskR t) : s.ledger = t.ledger := by
  have e := congrArg State.ledger h; exact e
theorem maskR_exch_eq {s t : State} (h : maskR s = maskR t) : s.exch = t.exch := by
  have e := congrArg State.exch h; exact e
theorem maskR_upd_eq {s t : State} (h : maskR s = maskR t) : s.upd = t.upd := by
  have e := congrArg State.upd h; exact e
theorem maskR_host_eq {s t : State} (h : maskR s = maskR t) : s.host = t.host := by
  have e := congrArg State.host h; exact e
theorem maskR_startup_eq {s t : State} (h : maskR s = maskR t) : s.startup = t.startup := by
  have e := congrArg State.startup h; exact e
theorem maskR_phys_eq {s t : State} (h : maskR s = maskR t) : s.phys = t.phys := by
  have e := congrArg State.phys h; exact e
theorem maskR_netOut_eq {s t : State} (h : maskR s = maskR t) : s.netOut = t.netOut := by
  have e := congrArg State.netOut h; exact e
theorem maskR_job_eq {s t : State} (h : maskR s = maskR t) : s.job = t.job := by
  have e := congrArg State.job h; exact e
theorem maskR_cores_eq {s t : State} (h : maskR s = maskR t) : s.cores = t.cores := by
  have e := congrArg State.cores h; exact e
theorem maskF_pending_eq {s t : State} (h : maskF s = maskF t) : s.pending = t.pending := by
  have e := congrArg State.pending h; exact e
theorem maskF_mem_eq {s t : State} (h : maskF s = maskF t) : s.mem = t.mem := by
  have e := congrArg State.mem h; exact e
theorem maskF_memBad_eq {s t : State} (h : maskF s = maskF t) : s.memBad = t.memBad := by
  have e := congrArg State.memBad h; exact e
theorem maskF_dict_eq {s t : State} (h : maskF s = maskF t) : s.dict = t.dict := by
  have e := congrArg State.dict h; exact e
theorem maskF_plan_eq {s t : State} (h : maskF s = maskF t) : s.plan = t.plan := by
  have e := congrArg State.plan h; exact e
theorem maskF_ledger_eq {s t : State} (h : maskF s = maskF t) : s.ledger = t.ledger := by
  have e := congrArg State.ledger h; exact e
theorem maskF_exch_eq {s t : State} (h : maskF s = maskF t) : s.exch = t.exch := by
  have e := congrArg State.exch h; exact e
theorem maskF_upd_eq {s t : State} (h : maskF s = maskF t) : s.upd = t.upd := by
  have e := congrArg State.upd h; exact e
theorem maskF_host_eq {s t : State} (h : maskF s = maskF t) : s.host = t.host := by
  have e := congrArg State.host h; exact e
theorem maskF_startup_eq {s t : State} (h : maskF s = maskF t) : s.startup = t.startup := by
  have e := congrArg State.startup h; exact e
theorem maskF_phys_eq {s t : State} (h : maskF s = maskF t) : s.phys = t.phys := by
  have e := congrArg State.phys h; exact e
theorem maskF_netOut_eq {s t : State} (h : maskF s = maskF t) : s.netOut = t.netOut := by
  have e := congrArg State.netOut h; exact e
theorem maskF_job_eq {s t : State} (h : maskF s = maskF t) : s.job = t.job := by
  have e := congrArg State.job h; exact e
theorem maskF_cores_eq {s t : State} (h : maskF s = maskF t) : s.cores = t.cores := by
  have e := congrArg State.cores h; exact e
theorem maskJ_pending_eq {s t : State} (h : maskJ s = maskJ t) : s.pending = t.pending := by
  have e := congrArg State.pending h; exact e
theorem maskJ_mem_eq {s t : State} (h : maskJ s = maskJ t) : s.mem = t.mem := by
  have e := congrArg State.mem h; exact e
theorem maskJ_memBad_eq {s t : State} (h : maskJ s = maskJ t) : s.memBad = t.memBad := by
  have e := congrArg State.memBad h; exact e
theorem maskJ_dict_eq {s t : State} (h : maskJ s = maskJ t) : s.dict = t.dict := by
  have e := congrArg State.dict h; exact e
theorem maskJ_plan_eq {s t : State} (h : maskJ s = maskJ t) : s.plan = t.plan := by
  have e := congrArg State.plan h; exact e
theorem maskJ_ledger_eq {s t : State} (h : maskJ s = maskJ t) : s.ledger = t.ledger := by
  have e := congrArg State.ledger h; exact e
theorem maskJ_exch_eq {s t : State} (h : maskJ s = maskJ t) : s.exch = t.exch := by
  have e := congrArg State.exch h; exact e
theorem maskJ_upd_eq {s t : State} (h : maskJ s = maskJ t) : s.upd = t.upd := by
  have e := congrArg State.upd h; exact e
theorem maskJ_host_eq {s t : State} (h : maskJ s = maskJ t) : s.host = t.host := by
  have e := congrArg State.host h; exact e
theorem maskJ_startup_eq {s t : State} (h : maskJ s = maskJ t) : s.startup = t.startup := by
  have e := congrArg State.startup h; exact e
theorem maskJ_phys_eq {s t : State} (h : maskJ s = maskJ t) : s.phys = t.phys := by
  have e := congrArg State.phys h; exact e
theorem maskJ_netOut_eq {s t : State} (h : maskJ s = maskJ t) : s.netOut = t.netOut := by
  have e := congrArg State.netOut h; exact e
@[simp] theorem maskJ_modCore (c : Nat) (g : Core → Core) : maskJ (s.modCore c g) = maskJ s := rfl

/-! ### setCodeBit -/

@[simp] theorem maskR_setCodeBit (c : Code) (k : Option Nat) (u : Nat) : maskR (s.setCodeBit c k u) = maskR s := by
  unfold State.setCodeBit
  (try dsimp only)
  (repeat' split) <;> (try simp only [maskR_regs, maskR_setRword, maskR_fset, maskR_fsetS, maskR_fcount]) <;> (try rfl)

@[simp] theorem maskF_setCodeBit (c : Code) (k : Option Nat) (u : Nat) : maskF (s.setCodeBit c k u) = maskF s :=
  maskF_of (maskR_setCodeBit s c k u) (by unfold State.setCodeBit; (try dsimp only); (repeat' split) <;> rfl)
    (by unfold State.setCodeBit; (try dsimp only); (repeat' split) <;> rfl)

@[simp] theorem maskJ_setCodeBit (c : Code) (k : Option Nat) (u : Nat) : maskJ (s.setCodeBit c k u) = maskJ s := maskJ_of (maskF_setCodeBit s c k u)

@[simp] theorem setCodeBit_pending (c : Code) (k : Option Nat) (u : Nat) : (s.setCodeBit c k u).pending = s.pending :=
  maskR_pending_eq (maskR_setCodeBit s c k u)
@[simp] theorem setCodeBit_mem (c : Code) (k : Option Nat) (u : Nat) : (s.setCodeBit c k u).mem = s.mem :=
  maskR_mem_eq (maskR_setCodeBit s c k u)
@[simp] theorem setCodeBit_memBad (c : Code) (k : Option Nat) (u : Nat) : (s.setCodeBit c k u).memBad = s.memBad :=
  maskR_memBad_eq (maskR_setCodeBit s c k u)
@[simp] theorem setCodeBit_dict (c : Code) (k : Option Nat) (u : Nat) : (s.setCodeBit c k u).dict = s.dict :=
  maskR_dict_eq (maskR_setCodeBit s c k u)
@[simp] theorem setCodeBit_plan (c : Code) (k : Option Nat) (u : Nat) : (s.setCodeBit c k u).plan = s.plan :=
  maskR_plan_eq (maskR_setCodeBit s c k u)
@[simp] theorem setCodeBit_ledger (c : Code) (k : Option Nat) (u : Nat) : (s.setCodeBit c k u).ledger = s.ledger :=
  maskR_ledger_eq (maskR_setCodeBit s c k u)
@[simp] theorem setCodeBit_exch (c : Code) (k : Option Nat) (u : Nat) : (s.setCodeBit c k u).exch = s.exch :=
  maskR_exch_eq (maskR_setCodeBit s c k u)
@[simp] theorem setCodeBit_upd (c : Code) (k : Option Nat) (u : Nat) : (s.setCodeBit c k u).upd = s.upd :=
  maskR_upd_eq (maskR_setCodeBit s c k u)
@[simp] theorem setCodeBit_host (c : Code) (k : Option Nat) (u : Nat) : (s.setCodeBit c k u).host = s.host :=
  maskR_host_eq (maskR_setCodeBit s c k u)
@[simp] theorem setCodeBit_startup (c : Code) (k : Option Nat) (u : Nat) : (s.setCodeBit c k u).startup = s.startup :=
  maskR_startup_eq (maskR_setCodeBit s c k u)
@[simp] theorem setCodeBit_phys (c : Code) (k : Option Nat) (u : Nat) : (s.setCodeBit c k u).phys = s.phys :=
  maskR_phys_eq (maskR_setCodeBit s c k u)
@[simp] theorem setCodeBit_netOut (c : Code) (k : Option Nat) (u : Nat) : (s.setCodeBit c k u).netOut = s.netOut :=
  maskR_netOut_eq (maskR_setCodeBit s c k u)
@[simp] theorem setCodeBit_job (c : Code) (k : Option Nat) (u : Nat) : (s.setCodeBit c k u).job = s.job :=
  maskR_job_eq (maskR_setCodeBit s c k u)
@[simp] theorem setCodeBit_cores (c : Code) (k : Option Nat) (u : Nat) : (s.setCodeBit c k u).cores = s.cores :=
  maskR_cores_eq (maskR_setCodeBit s c k u)

/-! ### raiseIn -/

@[simp] theorem maskF_raiseIn (c : Code) (k : Option Nat) (u : Nat) : maskF (s.raiseIn c k u) = maskF s := by
  unfold State.raiseIn
  (try dsimp only)
  (repeat' split) <;> (try simp only [maskF_regs, maskF_faults, maskF_log, maskF_setRword, maskF_fset, maskF_fsetS, maskF_fcount, maskF_countCode, maskF_logWrite, maskF_setCodeBit]) <;> (try rfl)

@[simp] theorem maskJ_raiseIn (c : Code) (k : Option Nat) (u : Nat) : maskJ (s.raiseIn c k u) = maskJ s := maskJ_of (maskF_raiseIn s c k u)

@[simp] theorem raiseIn_pending (c : Code) (k : Option Nat) (u : Nat) : (s.raiseIn c k u).pending = s.pending :=
  maskF_pending_eq (maskF_raiseIn s c k u)
@[simp] theorem raiseIn_mem (c : Code) (k : Option Nat) (u : Nat) : (s.raiseIn c k u).mem = s.mem :=
  maskF_mem_eq (maskF_raiseIn s c k u)
@[simp] theorem raiseIn_memBad (c : Code) (k : Option Nat) (u : Nat) : (s.raiseIn c k u).memBad = s.memBad :=
  maskF_memBad_eq (maskF_raiseIn s c k u)
@[simp] theorem raiseIn_dict (c : Code) (k : Option Nat) (u : Nat) : (s.raiseIn c k u).dict = s.dict :=
  maskF_dict_eq (maskF_raiseIn s c k u)
@[simp] theorem raiseIn_plan (c : Code) (k : Option Nat) (u : Nat) : (s.raiseIn c k u).plan = s.plan :=
  maskF_plan_eq (maskF_raiseIn s c k u)
@[simp] theorem raiseIn_ledger (c : Code) (k : Option Nat) (u : Nat) : (s.raiseIn c k u).ledger = s.ledger :=
  maskF_ledger_eq (maskF_raiseIn s c k u)
@[simp] theorem raiseIn_exch (c : Code) (k : Option Nat) (u : Nat) : (s.raiseIn c k u).exch = s.exch :=
  maskF_exch_eq (maskF_raiseIn s c k u)
@[simp] theorem raiseIn_upd (c : Code) (k : Option Nat) (u : Nat) : (s.raiseIn c k u).upd = s.upd :=
  maskF_upd_eq (maskF_raiseIn s c k u)
@[simp] theorem raiseIn_host (c : Code) (k : Option Nat) (u : Nat) : (s.raiseIn c k u).host = s.host :=
  maskF_host_eq (maskF_raiseIn s c k u)
@[simp] theorem raiseIn_startup (c : Code) (k : Option Nat) (u : Nat) : (s.raiseIn c k u).startup = s.startup :=
  maskF_startup_eq (maskF_raiseIn s c k u)
@[simp] theorem raiseIn_phys (c : Code) (k : Option Nat) (u : Nat) : (s.raiseIn c k u).phys = s.phys :=
  maskF_phys_eq (maskF_raiseIn s c k u)
@[simp] theorem raiseIn_netOut (c : Code) (k : Option Nat) (u : Nat) : (s.raiseIn c k u).netOut = s.netOut :=
  maskF_netOut_eq (maskF_raiseIn s c k u)
@[simp] theorem raiseIn_job (c : Code) (k : Option Nat) (u : Nat) : (s.raiseIn c k u).job = s.job :=
  maskF_job_eq (maskF_raiseIn s c k u)
@[simp] theorem raiseIn_cores (c : Code) (k : Option Nat) (u : Nat) : (s.raiseIn c k u).cores = s.cores :=
  maskF_cores_eq (maskF_raiseIn s c k u)

/-! ### raiseAfter -/

@[simp] theorem maskF_raiseAfter (c : Code) (k : Option Nat) (u : Nat) : maskF (s.raiseAfter c k u) = maskF s := by
  unfold State.raiseAfter
  (try dsimp only)
  (repeat' split) <;> (try simp only [maskF_regs, maskF_faults, maskF_log, maskF_setRword, maskF_fset, maskF_fsetS, maskF_fcount, maskF_countCode, maskF_logWrite, maskF_setCodeBit, maskF_raiseIn]) <;> (try rfl)

@[simp] theorem maskJ_raiseAfter (c : Code) (k : Option Nat) (u : Nat) : maskJ (s.raiseAfter c k u) = maskJ s := maskJ_of (maskF_raiseAfter s c k u)

@[simp] theorem raiseAfter_pending (c : Code) (k : Option Nat) (u : Nat) : (s.raiseAfter c k u).pending = s.pending :=
  maskF_pending_eq (maskF_raiseAfter s c k u)
@[simp] theorem raiseAfter_mem (c : Code) (k : Option Nat) (u : Nat) : (s.raiseAfter c k u).mem = s.mem :=
  maskF_mem_eq (maskF_raiseAfter s c k u)
@[simp] theorem raiseAfter_memBad (c : Code) (k : Option Nat) (u : Nat) : (s.raiseAfter c k u).memBad = s.memBad :=
  maskF_memBad_eq (maskF_raiseAfter s c k u)
@[simp] theorem raiseAfter_dict (c : Code) (k : Option Nat) (u : Nat) : (s.raiseAfter c k u).dict = s.dict :=
  maskF_dict_eq (maskF_raiseAfter s c k u)
@[simp] theorem raiseAfter_plan (c : Code) (k : Option Nat) (u : Nat) : (s.raiseAfter c k u).plan = s.plan :=
  maskF_plan_eq (maskF_raiseAfter s c k u)
@[simp] theorem raiseAfter_ledger (c : Code) (k : Option Nat) (u : Nat) : (s.raiseAfter c k u).ledger = s.ledger :=
  maskF_ledger_eq (maskF_raiseAfter s c k u)
@[simp] theorem raiseAfter_exch (c : Code) (k : Option Nat) (u : Nat) : (s.raiseAfter c k u).exch = s.exch :=
  maskF_exch_eq (maskF_raiseAfter s c k u)
@[simp] theorem raiseAfter_upd (c : Code) (k : Option Nat) (u : Nat) : (s.raiseAfter c k u).upd = s.upd :=
  maskF_upd_eq (maskF_raiseAfter s c k u)
@[simp] theorem raiseAfter_host (c : Code) (k : Option Nat) (u : Nat) : (s.raiseAfter c k u).host = s.host :=
  maskF_host_eq (maskF_raiseAfter s c k u)
@[simp] theorem raiseAfter_startup (c : Code) (k : Option Nat) (u : Nat) : (s.raiseAfter c k u).startup = s.startup :=
  maskF_startup_eq (maskF_raiseAfter s c k u)
@[simp] theorem raiseAfter_phys (c : Code) (k : Option Nat) (u : Nat) : (s.raiseAfter c k u).phys = s.phys :=
  maskF_phys_eq (maskF_raiseAfter s c k u)
@[simp] theorem raiseAfter_netOut (c : Code) (k : Option Nat) (u : Nat) : (s.raiseAfter c k u).netOut = s.netOut :=
  maskF_netOut_eq (maskF_raiseAfter s c k u)
@[simp] theorem raiseAfter_job (c : Code) (k : Option Nat) (u : Nat) : (s.raiseAfter c k u).job = s.job :=
  maskF_job_eq (maskF_raiseAfter s c k u)
@[simp] theorem raiseAfter_cores (c : Code) (k : Option Nat) (u : Nat) : (s.raiseAfter c k u).cores = s.cores :=
  maskF_cores_eq (maskF_raiseAfter s c k u)

/-! ### raise -/

@[simp] theorem maskF_raise (c : Code) (k u : Nat) : maskF (s.raise c k u) = maskF s := by
  unfold State.raise
  (try dsimp only)
  (repeat' split) <;> (try simp only [maskF_regs, maskF_faults, maskF_log, maskF_setRword, maskF_fset, maskF_fsetS, maskF_fcount, maskF_countCode, maskF_logWrite, maskF_setCodeBit, maskF_raiseIn, maskF_raiseAfter]) <;> (try rfl)

@[simp] theorem maskJ_raise (c : Code) (k u : Nat) : maskJ (s.raise c k u) = maskJ s := maskJ_of (maskF_raise s c k u)

@[simp] theorem raise_pending (c : Code) (k u : Nat) : (s.raise c k u).pending = s.pending :=
  maskF_pending_eq (maskF_raise s c k u)
@[simp] theorem raise_mem (c : Code) (k u : Nat) : (s.raise c k u).mem = s.mem :=
  maskF_mem_eq (maskF_raise s c k u)
@[simp] theorem raise_memBad (c : Code) (k u : Nat) : (s.raise c k u).memBad = s.memBad :=
  maskF_memBad_eq (maskF_raise s c k u)
@[simp] theorem raise_dict (c : Code) (k u : Nat) : (s.raise c k u).dict = s.dict :=
  maskF_dict_eq (maskF_raise s c k u)
@[simp] theorem raise_plan (c : Code) (k u : Nat) : (s.raise c k u).plan = s.plan :=
  maskF_plan_eq (maskF_raise s c k u)
@[simp] theorem raise_ledger (c : Code) (k u : Nat) : (s.raise c k u).ledger = s.ledger :=
  maskF_ledger_eq (maskF_raise s c k u)
@[simp] theorem raise_exch (c : Code) (k u : Nat) : (s.raise c k u).exch = s.exch :=
  maskF_exch_eq (maskF_raise s c k u)
@[simp] theorem raise_upd (c : Code) (k u : Nat) : (s.raise c k u).upd = s.upd :=
  maskF_upd_eq (maskF_raise s c k u)
@[simp] theorem raise_host (c : Code) (k u : Nat) : (s.raise c k u).host = s.host :=
  maskF_host_eq (maskF_raise s c k u)
@[simp] theorem raise_startup (c : Code) (k u : Nat) : (s.raise c k u).startup = s.startup :=
  maskF_startup_eq (maskF_raise s c k u)
@[simp] theorem raise_phys (c : Code) (k u : Nat) : (s.raise c k u).phys = s.phys :=
  maskF_phys_eq (maskF_raise s c k u)
@[simp] theorem raise_netOut (c : Code) (k u : Nat) : (s.raise c k u).netOut = s.netOut :=
  maskF_netOut_eq (maskF_raise s c k u)
@[simp] theorem raise_job (c : Code) (k u : Nat) : (s.raise c k u).job = s.job :=
  maskF_job_eq (maskF_raise s c k u)
@[simp] theorem raise_cores (c : Code) (k u : Nat) : (s.raise c k u).cores = s.cores :=
  maskF_cores_eq (maskF_raise s c k u)

/-! ### starved -/

@[simp] theorem maskJ_starved : maskJ s.starved = maskJ s := by
  unfold State.starved
  split
  · exact maskJ_raiseIn s .exchangeTimeout none 0x3F
  · rfl

@[simp] theorem starved_pending : s.starved.pending = s.pending := maskJ_pending_eq (maskJ_starved s)
@[simp] theorem starved_mem : s.starved.mem = s.mem := maskJ_mem_eq (maskJ_starved s)
@[simp] theorem starved_memBad : s.starved.memBad = s.memBad := maskJ_memBad_eq (maskJ_starved s)
@[simp] theorem starved_dict : s.starved.dict = s.dict := maskJ_dict_eq (maskJ_starved s)
@[simp] theorem starved_plan : s.starved.plan = s.plan := maskJ_plan_eq (maskJ_starved s)
@[simp] theorem starved_ledger : s.starved.ledger = s.ledger := maskJ_ledger_eq (maskJ_starved s)
@[simp] theorem starved_exch : s.starved.exch = s.exch := maskJ_exch_eq (maskJ_starved s)
@[simp] theorem starved_upd : s.starved.upd = s.upd := maskJ_upd_eq (maskJ_starved s)
@[simp] theorem starved_host : s.starved.host = s.host := maskJ_host_eq (maskJ_starved s)
@[simp] theorem starved_startup : s.starved.startup = s.startup := maskJ_startup_eq (maskJ_starved s)
@[simp] theorem starved_phys : s.starved.phys = s.phys := maskJ_phys_eq (maskJ_starved s)
@[simp] theorem starved_netOut : s.starved.netOut = s.netOut := maskJ_netOut_eq (maskJ_starved s)
@[simp] theorem starved_cores : s.starved.cores = s.cores := by
  unfold State.starved
  split
  · exact raiseIn_cores s .exchangeTimeout none 0x3F
  · rfl

/-! ### halt -/

@[simp] theorem maskJ_halt (c : Code) (k no : Nat) : maskJ (s.halt c k no) = maskJ s := by
  unfold State.halt
  (try dsimp only)
  (repeat' split) <;> (try simp only [maskJ_regs, maskJ_faults, maskJ_log, maskJ_job, maskJ_cores, maskJ_setRword, maskJ_fset, maskJ_fsetS, maskJ_fcount, maskJ_countCode, maskJ_logWrite, maskJ_modCore, maskJ_setCodeBit, maskJ_raiseIn, maskJ_raiseAfter, maskJ_raise, maskJ_starved]) <;> (try rfl)

@[simp] theorem halt_pending (c : Code) (k no : Nat) : (s.halt c k no).pending = s.pending :=
  maskJ_pending_eq (maskJ_halt s c k no)
@[simp] theorem halt_mem (c : Code) (k no : Nat) : (s.halt c k no).mem = s.mem :=
  maskJ_mem_eq (maskJ_halt s c k no)
@[simp] theorem halt_memBad (c : Code) (k no : Nat) : (s.halt c k no).memBad = s.memBad :=
  maskJ_memBad_eq (maskJ_halt s c k no)
@[simp] theorem halt_dict (c : Code) (k no : Nat) : (s.halt c k no).dict = s.dict :=
  maskJ_dict_eq (maskJ_halt s c k no)
@[simp] theorem halt_plan (c : Code) (k no : Nat) : (s.halt c k no).plan = s.plan :=
  maskJ_plan_eq (maskJ_halt s c k no)
@[simp] theorem halt_ledger (c : Code) (k no : Nat) : (s.halt c k no).ledger = s.ledger :=
  maskJ_ledger_eq (maskJ_halt s c k no)
@[simp] theorem halt_exch (c : Code) (k no : Nat) : (s.halt c k no).exch = s.exch :=
  maskJ_exch_eq (maskJ_halt s c k no)
@[simp] theorem halt_upd (c : Code) (k no : Nat) : (s.halt c k no).upd = s.upd :=
  maskJ_upd_eq (maskJ_halt s c k no)
@[simp] theorem halt_host (c : Code) (k no : Nat) : (s.halt c k no).host = s.host :=
  maskJ_host_eq (maskJ_halt s c k no)
@[simp] theorem halt_startup (c : Code) (k no : Nat) : (s.halt c k no).startup = s.startup :=
  maskJ_startup_eq (maskJ_halt s c k no)
@[simp] theorem halt_phys (c : Code) (k no : Nat) : (s.halt c k no).phys = s.phys :=
  maskJ_phys_eq (maskJ_halt s c k no)
@[simp] theorem halt_netOut (c : Code) (k no : Nat) : (s.halt c k no).netOut = s.netOut :=
  maskJ_netOut_eq (maskJ_halt s c k no)

/-! ### raiseBad -/

@[simp] theorem maskF_raiseBad (ws : List Nat) (k : Option Nat) : maskF (s.raiseBad ws k) = maskF s := by
  unfold State.raiseBad
  refine foldl_keeps maskF _ (fun s w => ?_) ws s
  (try dsimp only)
  cases k <;> simp

@[simp] theorem maskJ_raiseBad (ws : List Nat) (k : Option Nat) : maskJ (s.raiseBad ws k) = maskJ s := maskJ_of (maskF_raiseBad s ws k)

@[simp] theorem raiseBad_pending (ws : List Nat) (k : Option Nat) : (s.raiseBad ws k).pending = s.pending :=
  maskF_pending_eq (maskF_raiseBad s ws k)
@[simp] theorem raiseBad_mem (ws : List Nat) (k : Option Nat) : (s.raiseBad ws k).mem = s.mem :=
  maskF_mem_eq (maskF_raiseBad s ws k)
@[simp] theorem raiseBad_memBad (ws : List Nat) (k : Option Nat) : (s.raiseBad ws k).memBad = s.memBad :=
  maskF_memBad_eq (maskF_raiseBad s ws k)
@[simp] theorem raiseBad_dict (ws : List Nat) (k : Option Nat) : (s.raiseBad ws k).dict = s.dict :=
  maskF_dict_eq (maskF_raiseBad s ws k)
@[simp] theorem raiseBad_plan (ws : List Nat) (k : Option Nat) : (s.raiseBad ws k).plan = s.plan :=
  maskF_plan_eq (maskF_raiseBad s ws k)
@[simp] theorem raiseBad_ledger (ws : List Nat) (k : Option Nat) : (s.raiseBad ws k).ledger = s.ledger :=
  maskF_ledger_eq (maskF_raiseBad s ws k)
@[simp] theorem raiseBad_exch (ws : List Nat) (k : Option Nat) : (s.raiseBad ws k).exch = s.exch :=
  maskF_exch_eq (maskF_raiseBad s ws k)
@[simp] theorem raiseBad_upd (ws : List Nat) (k : Option Nat) : (s.raiseBad ws k).upd = s.upd :=
  maskF_upd_eq (maskF_raiseBad s ws k)
@[simp] theorem raiseBad_host (ws : List Nat) (k : Option Nat) : (s.raiseBad ws k).host = s.host :=
  maskF_host_eq (maskF_raiseBad s ws k)
@[simp] theorem raiseBad_startup (ws : List Nat) (k : Option Nat) : (s.raiseBad ws k).startup = s.startup :=
  maskF_startup_eq (maskF_raiseBad s ws k)
@[simp] theorem raiseBad_phys (ws : List Nat) (k : Option Nat) : (s.raiseBad ws k).phys = s.phys :=
  maskF_phys_eq (maskF_raiseBad s ws k)
@[simp] theorem raiseBad_netOut (ws : List Nat) (k : Option Nat) : (s.raiseBad ws k).netOut = s.netOut :=
  maskF_netOut_eq (maskF_raiseBad s ws k)
@[simp] theorem raiseBad_job (ws : List Nat) (k : Option Nat) : (s.raiseBad ws k).job = s.job :=
  maskF_job_eq (maskF_raiseBad s ws k)
@[simp] theorem raiseBad_cores (ws : List Nat) (k : Option Nat) : (s.raiseBad ws k).cores = s.cores :=
  maskF_cores_eq (maskF_raiseBad s ws k)

/-! ### readMem -/

@[simp] theorem maskF_readMem (a n : Nat) (k : Option Nat) : maskF ((s.readMem a n k).2) = maskF s := by
  exact maskF_raiseBad s _ k

@[simp] theorem maskJ_readMem (a n : Nat) (k : Option Nat) : maskJ ((s.readMem a n k).2) = maskJ s := maskJ_of (maskF_readMem s a n k)

@[simp] theorem readMem_pending (a n : Nat) (k : Option Nat) : ((s.readMem a n k).2).pending = s.pending :=
  maskF_pending_eq (maskF_readMem s a n k)
@[simp] theorem readMem_mem (a n : Nat) (k : Option Nat) : ((s.readMem a n k).2).mem = s.mem :=
  maskF_mem_eq (maskF_readMem s a n k)
@[simp] theorem readMem_memBad (a n : Nat) (k : Option Nat) : ((s.readMem a n k).2).memBad = s.memBad :=
  maskF_memBad_eq (maskF_readMem s a n k)
@[simp] theorem readMem_dict (a n : Nat) (k : Option Nat) : ((s.readMem a n k).2).dict = s.dict :=
  maskF_dict_eq (maskF_readMem s a n k)
@[simp] theorem readMem_plan (a n : Nat) (k : Option Nat) : ((s.readMem a n k).2).plan = s.plan :=
  maskF_plan_eq (maskF_readMem s a n k)
@[simp] theorem readMem_ledger (a n : Nat) (k : Option Nat) : ((s.readMem a n k).2).ledger = s.ledger :=
  maskF_ledger_eq (maskF_readMem s a n k)
@[simp] theorem readMem_exch (a n : Nat) (k : Option Nat) : ((s.readMem a n k).2).exch = s.exch :=
  maskF_exch_eq (maskF_readMem s a n k)
@[simp] theorem readMem_upd (a n : Nat) (k : Option Nat) : ((s.readMem a n k).2).upd = s.upd :=
  maskF_upd_eq (maskF_readMem s a n k)
@[simp] theorem readMem_host (a n : Nat) (k : Option Nat) : ((s.readMem a n k).2).host = s.host :=
  maskF_host_eq (maskF_readMem s a n k)
@[simp] theorem readMem_startup (a n : Nat) (k : Option Nat) : ((s.readMem a n k).2).startup = s.startup :=
  maskF_startup_eq (maskF_readMem s a n k)
@[simp] theorem readMem_phys (a n : Nat) (k : Option Nat) : ((s.readMem a n k).2).phys = s.phys :=
  maskF_phys_eq (maskF_readMem s a n k)
@[simp] theorem readMem_netOut (a n : Nat) (k : Option Nat) : ((s.readMem a n k).2).netOut = s.netOut :=
  maskF_netOut_eq (maskF_readMem s a n k)
@[simp] theorem readMem_job (a n : Nat) (k : Option Nat) : ((s.readMem a n k).2).job = s.job :=
  maskF_job_eq (maskF_readMem s a n k)
@[simp] theorem readMem_cores (a n : Nat) (k : Option Nat) : ((s.readMem a n k).2).cores = s.cores :=
  maskF_cores_eq (maskF_readMem s a n k)

/-! ### engineBusy -/

@[simp] theorem maskR_engineBusy (c : Nat) : maskR (s.engineBusy c) = maskR s := by
  unfold State.engineBusy
  (try dsimp only)
  (repeat' split) <;> (try simp only [maskR_regs, maskR_setRword, maskR_fset, maskR_fsetS, maskR_fcount, maskR_setCodeBit]) <;> (try rfl)

@[simp] theorem maskF_engineBusy (c : Nat) : maskF (s.engineBusy c) = maskF s :=
  maskF_of (maskR_engineBusy s c) (by unfold State.engineBusy; (try dsimp only); (repeat' split) <;> rfl)
    (by unfold State.engineBusy; (try dsimp only); (repeat' split) <;> rfl)

@[simp] theorem maskJ_engineBusy (c : Nat) : maskJ (s.engineBusy c) = maskJ s := maskJ_of (maskF_engineBusy s c)

@[simp] theorem engineBusy_pending (c : Nat) : (s.engineBusy c).pending = s.pending :=
  maskR_pending_eq (maskR_engineBusy s c)
@[simp] theorem engineBusy_mem (c : Nat) : (s.engineBusy c).mem = s.mem :=
  maskR_mem_eq (maskR_engineBusy s c)
@[simp] theorem engineBusy_memBad (c : Nat) : (s.engineBusy c).memBad = s.memBad :=
  maskR_memBad_eq (maskR_engineBusy s c)
@[simp] theorem engineBusy_dict (c : Nat) : (s.engineBusy c).dict = s.dict :=
  maskR_dict_eq (maskR_engineBusy s c)
@[simp] theorem engineBusy_plan (c : Nat) : (s.engineBusy c).plan = s.plan :=
  maskR_plan_eq (maskR_engineBusy s c)
@[simp] theorem engineBusy_ledger (c : Nat) : (s.engineBusy c).ledger = s.ledger :=
  maskR_ledger_eq (maskR_engineBusy s c)
@[simp] theorem engineBusy_exch (c : Nat) : (s.engineBusy c).exch = s.exch :=
  maskR_exch_eq (maskR_engineBusy s c)
@[simp] theorem engineBusy_upd (c : Nat) : (s.engineBusy c).upd = s.upd :=
  maskR_upd_eq (maskR_engineBusy s c)
@[simp] theorem engineBusy_host (c : Nat) : (s.engineBusy c).host = s.host :=
  maskR_host_eq (maskR_engineBusy s c)
@[simp] theorem engineBusy_startup (c : Nat) : (s.engineBusy c).startup = s.startup :=
  maskR_startup_eq (maskR_engineBusy s c)
@[simp] theorem engineBusy_phys (c : Nat) : (s.engineBusy c).phys = s.phys :=
  maskR_phys_eq (maskR_engineBusy s c)
@[simp] theorem engineBusy_netOut (c : Nat) : (s.engineBusy c).netOut = s.netOut :=
  maskR_netOut_eq (maskR_engineBusy s c)
@[simp] theorem engineBusy_job (c : Nat) : (s.engineBusy c).job = s.job :=
  maskR_job_eq (maskR_engineBusy s c)
@[simp] theorem engineBusy_cores (c : Nat) : (s.engineBusy c).cores = s.cores :=
  maskR_cores_eq (maskR_engineBusy s c)

/-! ### enqueue -/

@[simp] theorem maskJ_enqueue (c u : Nat) (it : QItem) : maskJ (s.enqueue c u it) = maskJ s := by
  unfold State.enqueue; simp only [maskJ_regs, maskJ_faults, maskJ_log, maskJ_job, maskJ_cores, maskJ_setRword, maskJ_fset, maskJ_fsetS, maskJ_fcount, maskJ_countCode, maskJ_logWrite, maskJ_modCore, maskJ_setCodeBit, maskJ_raiseIn, maskJ_raiseAfter, maskJ_raise, maskJ_starved, maskJ_halt, maskJ_raiseBad, maskJ_readMem, maskJ_engineBusy]

@[simp] theorem enqueue_pending (c u : Nat) (it : QItem) : (s.enqueue c u it).pending = s.pending :=
  maskJ_pending_eq (maskJ_enqueue s c u it)
@[simp] theorem enqueue_mem (c u : Nat) (it : QItem) : (s.enqueue c u it).mem = s.mem :=
  maskJ_mem_eq (maskJ_enqueue s c u it)
@[simp] theorem enqueue_memBad (c u : Nat) (it : QItem) : (s.enqueue c u it).memBad = s.memBad :=
  maskJ_memBad_eq (maskJ_enqueue s c u it)
@[simp] theorem enqueue_dict (c u : Nat) (it : QItem) : (s.enqueue c u it).dict = s.dict :=
  maskJ_dict_eq (maskJ_enqueue s c u it)
@[simp] theorem enqueue_plan (c u : Nat) (it : QItem) : (s.enqueue c u it).plan = s.plan :=
  maskJ_plan_eq (maskJ_enqueue s c u it)
@[simp] theorem enqueue_ledger (c u : Nat) (it : QItem) : (s.enqueue c u it).ledger = s.ledger :=
  maskJ_ledger_eq (maskJ_enqueue s c u it)
@[simp] theorem enqueue_exch (c u : Nat) (it : QItem) : (s.enqueue c u it).exch = s.exch :=
  maskJ_exch_eq (maskJ_enqueue s c u it)
@[simp] theorem enqueue_upd (c u : Nat) (it : QItem) : (s.enqueue c u it).upd = s.upd :=
  maskJ_upd_eq (maskJ_enqueue s c u it)
@[simp] theorem enqueue_host (c u : Nat) (it : QItem) : (s.enqueue c u it).host = s.host :=
  maskJ_host_eq (maskJ_enqueue s c u it)
@[simp] theorem enqueue_startup (c u : Nat) (it : QItem) : (s.enqueue c u it).startup = s.startup :=
  maskJ_startup_eq (maskJ_enqueue s c u it)
@[simp] theorem enqueue_phys (c u : Nat) (it : QItem) : (s.enqueue c u it).phys = s.phys :=
  maskJ_phys_eq (maskJ_enqueue s c u it)
@[simp] theorem enqueue_netOut (c u : Nat) (it : QItem) : (s.enqueue c u it).netOut = s.netOut :=
  maskJ_netOut_eq (maskJ_enqueue s c u it)

/-! ### sectionEnd -/

@[simp] theorem maskJ_sectionEnd (c : Nat) : maskJ (s.sectionEnd c) = maskJ s := by
  unfold State.sectionEnd
  (try dsimp only)
  (repeat' split) <;> (try simp only [maskJ_regs, maskJ_faults, maskJ_log, maskJ_job, maskJ_cores, maskJ_setRword, maskJ_fset, maskJ_fsetS, maskJ_fcount, maskJ_countCode, maskJ_logWrite, maskJ_modCore, maskJ_setCodeBit, maskJ_raiseIn, maskJ_raiseAfter, maskJ_raise, maskJ_starved, maskJ_halt, maskJ_raiseBad, maskJ_readMem, maskJ_engineBusy, maskJ_enqueue]) <;> (try rfl)

@[simp] theorem sectionEnd_pending (c : Nat) : (s.sectionEnd c).pending = s.pending :=
  maskJ_pending_eq (maskJ_sectionEnd s c)
@[simp] theorem sectionEnd_mem (c : Nat) : (s.sectionEnd c).mem = s.mem :=
  maskJ_mem_eq (maskJ_sectionEnd s c)
@[simp] theorem sectionEnd_memBad (c : Nat) : (s.sectionEnd c).memBad = s.memBad :=
  maskJ_memBad_eq (maskJ_sectionEnd s c)
@[simp] theorem sectionEnd_dict (c : Nat) : (s.sectionEnd c).dict = s.dict :=
  maskJ_dict_eq (maskJ_sectionEnd s c)
@[simp] theorem sectionEnd_plan (c : Nat) : (s.sectionEnd c).plan = s.plan :=
  maskJ_plan_eq (maskJ_sectionEnd s c)
@[simp] theorem sectionEnd_ledger (c : Nat) : (s.sectionEnd c).ledger = s.ledger :=
  maskJ_ledger_eq (maskJ_sectionEnd s c)
@[simp] theorem sectionEnd_exch (c : Nat) : (s.sectionEnd c).exch = s.exch :=
  maskJ_exch_eq (maskJ_sectionEnd s c)
@[simp] theorem sectionEnd_upd (c : Nat) : (s.sectionEnd c).upd = s.upd :=
  maskJ_upd_eq (maskJ_sectionEnd s c)
@[simp] theorem sectionEnd_host (c : Nat) : (s.sectionEnd c).host = s.host :=
  maskJ_host_eq (maskJ_sectionEnd s c)
@[simp] theorem sectionEnd_startup (c : Nat) : (s.sectionEnd c).startup = s.startup :=
  maskJ_startup_eq (maskJ_sectionEnd s c)
@[simp] theorem sectionEnd_phys (c : Nat) : (s.sectionEnd c).phys = s.phys :=
  maskJ_phys_eq (maskJ_sectionEnd s c)
@[simp] theorem sectionEnd_netOut (c : Nat) : (s.sectionEnd c).netOut = s.netOut :=
  maskJ_netOut_eq (maskJ_sectionEnd s c)

/-! ### tokenPut -/

@[simp] theorem maskJ_tokenPut (c t n no : Nat) : maskJ (s.tokenPut c t n no) = maskJ s := by
  unfold State.tokenPut
  (try dsimp only)
  (repeat' split) <;> (try simp only [maskJ_regs, maskJ_faults, maskJ_log, maskJ_job, maskJ_cores, maskJ_setRword, maskJ_fset, maskJ_fsetS, maskJ_fcount, maskJ_countCode, maskJ_logWrite, maskJ_modCore, maskJ_setCodeBit, maskJ_raiseIn, maskJ_raiseAfter, maskJ_raise, maskJ_starved, maskJ_halt, maskJ_raiseBad, maskJ_readMem, maskJ_engineBusy, maskJ_enqueue, maskJ_sectionEnd]) <;> (try rfl)

@[simp] theorem tokenPut_pending (c t n no : Nat) : (s.tokenPut c t n no).pending = s.pending :=
  maskJ_pending_eq (maskJ_tokenPut s c t n no)
@[simp] theorem tokenPut_mem (c t n no : Nat) : (s.tokenPut c t n no).mem = s.mem :=
  maskJ_mem_eq (maskJ_tokenPut s c t n no)
@[simp] theorem tokenPut_memBad (c t n no : Nat) : (s.tokenPut c t n no).memBad = s.memBad :=
  maskJ_memBad_eq (maskJ_tokenPut s c t n no)
@[simp] theorem tokenPut_dict (c t n no : Nat) : (s.tokenPut c t n no).dict = s.dict :=
  maskJ_dict_eq (maskJ_tokenPut s c t n no)
@[simp] theorem tokenPut_plan (c t n no : Nat) : (s.tokenPut c t n no).plan = s.plan :=
  maskJ_plan_eq (maskJ_tokenPut s c t n no)
@[simp] theorem tokenPut_ledger (c t n no : Nat) : (s.tokenPut c t n no).ledger = s.ledger :=
  maskJ_ledger_eq (maskJ_tokenPut s c t n no)
@[simp] theorem tokenPut_exch (c t n no : Nat) : (s.tokenPut c t n no).exch = s.exch :=
  maskJ_exch_eq (maskJ_tokenPut s c t n no)
@[simp] theorem tokenPut_upd (c t n no : Nat) : (s.tokenPut c t n no).upd = s.upd :=
  maskJ_upd_eq (maskJ_tokenPut s c t n no)
@[simp] theorem tokenPut_host (c t n no : Nat) : (s.tokenPut c t n no).host = s.host :=
  maskJ_host_eq (maskJ_tokenPut s c t n no)
@[simp] theorem tokenPut_startup (c t n no : Nat) : (s.tokenPut c t n no).startup = s.startup :=
  maskJ_startup_eq (maskJ_tokenPut s c t n no)
@[simp] theorem tokenPut_phys (c t n no : Nat) : (s.tokenPut c t n no).phys = s.phys :=
  maskJ_phys_eq (maskJ_tokenPut s c t n no)
@[simp] theorem tokenPut_netOut (c t n no : Nat) : (s.tokenPut c t n no).netOut = s.netOut :=
  maskJ_netOut_eq (maskJ_tokenPut s c t n no)

/-! ### endWait -/

@[simp] theorem maskJ_endWait (c : Nat) : maskJ (s.endWait c) = maskJ s := by
  unfold State.endWait
  (try dsimp only)
  (repeat' split) <;> (try simp only [maskJ_regs, maskJ_faults, maskJ_log, maskJ_job, maskJ_cores, maskJ_setRword, maskJ_fset, maskJ_fsetS, maskJ_fcount, maskJ_countCode, maskJ_logWrite, maskJ_modCore, maskJ_setCodeBit, maskJ_raiseIn, maskJ_raiseAfter, maskJ_raise, maskJ_starved, maskJ_halt, maskJ_raiseBad, maskJ_readMem, maskJ_engineBusy, maskJ_enqueue, maskJ_sectionEnd, maskJ_tokenPut]) <;> (try rfl)

@[simp] theorem endWait_pending (c : Nat) : (s.endWait c).pending = s.pending :=
  maskJ_pending_eq (maskJ_endWait s c)
@[simp] theorem endWait_mem (c : Nat) : (s.endWait c).mem = s.mem :=
  maskJ_mem_eq (maskJ_endWait s c)
@[simp] theorem endWait_memBad (c : Nat) : (s.endWait c).memBad = s.memBad :=
  maskJ_memBad_eq (maskJ_endWait s c)
@[simp] theorem endWait_dict (c : Nat) : (s.endWait c).dict = s.dict :=
  maskJ_dict_eq (maskJ_endWait s c)
@[simp] theorem endWait_plan (c : Nat) : (s.endWait c).plan = s.plan :=
  maskJ_plan_eq (maskJ_endWait s c)
@[simp] theorem endWait_ledger (c : Nat) : (s.endWait c).ledger = s.ledger :=
  maskJ_ledger_eq (maskJ_endWait s c)
@[simp] theorem endWait_exch (c : Nat) : (s.endWait c).exch = s.exch :=
  maskJ_exch_eq (maskJ_endWait s c)
@[simp] theorem endWait_upd (c : Nat) : (s.endWait c).upd = s.upd :=
  maskJ_upd_eq (maskJ_endWait s c)
@[simp] theorem endWait_host (c : Nat) : (s.endWait c).host = s.host :=
  maskJ_host_eq (maskJ_endWait s c)
@[simp] theorem endWait_startup (c : Nat) : (s.endWait c).startup = s.startup :=
  maskJ_startup_eq (maskJ_endWait s c)
@[simp] theorem endWait_phys (c : Nat) : (s.endWait c).phys = s.phys :=
  maskJ_phys_eq (maskJ_endWait s c)
@[simp] theorem endWait_netOut (c : Nat) : (s.endWait c).netOut = s.netOut :=
  maskJ_netOut_eq (maskJ_endWait s c)

/-! ### tokenAdd -/

@[simp] theorem maskJ_tokenAdd (c t n no : Nat) : maskJ (s.tokenAdd c t n no) = maskJ s := by
  unfold State.tokenAdd; simp only [maskJ_regs, maskJ_faults, maskJ_log, maskJ_job, maskJ_cores, maskJ_setRword, maskJ_fset, maskJ_fsetS, maskJ_fcount, maskJ_countCode, maskJ_logWrite, maskJ_modCore, maskJ_setCodeBit, maskJ_raiseIn, maskJ_raiseAfter, maskJ_raise, maskJ_starved, maskJ_halt, maskJ_raiseBad, maskJ_readMem, maskJ_engineBusy, maskJ_enqueue, maskJ_sectionEnd, maskJ_tokenPut, maskJ_endWait]

@[simp] theorem tokenAdd_pending (c t n no : Nat) : (s.tokenAdd c t n no).pending = s.pending :=
  maskJ_pending_eq (maskJ_tokenAdd s c t n no)
@[simp] theorem tokenAdd_mem (c t n no : Nat) : (s.tokenAdd c t n no).mem = s.mem :=
  maskJ_mem_eq (maskJ_tokenAdd s c t n no)
@[simp] theorem tokenAdd_memBad (c t n no : Nat) : (s.tokenAdd c t n no).memBad = s.memBad :=
  maskJ_memBad_eq (maskJ_tokenAdd s c t n no)
@[simp] theorem tokenAdd_dict (c t n no : Nat) : (s.tokenAdd c t n no).dict = s.dict :=
  maskJ_dict_eq (maskJ_tokenAdd s c t n no)
@[simp] theorem tokenAdd_plan (c t n no : Nat) : (s.tokenAdd c t n no).plan = s.plan :=
  maskJ_plan_eq (maskJ_tokenAdd s c t n no)
@[simp] theorem tokenAdd_ledger (c t n no : Nat) : (s.tokenAdd c t n no).ledger = s.ledger :=
  maskJ_ledger_eq (maskJ_tokenAdd s c t n no)
@[simp] theorem tokenAdd_exch (c t n no : Nat) : (s.tokenAdd c t n no).exch = s.exch :=
  maskJ_exch_eq (maskJ_tokenAdd s c t n no)
@[simp] theorem tokenAdd_upd (c t n no : Nat) : (s.tokenAdd c t n no).upd = s.upd :=
  maskJ_upd_eq (maskJ_tokenAdd s c t n no)
@[simp] theorem tokenAdd_host (c t n no : Nat) : (s.tokenAdd c t n no).host = s.host :=
  maskJ_host_eq (maskJ_tokenAdd s c t n no)
@[simp] theorem tokenAdd_startup (c t n no : Nat) : (s.tokenAdd c t n no).startup = s.startup :=
  maskJ_startup_eq (maskJ_tokenAdd s c t n no)
@[simp] theorem tokenAdd_phys (c t n no : Nat) : (s.tokenAdd c t n no).phys = s.phys :=
  maskJ_phys_eq (maskJ_tokenAdd s c t n no)
@[simp] theorem tokenAdd_netOut (c t n no : Nat) : (s.tokenAdd c t n no).netOut = s.netOut :=
  maskJ_netOut_eq (maskJ_tokenAdd s c t n no)

/-! ### csignal -/

@[simp] theorem maskJ_csignal (c : Nat) (m : Cmn) (no : Nat) : maskJ (s.csignal c m no) = maskJ s := by
  unfold State.csignal
  (try dsimp only)
  (repeat' split) <;> (try simp only [maskJ_regs, maskJ_faults, maskJ_log, maskJ_job, maskJ_cores, maskJ_setRword, maskJ_fset, maskJ_fsetS, maskJ_fcount, maskJ_countCode, maskJ_logWrite, maskJ_modCore, maskJ_setCodeBit, maskJ_raiseIn, maskJ_raiseAfter, maskJ_raise, maskJ_starved, maskJ_halt, maskJ_raiseBad, maskJ_readMem, maskJ_engineBusy, maskJ_enqueue, maskJ_sectionEnd, maskJ_tokenPut, maskJ_endWait, maskJ_tokenAdd]) <;> (try rfl)

@[simp] theorem csignal_pending (c : Nat) (m : Cmn) (no : Nat) : (s.csignal c m no).pending = s.pending :=
  maskJ_pending_eq (maskJ_csignal s c m no)
@[simp] theorem csignal_mem (c : Nat) (m : Cmn) (no : Nat) : (s.csignal c m no).mem = s.mem :=
  maskJ_mem_eq (maskJ_csignal s c m no)
@[simp] theorem csignal_memBad (c : Nat) (m : Cmn) (no : Nat) : (s.csignal c m no).memBad = s.memBad :=
  maskJ_memBad_eq (maskJ_csignal s c m no)
@[simp] theorem csignal_dict (c : Nat) (m : Cmn) (no : Nat) : (s.csignal c m no).dict = s.dict :=
  maskJ_dict_eq (maskJ_csignal s c m no)
@[simp] theorem csignal_plan (c : Nat) (m : Cmn) (no : Nat) : (s.csignal c m no).plan = s.plan :=
  maskJ_plan_eq (maskJ_csignal s c m no)
@[simp] theorem csignal_ledger (c : Nat) (m : Cmn) (no : Nat) : (s.csignal c m no).ledger = s.ledger :=
  maskJ_ledger_eq (maskJ_csignal s c m no)
@[simp] theorem csignal_exch (c : Nat) (m : Cmn) (no : Nat) : (s.csignal c m no).exch = s.exch :=
  maskJ_exch_eq (maskJ_csignal s c m no)
@[simp] theorem csignal_upd (c : Nat) (m : Cmn) (no : Nat) : (s.csignal c m no).upd = s.upd :=
  maskJ_upd_eq (maskJ_csignal s c m no)
@[simp] theorem csignal_host (c : Nat) (m : Cmn) (no : Nat) : (s.csignal c m no).host = s.host :=
  maskJ_host_eq (maskJ_csignal s c m no)
@[simp] theorem csignal_startup (c : Nat) (m : Cmn) (no : Nat) : (s.csignal c m no).startup = s.startup :=
  maskJ_startup_eq (maskJ_csignal s c m no)
@[simp] theorem csignal_phys (c : Nat) (m : Cmn) (no : Nat) : (s.csignal c m no).phys = s.phys :=
  maskJ_phys_eq (maskJ_csignal s c m no)
@[simp] theorem csignal_netOut (c : Nat) (m : Cmn) (no : Nat) : (s.csignal c m no).netOut = s.netOut :=
  maskJ_netOut_eq (maskJ_csignal s c m no)

end Sys2Proof.Laws
end

