-- ==== Sys2Proof/Tests/Slice0.lean ====
section
/-! SUPPORT. Small tests of one step each, worked examples of the manual, a refused command field for each check of
WellFormed, and for every statement with hypotheses a state and operands that meet them (`meets_`). -/

namespace Sys2Proof.Tests

open Sys2Proof Sys2Proof.Machine

/-! ### States -/

/-- Core `k` runs its main section. -/
def run (k : Nat) : State := State.reset.fset .SEQ_STATUS_STATE 1 k

/-- A state with core `k` as given. -/
def put (s : State) (k : Nat) (c : Core) : State := { s with cores := s.cores.put k c }

/-- The state after a command, or the state itself where the command stops. -/
def after (i : Instr) (s : State) : State := match exec i s with | .next t => t | _ => s

/-- A state whose queue holds one item of a LOAD. -/
def anItem : QItem := { no := 0, entry := .nop, c := {} }

/-- A LOAD or STORE of one line at ABS address 4,096 and larder address 64. -/
def aMove : MoveF := ⟨⟨0, 4096⟩, 64, 0, 0, 1⟩

/-- Addresses below 96 GiB are mapped in either variant (R3). -/
theorem mappedRange_low (a n : Nat) (h : a + n ≤ 96 * 2 ^ 30) : mappedRange a n = true := by
  have q : 96 * 2 ^ 30 ≤ quarterSize := by unfold quarterSize; split <;> decide
  unfold mappedRange mapped
  rcases Nat.eq_zero_or_pos n with rfl | hn
  · simp
  · have h1 : a / 2 ^ 38 = 0 := by omega
    have h2 : (a + n - 1) / 2 ^ 38 = 0 := by omega
    have h3 : a % 2 ^ 38 = a := by omega
    have h4 : (a + n - 1) % 2 ^ 38 = a + n - 1 := by omega
    rw [h1, h2, h3, h4]
    simp only [decide_true, Bool.and_true, Bool.or_eq_true, Bool.and_eq_true, decide_eq_true_eq]
    omega

/-! ### Fields out of range: one refused term for each check of WellFormed -/

def okMvm : MvmF := ⟨1, 0, 0, 0, 0, 0, 0, 0, true, 0, 0, 0, 0, 0, 0⟩
def okMatmul : MatmulF := ⟨0, 0, 0, true, 0, 63, 63, 1, false, false, false⟩
def okVstream : VstreamF := ⟨0, 2, 0, 0, 1, 0⟩
def okSend : SendF := ⟨0, 0, true, 0, false, 0, false, 0, 0⟩
def okRecv : RecvF := ⟨0, 0, true, 0, false, 0, 0⟩
def okRoute : RouteF := ⟨0, 0, 0, 0, 0, 0, false, 0, 0⟩
def okReturn : ReturnF := ⟨⟨0, 0⟩, 0, 0, 0, false, 0⟩
def okSignal : SignalF := ⟨0, 0, true, true, 0, 1, 0⟩

theorem test_good_fields : okMvm.wf && okMatmul.wf && okVstream.wf && okSend.wf && okRecv.wf && okRoute.wf &&
    okReturn.wf && okSignal.wf && aMove.wf = true := by decide

theorem test_ill_cmn : (⟨64, false⟩ : Cmn).wf = false := by decide
theorem test_ill_address : (⟨4, 0⟩ : MemAddr).wf = false ∧ (⟨0, 2 ^ 40⟩ : MemAddr).wf = false := by decide
theorem test_ill_move : ({ aMove with mem := ⟨4, 0⟩ } : MoveF).wf = false ∧ ({ aMove with larder := 2 ^ 19 } : MoveF).wf = false ∧
    ({ aMove with linew := 4096 } : MoveF).wf = false ∧ ({ aMove with lines := 4096 } : MoveF).wf = false ∧
    ({ aMove with pitch := 2 ^ 24 } : MoveF).wf = false := by decide
theorem test_ill_stash : (⟨16384, 0, 0, 0, false⟩ : StashF).wf = false ∧ (⟨0, 2 ^ 19, 0, 0, false⟩ : StashF).wf = false ∧
    (⟨0, 0, 4096, 0, false⟩ : StashF).wf = false ∧ (⟨0, 0, 0, 16384, false⟩ : StashF).wf = false := by decide
theorem test_ill_unstash : (⟨16384, 0⟩ : UnstashF).wf = false ∧ (⟨0, 2 ^ 19⟩ : UnstashF).wf = false := by decide
theorem test_ill_mvm_positions : ({ okMvm with posmask := 0 } : MvmF).wf = false ∧ ({ okMvm with posmask := 16 } : MvmF).wf = false ∧
    ({ okMvm with bank := 2 } : MvmF).wf = false ∧ ({ okMvm with gain := 256 } : MvmF).wf = false ∧
    ({ okMvm with inbase := 2 ^ 19 } : MvmF).wf = false ∧ ({ okMvm with insel := 256 } : MvmF).wf = false ∧
    ({ okMvm with scbase := 2 ^ 19 } : MvmF).wf = false ∧ ({ okMvm with fmt := 16 } : MvmF).wf = false := by decide
theorem test_ill_mvm_outputs : ({ okMvm with tile := 2 } : MvmF).wf = false ∧ ({ okMvm with areg := 32 } : MvmF).wf = false ∧
    ({ okMvm with row := 64 } : MvmF).wf = false ∧ ({ okMvm with out := 256 } : MvmF).wf = false ∧
    ({ okMvm with rpt := 64 } : MvmF).wf = false ∧ ({ okMvm with rstep := 4 } : MvmF).wf = false ∧
    ({ okMvm with tag := 65536 } : MvmF).wf = false := by decide
theorem test_ill_write_full : (⟨0, 0, ⟨0, 0⟩, 0⟩ : WriteFullF).wf = false ∧ (⟨16, 0, ⟨0, 0⟩, 0⟩ : WriteFullF).wf = false ∧
    (⟨1, 2, ⟨0, 0⟩, 0⟩ : WriteFullF).wf = false ∧ (⟨1, 0, ⟨4, 0⟩, 0⟩ : WriteFullF).wf = false ∧
    (⟨1, 0, ⟨0, 0⟩, 65536⟩ : WriteFullF).wf = false := by decide
theorem test_ill_write_delta : (⟨0, 0, ⟨0, 0⟩, ⟨0, 0⟩, 0⟩ : WriteDeltaF).wf = false ∧
    (⟨1, 2, ⟨0, 0⟩, ⟨0, 0⟩, 0⟩ : WriteDeltaF).wf = false ∧ (⟨1, 0, ⟨4, 0⟩, ⟨0, 0⟩, 0⟩ : WriteDeltaF).wf = false ∧
    (⟨1, 0, ⟨0, 0⟩, ⟨4, 0⟩, 0⟩ : WriteDeltaF).wf = false ∧ (⟨1, 0, ⟨0, 0⟩, ⟨0, 0⟩, 65536⟩ : WriteDeltaF).wf = false ∧
    (⟨16, 0, ⟨0, 0⟩, ⟨0, 0⟩, 0⟩ : WriteDeltaF).wf = false := by decide
theorem test_ill_matmul : ({ okMatmul with kb := 0 } : MatmulF).wf = false ∧ ({ okMatmul with kb := 2 ^ 24 } : MatmulF).wf = false ∧
    ({ okMatmul with kb := 3, breuse := true } : MatmulF).wf = false ∧ ({ okMatmul with adesc := 2 ^ 19 } : MatmulF).wf = false ∧
    ({ okMatmul with bdesc := 2 ^ 19 } : MatmulF).wf = false ∧ ({ okMatmul with tile := 2 } : MatmulF).wf = false ∧
    ({ okMatmul with areg := 32 } : MatmulF).wf = false ∧ ({ okMatmul with m := 64 } : MatmulF).wf = false ∧
    ({ okMatmul with n := 64 } : MatmulF).wf = false := by decide
theorem test_ill_fwadd : (⟨2 ^ 19, 0, 0, true⟩ : FwaddF).wf = false ∧ (⟨0, 2 ^ 19, 0, true⟩ : FwaddF).wf = false ∧
    (⟨0, 0, 2, true⟩ : FwaddF).wf = false := by decide
theorem test_ill_anchor_set : (⟨32, 0⟩ : AnchorSetF).wf = false ∧ (⟨0, 65536⟩ : AnchorSetF).wf = false := by decide
theorem test_ill_anchor_scales : (⟨32, 0, 0, 0, 0, 0⟩ : AnchorScalesF).wf = false ∧ (⟨0, 65536, 0, 0, 0, 0⟩ : AnchorScalesF).wf = false ∧
    (⟨0, 0, 2 ^ 19, 0, 0, 0⟩ : AnchorScalesF).wf = false ∧ (⟨0, 0, 0, 65536, 0, 0⟩ : AnchorScalesF).wf = false ∧
    (⟨0, 0, 0, 0, 2 ^ 19, 0⟩ : AnchorScalesF).wf = false ∧ (⟨0, 0, 0, 0, 0, 65536⟩ : AnchorScalesF).wf = false := by decide
theorem test_ill_anchor_descs : (⟨32, 0, 0, 0⟩ : AnchorDescsF).wf = false ∧ (⟨0, 65536, 0, 0⟩ : AnchorDescsF).wf = false ∧
    (⟨0, 0, 2 ^ 19, 0⟩ : AnchorDescsF).wf = false ∧ (⟨0, 0, 0, 65536⟩ : AnchorDescsF).wf = false := by decide
theorem test_ill_drain : (⟨2, 0, 0, 0, 0, 0⟩ : DrainF).wf = false ∧ (⟨0, 2 ^ 19, 0, 0, 0, 0⟩ : DrainF).wf = false ∧
    (⟨0, 0, 512, 0, 0, 0⟩ : DrainF).wf = false ∧ (⟨0, 0, 0, 2 ^ 19, 0, 0⟩ : DrainF).wf = false ∧
    (⟨0, 0, 0, 0, 2 ^ 24, 0⟩ : DrainF).wf = false ∧ (⟨0, 0, 0, 0, 0, 512⟩ : DrainF).wf = false := by decide
theorem test_ill_drain_full : (⟨2, 0, 0, 0, 0, 0, 0⟩ : DrainFullF).wf = false ∧ (⟨0, 2 ^ 19, 0, 0, 0, 0, 0⟩ : DrainFullF).wf = false ∧
    (⟨0, 0, 2 ^ 19, 0, 0, 0, 0⟩ : DrainFullF).wf = false ∧ (⟨0, 0, 0, 512, 0, 0, 0⟩ : DrainFullF).wf = false ∧
    (⟨0, 0, 0, 0, 2 ^ 19, 0, 0⟩ : DrainFullF).wf = false ∧ (⟨0, 0, 0, 0, 0, 2 ^ 24, 0⟩ : DrainFullF).wf = false ∧
    (⟨0, 0, 0, 0, 0, 0, 512⟩ : DrainFullF).wf = false := by decide
theorem test_ill_vstream : ({ okVstream with maskgen := 3 } : VstreamF).wf = false ∧ ({ okVstream with window := 0 } : VstreamF).wf = false ∧
    ({ okVstream with chain := 2 ^ 19 } : VstreamF).wf = false ∧ ({ okVstream with qpos := 2 ^ 21 } : VstreamF).wf = false ∧
    ({ okVstream with kpos := 2 ^ 21 } : VstreamF).wf = false ∧ ({ okVstream with window := 2 ^ 21 } : VstreamF).wf = false ∧
    ({ okVstream with olist := 512 } : VstreamF).wf = false := by decide
theorem test_ill_send : ({ okSend with dmod := 65536 } : SendF).wf = false ∧ ({ okSend with dcore := 4096 } : SendF).wf = false ∧
    ({ okSend with dtoken := 64 } : SendF).wf = false ∧ ({ okSend with channel := 256 } : SendF).wf = false ∧
    ({ okSend with src := 2 ^ 42 } : SendF).wf = false ∧ ({ okSend with len := 2 ^ 24 } : SendF).wf = false := by decide
theorem test_ill_recv : ({ okRecv with smod := 65536 } : RecvF).wf = false ∧ ({ okRecv with score := 4096 } : RecvF).wf = false ∧
    ({ okRecv with channel := 256 } : RecvF).wf = false ∧ ({ okRecv with dst := 2 ^ 42 } : RecvF).wf = false ∧
    ({ okRecv with len := 2 ^ 24 } : RecvF).wf = false := by decide
theorem test_ill_route : ({ okRoute with choices := 2 ^ 19 } : RouteF).wf = false ∧ ({ okRoute with rows := 2 ^ 19 } : RouteF).wf = false ∧
    ({ okRoute with ntok := 4096 } : RouteF).wf = false ∧ ({ okRoute with k := 4 } : RouteF).wf = false ∧
    ({ okRoute with tokbase := 2 ^ 20 } : RouteF).wf = false ∧ ({ okRoute with layer := 256 } : RouteF).wf = false ∧
    ({ okRoute with retrow := 65536 } : RouteF).wf = false ∧ ({ okRoute with roww := 4096 } : RouteF).wf = false := by decide
theorem test_ill_return : ({ okReturn with src := ⟨4, 0⟩ } : ReturnF).wf = false ∧ ({ okReturn with firstslot := 65536 } : ReturnF).wf = false ∧
    ({ okReturn with nslot := 4096 } : ReturnF).wf = false ∧ ({ okReturn with layer := 256 } : ReturnF).wf = false ∧
    ({ okReturn with roww := 4096 } : ReturnF).wf = false := by decide
theorem test_ill_wait : (⟨0, 0, false⟩ : WaitF).wf = false ∧ (⟨64, 1, false⟩ : WaitF).wf = false ∧
    (⟨0, 65536, false⟩ : WaitF).wf = false := by decide
theorem test_ill_signal : ({ okSignal with count := 0 } : SignalF).wf = false ∧ ({ okSignal with dmod := 65536 } : SignalF).wf = false ∧
    ({ okSignal with dcore := 4096 } : SignalF).wf = false ∧ ({ okSignal with token := 64 } : SignalF).wf = false ∧
    ({ okSignal with count := 65536 } : SignalF).wf = false ∧ ({ okSignal with units := 64 } : SignalF).wf = false := by decide
theorem test_ill_entry : (Entry.fence 64).wf = false ∧ (Entry.waitToken ⟨0, 0, false⟩).wf = false ∧
    (Entry.commitPoint).okWith ⟨0, true⟩ = false ∧ (Entry.nop).okWith ⟨64, false⟩ = false := by decide
theorem test_ill_core : coreOk 4096 = false := by decide
theorem test_ill_stage : ({ srca := 8 } : StageW).wf = false ∧ ({ srcb := 8 } : StageW).wf = false ∧
    ({ srcc := 8 } : StageW).wf = false ∧ ({ maskin := 4 } : StageW).wf = false ∧ ({ mout := 2 } : StageW).wf = false ∧
    ({ sub := 256 } : StageW).wf = false := by decide
theorem test_ill_update : ({ dst := 8 } : UpdF).wf = false ∧ ({ a := 8 } : UpdF).wf = false ∧ ({ b := 8 } : UpdF).wf = false ∧
    ({ c := 8 } : UpdF).wf = false ∧ ({ kidx := 16 } : UpdF).wf = false ∧ ({ ksel := 4 } : UpdF).wf = false ∧
    ({ sub := 8 } : UpdF).wf = false := by decide

/-! ### Words written out from the manual's tables -/

/-- WAIT_TOKEN T2, count 2 (R206, R220): OP 0x38, TOKEN at bit 16, COUNT at bit 22. -/
theorem test_decode_wait : decodeEntry (0x38 + 2 * 2 ^ 16 + 2 * 2 ^ 22) = some (⟨0, false⟩, .waitToken ⟨2, 2, false⟩) := by decide +kernel
/-- The same with KEEP, at bit 38, and a reserved bit set, at bit 39: refused (R207). -/
theorem test_decode_wait_keep :
    decodeEntry (0x38 + 2 * 2 ^ 16 + 2 * 2 ^ 22 + 2 ^ 38) = some (⟨0, false⟩, .waitToken ⟨2, 2, true⟩) ∧
    decodeEntry (0x38 + 2 * 2 ^ 16 + 2 * 2 ^ 22 + 2 ^ 39) = none := by decide +kernel
/-- UNSTASH 900 to 0x4_0000, signalling T2 (R210): CTOKEN at bit 8, CSIG at bit 14. -/
theorem test_decode_unstash : decodeEntry (0x04 + 2 * 2 ^ 8 + 2 ^ 14 + 900 * 2 ^ 16 + 0x40000 * 2 ^ 30) =
    some (⟨2, true⟩, .unstash ⟨900, 0x40000⟩) := by decide +kernel
/-- Reserved operation codes and bit 15 are refused (R206, R207). -/
theorem test_decode_reserved : decodeEntry 0x05 = none ∧ decodeEntry (0x3E + 2 ^ 15) = none ∧
    decodeEntry 0x3E = some ({}, .nop) := by decide +kernel
/-- A stage word (R171): FMA, sources A, B and C at bits 8, 11 and 14, the immediate in bits 63 to 32. -/
theorem test_decode_stage : decodeStage (0x04 + 1 * 2 ^ 8 + 6 * 2 ^ 11 + 2 * 2 ^ 14 + 0x3F800000 * 2 ^ 32) =
    some ⟨.fma, { srca := 1, srcb := 6, srcc := 2, imm := 0x3F800000 }⟩ ∧ decodeStage 0x0F = none := by decide +kernel

/-! ### Reset -/

theorem reset_memOk : State.reset.memOk = true := by decide
theorem reset_idle : State.reset.pending = [] ∧ State.reset.fget .SEQ_STATUS_STATE 5 = 0 ∧ State.reset.job.stepCounter = 0 := by
  decide +kernel

/-! ### Worked examples of the manual -/

def nine : List Byte := [0x31, 0x32, 0x33, 0x34, 0x35, 0x36, 0x37, 0x38, 0x39]

/-- R383: the check value of each set. -/
theorem test_c32 : crc c32 nine = 0xE3069283 := by decide +kernel
theorem test_c64 : crc c64 nine = 0x995DC9BBDF1939FA := by decide +kernel
/-- Worked example of a host DMA transfer: the settings of that unit. -/
theorem test_crc32 : crc ⟨32, 0x04C11DB7, 0xFFFFFFFF, true, true, 0xFFFFFFFF⟩ nine = 0xCBF43926 := by decide +kernel

/-- Worked example: one FP4-E2M1 block at scale 130. -/
theorem test_e2m1_block : (toNarrow .e2m1 130 (.fin false 20 0)).code = 0x4 ∧
    toNarrow .e2m1 130 (lane 0xBFF33333) = { code := 0, zeroed := true } ∧
    (toNarrow .e2m1 130 (.fin false 52 0)).code = 0x7 ∧ (toNarrow .e2m1 130 (.fin true 60 0)) = { code := 0xF, sat := true } ∧
    (toNarrow .e2m1 130 (.fin false 0 0)) = { code := 0 } ∧ (toNarrow .e2m1 130 (.fin false 3 0)).code = 0x1 := by decide +kernel
/-- The step after, at scale 131. -/
theorem test_e2m1_next : (toNarrow .e2m1 131 (.fin false 52 0)) = { code := 5 } ∧
    (toNarrow .e2m1 131 (.fin true 60 0)) = { code := 0xE } := by decide +kernel
/-- Worked example: a data-gradient element. Block exponents 235, 241 and 146 weigh 2^(exponent - 254); the anchor is
241. -/
theorem test_terms : placeTerm 384 (235 - 254) 241 = (384 * 2 ^ 82, false) ∧
    placeTerm (-256) (241 - 254) 241 = (-256 * 2 ^ 88, false) ∧ placeTerm 160 (146 - 254) 241 = (1, true) := by decide +kernel
theorem test_gradient_fp32 : ((Elem.lane32 { val := BitVec.ofInt 128 (-16000 * 2 ^ 82 + 1) } 241).1 = 0xBCFA0000) := by
  decide +kernel
theorem test_gradient_e3m0 : (toNarrow .e3m0 122 (Elem.value { val := BitVec.ofInt 128 (-16000 * 2 ^ 82 + 1) } 241)).code = 0xC := by
  decide +kernel
/-- Worked example: one segment, at gain 4. Its 92 steps are in range; a full-scale 2,048 at gain 1 is over range. -/
theorem test_over_range : overFlag 368 .int4 2 true = false ∧ overFlag 2048 .int4 0 false = true := by decide +kernel
/-- Worked example: one element, four modules; first crossing at scale 121, second at 123. -/
theorem test_first_crossing : firstScale 2 117 = 121 ∧ convertElem 2 121 ⟨3, -11, false⟩ = (201326592, false, 0, 0) ∧
    convertElem 2 121 ⟨-2 ^ 30 + 1, -40, false⟩ = (-134217728, false, 0, 0) ∧
    convertElem 2 121 ⟨1, -8, false⟩ = (536870911, true, 0, 0) ∧ convertElem 2 121 ⟨5, -39, false⟩ = (1, false, 0, 0) := by
  decide +kernel
theorem test_second_crossing : secondScale 2 121 119 = 123 ∧ convertElem 2 123 ⟨3, -11, false⟩ = (50331648, false, 0, 0) ∧
    convertElem 2 123 ⟨-2 ^ 30 + 1, -40, false⟩ = (-33554432, false, 0, 0) ∧
    convertElem 2 123 ⟨1, -8, false⟩ = (134217728, false, 0, 0) ∧ convertElem 2 123 ⟨5, -39, false⟩ = (0, false, 1, 0) := by
  decide +kernel

/-- Worked example: one inn in one round, step 16,389. -/
def guest (m t r : Nat) : Traveller := ⟨m, 0, t, 12, r, 1, 0, 0, [], []⟩
def atStep : State := { State.reset with job := { State.reset.job with stepCounter := 16388 } }
theorem test_key_order : atStep.sortKey id [guest 7 100 0, guest 3 5 1, guest 5 900 0, guest 5 12 1, guest 12 3 0, guest 6 40 0,
      guest 7 99 1, guest 3 2 0] =
    [guest 5 12 1, guest 5 900 0, guest 6 40 0, guest 7 99 1, guest 7 100 0, guest 12 3 0, guest 3 2 0, guest 3 5 1] := by
  decide +kernel

/-- The example of the published hash standard that log entry 15 names: the digest of `abc`. -/
theorem test_sm3 : sm3 [0x61, 0x62, 0x63] =
    [0x66, 0xc7, 0xf0, 0xf4, 0x62, 0xee, 0xed, 0xd9, 0xd1, 0xf2, 0xd4, 0x6b, 0xdc, 0x10, 0xe4, 0xe2,
     0x41, 0x67, 0xc4, 0x87, 0x5c, 0xf2, 0xf7, 0xa2, 0x29, 0x7d, 0xa0, 0x2b, 0x8f, 0x4b, 0xa8, 0xe0] := by decide +kernel

/-- Worked example of PACK: a differential current code of 0xFF_F000 (R452). Input 28 is differential. -/
theorem test_pack : packCode 28 false (-4096) = 0xFFFFF000 ∧ packCode 28 true (-4096) = 0xFFF00000 := by decide +kernel

/-- Worked example: reading a layer table out of band, the request of segment 2 (R422). -/
theorem test_request : readRequest (.mctp 8) [0x01, 0x00, 0x07, 0x00, 0x01, 0x41, 0x01, 0x00, 0x00, 0x04, 0x00, 0x00, 0x00, 0x04,
      0x00, 0x00, 0, 0, 0, 0, 0, 0, 0, 0] =
    (1, { path := .mctp 8, tag := 7, index := 0x4101, sub := 1, offset := 0x400, length := 1024, last := false }) := by decide +kernel

/-- Worked example: a lowered power limit of 2,200 W: 2,266 W raises the level, 2,170 W holds it, 1,214 W lowers it. -/
def limited (l : Nat) : State :=
  { (State.reset.fset .PWR_STATUS_STATE 2).setDval 0x5020 2 2200 with power := { State.reset.power with level := l } }
theorem test_power_limit : (after (.powerLimitEvaluation 2266) (limited 2)).power.level = 3 ∧
    (after (.powerLimitEvaluation 2170) (limited 3)).power.level = 3 ∧
    (after (.powerLimitEvaluation 1214) (limited 3)).power.level = 2 := by decide +kernel

/-- PERM over a present length of 40 (R187's example): under ROTATE with IMM 5, lane 37 takes lane 2; under INDEXED, a
lane whose B is 45 is out of range. -/
theorem test_perm : permIdx { sub := 1, imm := 5 } 40 37 0 = 2 ∧ permIdx { sub := 0 } 40 0 45 = 45 := by decide +kernel
/-! ### The queue -/

/-- A dictionary command that waited for the management clock, which runs again. -/
def released : State := { State.reset with startup := { held := [([26], .marginReplanPeriod)] } }

/-- Core 3 runs, and its timetable lies at address 0: NOP there, or a word of zeros. -/
def fetching (op : Byte) : State := put { run 3 with mem := if op = 0 then [] else [(128, op)] } 3
  { hdr := some ⟨0, 1, 1, 1, 0, 0, 0, 5, 0, 0, 512, 65536, []⟩ }

theorem meets_EmptyQueue :
    (released.pending = [] ∧ released.released = some (.marginReplanPeriod, [])) ∧
    (State.reset.pending = [] ∧ State.reset.released = none ∧ ∀ k ∈ State.reset.cores.keys, State.reset.nextEntry k = none) ∧
    ((fetching 0x3E).released = none ∧ (fetching 0x3E).cores.keys = [3] ∧ (fetching 0x3E).nextEntry 3 = some (some ({}, .nop)) ∧
      (fetching 0x3E).memBad = []) ∧
    ((fetching 0).cores.keys = [3] ∧ (fetching 0).nextEntry 3 = some none) := by
  decide +kernel

/-! ### Timetable entries -/

theorem meets_IssueWaits :
    coreOk 4096 = false ∧
    (coreOk 3 = true ∧ (put (run 3) 3 { qMover := List.replicate 16 anItem }).canIssue 3 = true ∧
      16 ≤ (((put (run 3) 3 { qMover := List.replicate 16 anItem }).core 3).queue 0).length) ∧
    ((run 3).canIssue 3 = true ∧ ((run 3).core 3).qMover.length < 16 ∧ (Entry.fence 64).okWith {} = false) := by
  decide

theorem aMove_ok (s : State) : s.moveFault aMove = none := by
  have e : s.effAddr aMove.mem = 4096 := rfl
  have l : s.moveLines aMove = [4096] := by unfold State.moveLines; rw [e]; rfl
  unfold State.moveFault
  rw [l, e, if_neg (by decide), if_neg]
  simp [mappedRange_low 4096 (MoveBytes aMove) (by decide)]

theorem meets_Started : (run 3).moveFault aMove = none ∧
    (run 3).ready 3 {} (.load aMove) ∧ (run 3).ready 3 {} (.store aMove) ∧
    (∀ a ∈ (run 3).moveLines aMove, (run 3).inPages a (MoveBytes aMove) = false) ∧ (run 3).calm 3 ∧
    ((run 3).core 3).hold = none := by
  refine ⟨aMove_ok _, ?_⟩
  unfold State.ready State.calm; decide

theorem meets_StartedEngine :
    (run 3).ready 3 {} (.matmul ⟨0, 0, 0, true, 0, 0, 0, 1, false, false, false⟩) ∧
    (run 3).ready 3 {} (.fwadd ⟨0, 0, 0, true⟩) ∧ (run 3).ready 3 {} (.recv ⟨0, 0, true, 0, false, 0, 0⟩) := by
  unfold State.ready; decide

/-- Core 3 holds stash 5: one line at 8,192. -/
def stashed : State := put (run 3) 3 { stash := [(5, ⟨8192, 0, 0, false, [true]⟩)] }

theorem meets_StartedUnstash :
    stashed.ready 3 {} (.unstash ⟨5, 64⟩) ∧ (stashed.core 3).stash.find? 5 = some ⟨8192, 0, 0, false, [true]⟩ ∧
    inLarder 64 32 = true := by
  unfold State.ready; decide

theorem meets_LoadStore : (run 3).moveFault aMove = none ∧
    (run 3).ready 3 {} (.load aMove) ∧ (run 3).calm 3 ∧ (run 3).memBad = [] ∧
    (run 3).ready 3 {} (.store aMove) ∧ aMove.lines = 0 ∧
    (run 3).inPages ((run 3).effAddr aMove.mem) (MoveBytes aMove) = false := by
  refine ⟨aMove_ok _, ?_⟩
  unfold State.ready State.calm; decide

/-- Core 3 runs with 10 in token counter 7. -/
def tokens : State := (run 3).fset .TOKEN_COUNT 10 3 7

theorem meets_WaitToken :
    (tokens.ready 3 {} (.waitToken ⟨7, 11, false⟩) ∧ tokens.calm 3 ∧ tokens.fget .TOKEN_COUNT 3 7 < 11) ∧
    (tokens.ready 3 {} (.waitToken ⟨7, 10, false⟩) ∧ 10 ≤ tokens.fget .TOKEN_COUNT 3 7) ∧
    (tokens.ready 3 {} (.signal ⟨0, 3, true, true, 7, 65525, 0⟩) ∧ (tokens.core 3).unitsDone 0 = true ∧
      tokens.fget .TOKEN_COUNT 3 7 + 65525 ≤ 65535) ∧
    (tokens.ready 3 {} (.signal ⟨0, 3, true, true, 7, 65526, 0⟩) ∧ 65535 < tokens.fget .TOKEN_COUNT 3 7 + 65526) := by
  unfold State.ready State.calm; decide

/-- Core 4 runs too, with a wait for 3 in counter 7. -/
def waiter : State := put (tokens.fset .SEQ_STATUS_STATE 1 4) 4 { hold := some (.wait ⟨7, 3, false⟩ {}) }

theorem meets_SignalEndsAPendingWait :
    waiter.ready 3 {} (.signal ⟨0, 4, true, false, 7, 3, 0⟩) ∧ waiter.calm 3 ∧ (waiter.core 3).unitsDone 0 = true ∧
    waiter.seqState 4 = 1 ∧ (waiter.core 4).hold = some (.wait ⟨7, 3, false⟩ {}) ∧ (waiter.core 4).holding = [] ∧
    (waiter.core 4).backlog = [] ∧ waiter.fget .TOKEN_COUNT 4 7 + 3 ≤ 65535 ∧ 3 ≤ waiter.fget .TOKEN_COUNT 4 7 + 3 := by
  unfold State.ready State.calm; decide

theorem meets_SequencerEntries :
    (run 3).calm 3 ∧ (run 3).ready 3 {} .nop ∧ (run 3).ready 3 {} (.fence 63) ∧ ((run 3).core 3).unitsDone 63 = true ∧
    (put (run 3) 3 { qMover := [anItem] }).calm 3 ∧ (put (run 3) 3 { qMover := [anItem] }).ready 3 {} (.fence 1) ∧
    ((put (run 3) 3 { qMover := [anItem] }).core 3).unitsDone 1 = false ∧
    (run 3).ready 3 {} (.anchorSet ⟨31, 0xFFFF⟩) ∧ (run 3).ready 3 {} (.anchorScales ⟨0, 5, 0, 0, 64, 0⟩) ∧
    inLarder 64 1 = true ∧ (0xFF : Byte) ∉ ((run 3).core 3).larder.readBytes 0 1 ++ ((run 3).core 3).larder.readBytes 64 1 ∧
    (run 3).ready 3 {} (.anchorDescs ⟨0, 5, 0, 0⟩) ∧ inLarder 0 16 = true ∧
    (maxAnchor ((run 3).core 3).larder 0 1 + signed 16 5 ≤ 32767) ∧ (-32768 ≤ maxAnchor ((run 3).core 3).larder 0 1 + signed 16 5) ∧
    (run 3).ready 3 {} .commitPoint ∧ ((run 3).core 3).allDone = true ∧
    (∀ i, i < 64 → (run 3).fget .TOKEN_COUNT 3 i = 0) ∧ (run 3).exch.loaded = false := by
  unfold State.ready State.calm; decide

/-- Core 3 has a STORE under way. -/
def storing : State :=
  put (run 3) 3 { qMover := [{ no := 0, entry := .store aMove, c := ⟨9, true⟩, started := true }] }

/-- Core 3 waits on counter 7. -/
def timing : State := put (run 3) 3 { hold := some (.wait ⟨7, 3, false⟩ {}) }

theorem meets_EntriesComplete :
    storing.calm 3 ∧ (storing.core 3).hold = none ∧ storing.crosses (.entryComplete 3 0 0 {}) = true ∧
    storing.fget .TOKEN_COUNT 3 9 < 65535 ∧ timing.crosses (.tokenTimeout 3) = true ∧ timing.exch.loaded = false ∧
    timing.seqState 3 = 1 ∧ timing.job.stopped = false ∧ timing.tokenTimeout ≠ 0 ∧ (timing.core 3).waits = true := by
  unfold State.calm; decide

/-- Core 3 with a header that gives it a primary cellar of 192 KiB at 1 MiB. -/
def cellar : State := put (run 3) 3 { hdr := some ⟨0, 1, 0, 0, 1048576, 192, 0, 0, 0, 0, 0, 0, []⟩ }

theorem meets_Stash : mappedRange (1048576 + 131072 + 0) 32 = true ∧ cellar.ready 3 {} (.stash ⟨5, 64, 0, 0, false⟩) ∧
    cellar.calm 3 ∧ (cellar.core 3).stash.find? 5 = none ∧ inLarder 64 32 = true ∧
    (cellar.core 3).hdr = some ⟨0, 1, 0, 0, 1048576, 192, 0, 0, 0, 0, 0, 0, []⟩ ∧
    (cellar.core 3).cellarUsed + 32 ≤ 192 * 1024 - 131072 ∧ cellar.inPages (1048576 + 131072 + 0) 32 = false ∧
    cellar.memBad = [] := by
  refine ⟨mappedRange_low _ _ (by decide), ?_⟩
  unfold State.ready State.calm; decide

/-- The same with no room in the primary cellar, and an overflow region of `n` chunks of which the core holds `cs`. -/
def overflowing (n : Nat) (cs : List Nat) : State :=
  { put (run 3) 3 { hdr := some ⟨0, 1, 0, 0, 1048576, 128, 0, 0, 0, 0, 0, 0, []⟩, chunks := cs, chunkUsed := 64, stash := [(6, ⟨0, 0, 0, false, []⟩)] } with
    plan := { ovBase := 2 ^ 27, ovSize := n * chunkSize } }

theorem meets_StashOverflow :
    ((overflowing 2 [0]).ready 3 {} (.stash ⟨5, 64, 0, 0, true⟩) ∧ (overflowing 2 [0]).calm 3 ∧
      128 * 1024 - 131072 < ((overflowing 2 [0]).core 3).cellarUsed + 1 ∧ ((overflowing 2 [0]).core 3).chunks.getLast? = some 0 ∧
      ((overflowing 2 [0]).core 3).chunkUsed + 32 ≤ chunkSize ∧ (overflowing 2 [0]).memBad = []) ∧
    ((overflowing 2 []).freeChunk = some 0 ∧ ((overflowing 2 []).core 3).chunks = []) ∧ (overflowing 0 []).freeChunk = none ∧
    ((overflowing 0 []).core 3).stash.find? 6 ≠ none ∧ inLarder (2 ^ 19 - 32) 64 = false := by
  unfold State.ready State.calm; decide

/-! ### The vector engine and its queue -/

theorem meets_Lanes : State.reset.flows (dieClk 3) = true ∧ 0 < ({ len := 1 } : VPipe).len ∧ (({ len := 1 } : VPipe).enabledBy {}).getD 0 true = true ∧
    (({ len := 1, m0 := [false] } : VPipe).enabledBy { maskin := 2 }).getD 0 true = false := by decide

/-- An MWADD chain of 64 elements. -/
def mwChain : Chain :=
  { count := 64, segment := 64, words := 4, s0 := { kind := .full }, d := { kind := .mwrec, base := 4096 }, stages := [⟨.mwadd, {}⟩] }

theorem meets_Mwadd : chainFault mwChain false 0 0 0 = none ∧ mwChain.stages.any (·.op = .mwadd) = true ∧
    mwLow ((run 3).core 3).larder mwChain ((run 3).fgetS .ANCHOR_VALUE 3 0) = false := by decide

theorem meets_IntegerLanes : (31 : Word).toNat ≤ 31 ∧ 31 < (32 : Word).toNat := by decide

theorem meets_Send : (run 3).ready 3 {} (.send ⟨0, 4, true, 0, false, 0, false, 64, 0⟩) ∧
    inLarder (64 % 2 ^ 19) ((0 + 1) * 32) = true := by
  unfold State.ready; decide

/-- Core 3 runs with tile 0 holding sums, and with the given larder. -/
def tiled (l : Mem) : State := put ((run 3).fset .GLACIER_STATUS_STATE 1 3 0) 3 { larder := l }

theorem meets_DrainFull : (tiled []).ready 3 {} (.drainFull ⟨0, 0, 0, 0, 0, 0, 0⟩) ∧ (tiled []).tileState 3 0 = 1 ∧
    inLarder 0 65536 = true ∧ inLarder 0 16 = true := by
  unfold State.ready; decide

/-- A D stream in INT4 with one slot, and one in FP32. -/
def narrowD : Mem := [(28, 1)]
def wideD : Mem := [(22, 9)]

theorem meets_EdgeDrains :
    ((tiled narrowD).ready 3 {} (.drainNarrow ⟨0, 0, 0, 0, 0, 0⟩) ∧ (tiled narrowD).tileState 3 0 = 1 ∧ inLarder 0 32 = true ∧
      ∃ ch, movChain ((tiled narrowD).core 3).larder ⟨0, 0, 0, 0, 0, 0⟩ = some ch ∧ ch.d.kind = .larder ∧ ch.d.fmt ≤ 6 ∧
        chainFault ch true 0 0 0 = none) ∧
    ((tiled wideD).ready 3 {} (.drainWide ⟨0, 0, 0, 0, 0, 0⟩) ∧ (tiled wideD).tileState 3 0 = 1 ∧ inLarder 0 32 = true ∧
      ∃ ch, movChain ((tiled wideD).core 3).larder ⟨0, 0, 0, 0, 0, 0⟩ = some ch ∧ ch.d.kind = .larder ∧ ch.d.fmt = 9 ∧
        chainFault ch true 0 0 0 = none) := by
  unfold State.ready
  exact ⟨⟨by decide, by decide, by decide, _, rfl, by decide, by decide, by decide⟩,
    ⟨by decide, by decide, by decide, _, rfl, by decide, by decide, by decide⟩⟩

/-- A chain descriptor with one MOV stage: 64 elements from the kind `k`, D in INT4 at 1,024. -/
def movDesc (k : Byte) : Mem :=
  [(0, 64), (4, 1), (8, 1), (9, 64), (11, 4), (54, k * 16), (86, 0x50), (118, 0x50), (150, 0x50), (161, 4), (188, 1)]

theorem meets_VectorEntries :
    ((tiled (movDesc 1)).ready 3 {} (.drainVector ⟨0, 0, 0, 0, 0, 0⟩) ∧ (tiled (movDesc 1)).tileState 3 0 = 1 ∧
      ∃ ch, readChain ((tiled (movDesc 1)).core 3).larder 0 = some ch ∧
        inLarder 0 (descBytes ((tiled (movDesc 1)).core 3).larder 0) = true ∧ chainFault ch true 0 0 0 = none) ∧
    ((tiled (movDesc 0)).ready 3 {} (.vstream ⟨0, 0, 0, 0, 0, 0⟩) ∧
      ∃ ch, readChain ((tiled (movDesc 0)).core 3).larder 0 = some ch ∧
        inLarder 0 (descBytes ((tiled (movDesc 0)).core 3).larder 0) = true ∧ chainFault ch false 0 0 0 = none) := by
  unfold State.ready
  exact ⟨⟨by decide, by decide, _, rfl, by decide, by decide⟩, ⟨by decide, _, rfl, by decide⟩⟩

/-! ### Charge arrays -/

/-- An MVM of position 0 on bank 0: inputs at 128, input scales at 512. -/
def anMvm : MvmF := ⟨1, 0, 0, 128, 0, 512, 0, 0, true, 0, 0, 0, 0, 0, 0⟩

theorem meets_ArrayEntries :
    ((run 3).ready 3 {} (.arrayMvm anMvm) ∧ anMvm.fmt ≤ 1 ∧ anMvm.inbase % 128 = 0 ∧ anMvm.scbase % 8 = 0 ∧
      (∀ p ∈ positions anMvm.posmask, inLarder (anMvm.inbase + 512 * anMvm.rpt + 128 * bits anMvm.insel (2 * p) 2) 128 = true ∧
        inLarder (anMvm.scbase + 32 * anMvm.rpt + 8 * bits anMvm.insel (2 * p) 2) 8 = true) ∧
      (run 3).accumConflict 3 0 true ((run 3).fgetS .ANCHOR_VALUE 3 0) 0 = none) ∧
    ((run 3).ready 3 {} (.arrayWriteFull ⟨1, 0, ⟨0, 34816⟩, 9⟩) ∧
      (∀ p ∈ positions 1, imageBad ((run 3).effAddr ⟨0, 34816⟩ + 34816 * p) = false ∧
        mappedRange ((run 3).effAddr ⟨0, 34816⟩ + 34816 * p) 34816 = true)) ∧
    ((run 3).ready 3 {} (.arrayWriteDelta ⟨1, 0, ⟨0, 34816⟩, ⟨0, 69632⟩, 9⟩) ∧
      (∀ p ∈ positions 1,
        imageBad ((run 3).effAddr ⟨0, 34816⟩ + 34816 * p) = false ∧ mappedRange ((run 3).effAddr ⟨0, 34816⟩ + 34816 * p) 34816 = true ∧
        imageBad ((run 3).effAddr ⟨0, 69632⟩ + 34816 * p) = false ∧ mappedRange ((run 3).effAddr ⟨0, 69632⟩ + 34816 * p) 34816 = true)) := by
  have e : positions 1 = [0] := by decide
  have a : (run 3).effAddr ⟨0, 34816⟩ + 34816 * 0 = 34816 := by decide
  have b : (run 3).effAddr ⟨0, 69632⟩ + 34816 * 0 = 69632 := by decide
  have i : imageBad 34816 = false := by decide
  have j : imageBad 69632 = false := by decide
  simp only [e, List.mem_singleton, forall_eq, a, b, i, j, mappedRange_low 34816 34816 (by decide),
    mappedRange_low 69632 34816 (by decide)]
  unfold State.ready
  decide

/-- Array 1 of core 3 as given. -/
def arrayOf (x : Arr) : State := put (run 3) 3 { arrays := [(1, x)] }

theorem meets_BankWrites :
    (((arrayOf { waiting := [{ img := 34816, tag := 9 }] }).array 3 1).cols = [] ∧
      ((arrayOf { waiting := [{ img := 34816, tag := 9 }] }).pos 3 1).convs = [] ∧
      (∀ n, n < 4 → (arrayOf { waiting := [{ img := 34816, tag := 9 }] }).fon .SPARE_COL_PENDING 3 1 n = false) ∧
      ((arrayOf { waiting := [{ img := 34816, tag := 9 }] }).array 3 1).job = none ∧
      ((arrayOf { waiting := [{ img := 34816, tag := 9 }] }).pos 3 1).reqs = []) ∧
    ((arrayOf { job := some { img := 34816, tag := 9 } }).crosses (.rowWrite 3 1 3 [8]) = true ∧
      ((arrayOf { job := some { img := 34816, tag := 9 } }).array 3 1).cols = [] ∧
      (∀ n, n < 4 → (arrayOf { job := some { img := 34816, tag := 9 } }).fon .SPARE_COL_PENDING 3 1 n = false)) ∧
    (((arrayOf { job := some { img := 34816, tag := 9, row := 256 } }).fset .ARRAY_STATUS_STATE 1 3 1).bankState 3 1 = 1 ∧
      (((arrayOf { job := some { img := 34816, tag := 9, row := 256 } }).fset .ARRAY_STATUS_STATE 1 3 1).array 3 1).missLog = [] ∧
      (∀ p, p < 4 → (((arrayOf { job := some { img := 34816, tag := 9, row := 256 } }).fset .ARRAY_STATUS_STATE 1 3 1).pos 3 p).reqs = [])) ∧
    State.reset.flows (arrayClk 3) = true ∧ 7 ∉ [8] := by
  decide

/-- Position 0 of core 3 as given, with bank 0 READY and bank 1 ACTIVE, and with one input that is not zero. -/
def posOf (p : Pos) (k : Core := {}) : State :=
  put (((run 3).fset .ARRAY_STATUS_STATE 2 3 0).fset .ARRAY_STATUS_STATE 3 3 4 |>.fset .ARRAY_CTRL_REFRESH_EN 0 3) 3
    { k with poss := [(0, p)], larder := [(128, 1)] }

/-- A slot request of `anMvm`. -/
def aReq : SlotReq := ⟨0, anMvm, 0, 0⟩

theorem meets_SlotGrant :
    ((posOf { reqs := [aReq] }).pos 3 0).reqs = [aReq] ∧ (∀ q, q < 4 → ((posOf { reqs := [aReq] }).pos 3 q).holds = []) ∧
    ((posOf { reqs := [aReq] }).pos 3 0).cal = none ∧ ((posOf { reqs := [aReq] }).core 3).watch = [] ∧
    (posOf { reqs := [aReq] }).fon .ARRAY_CTRL_REFRESH_EN 3 = false ∧ (posOf { reqs := [aReq] }).crosses (.slotGrant 3 0 []) = true ∧
    (posOf { reqs := [aReq] }).halted 3 = false ∧ (posOf { reqs := [aReq] }).plan.refMode = false ∧
    (posOf { reqs := [aReq] }).bankState 3 0 = 2 ∧ (posOf { reqs := [aReq] }).bankState 3 4 = 3 ∧
    (posOf { reqs := [aReq] }).writeBefore 3 0 0 = false ∧ ((posOf { reqs := [aReq] }).array 3 0).job = none ∧
    (posOf { reqs := [aReq] }).fget .ARRAY_STATUS_LAYER_TAG 3 0 = 0 ∧
    (List.range 8).all (groupZero (mvmFmt 0) ((posOf { reqs := [aReq] }).slotInputs 3 0 aReq).1) = false ∧
    slotLow (mvmFmt 0) 0 ((posOf { reqs := [aReq] }).slotInputs 3 0 aReq).2
      ((posOf { reqs := [aReq] }).array 3 0).scales = false := by
  decide +kernel

/-- A hold set of `aReq`, with codes and without. -/
def aHold (cs : Option (List SegCode)) : Hold := { req := some aReq, codes := cs }

/-- One code of group 0, column 0. -/
def aCode : SegCode := ⟨0, 0, 130, false, false⟩

/-- A fix-up and a watch sample of core 3. -/
def aFix : Fixup := ⟨0, 0, 0, [1], 0, 127, 127, 34816, 0, 0, 0, 0, 0, false⟩
def aSample (cs : List SegCode) : WatchSample := ⟨1, [1], [127], 0, 0, 34816, cs⟩

theorem meets_Slots :
    ((posOf { holds := [aHold none] }).pos 3 0).holds = [aHold none] ∧ (aHold none).req = some aReq ∧
      (aHold none).codes = none ∧ (aHold none).sampled = false ∧
      (posOf { holds := [aHold none] }).crosses (.readoutConversion 3 0 []) = true ∧
      (posOf { holds := [aHold none] }).flows (dieClk 3) = true ∧
    ((posOf { holds := [aHold (some [aCode])] }).pos 3 0).holds = [aHold (some [aCode])] ∧
      (∀ g ∈ [aCode], (aHold (some [aCode])).scales.getD g.q 0 ≠ 255 ∧ (aHold (some [aCode])).wsc.read (256 * g.q + g.col) ≠ 255) ∧
      ((posOf { holds := [aHold (some [aCode])] }).core 3).fixups.length + [aCode].length ≤ 1024 ∧
    ((posOf {} { fixups := [aFix] }).core 3).fixups = [aFix] ∧ aFix.miss = false ∧ (posOf {}).memBad = [] ∧
    ((posOf {} { watch := [aSample []] }).core 3).watch = [aSample []] ∧ (posOf {} { watch := [aSample []] }).calm 3 ∧
      ((posOf {} { watch := [aSample []] }).core 3).hold = none := by
  unfold State.calm; decide

/-- A code far from a product of 0. -/
def badCode : SegCode := ⟨0, 0, 255, false, false⟩

theorem meets_WatchMismatch :
    ((posOf {} { watch := [aSample [badCode]] }).core 3).watch = [aSample [badCode]] ∧
    (posOf {} { watch := [aSample [badCode]] }).calm 3 ∧ ((posOf {} { watch := [aSample [badCode]] }).core 3).hold = none ∧
    (posOf {} { watch := [aSample [badCode]] }).crosses (.watchRecompute 3) = true ∧ (posOf {} { watch := [aSample [badCode]] }).memBad = [] ∧
    ((posOf {} { watch := [aSample [badCode]] }).core 3).watchFound = false ∧
    (∃ g ∈ [badCode], g.fix = false ∧
      4 * (codeDist (mvmFmt 0) 0 g.code ((posOf {} { watch := [aSample [badCode]] }).segProduct 34816 (mvmFmt 0) [1] g.q g.col)).2 <
        (codeDist (mvmFmt 0) 0 g.code ((posOf {} { watch := [aSample [badCode]] }).segProduct 34816 (mvmFmt 0) [1] g.q g.col)).1) := by
  unfold State.calm; decide

theorem meets_Calibration :
    ((run 3).pos 3 0).cal = none ∧ (run 3).fon .ARRAY_CTRL_CAL_EN 3 = true ∧ ((posOf { cal := some {} }).pos 3 0).cal.isSome = true ∧
    State.reset.flows (arrayClk 3) = true ∧ (posOf {}).scans 3 0 = false ∧ (posOf {}).bankState 3 0 = 2 := by decide

/-- Array 1 of core 3, READY, in the given creep state. -/
def creeping (x : Arr) : State := (arrayOf x).fset .ARRAY_STATUS_STATE 2 3 1

theorem meets_Creep :
    (creeping { scanning := true }).scans 3 1 = true ∧ (creeping { scanning := true }).bankState 3 1 = 2 ∧
    (creeping { scanning := true }).fon .ARRAY_CTRL_REFRESH_EN 3 = true ∧
    ((creeping { scanning := true }).array 3 1).scanRow ∉ ((creeping { scanning := true }).array 3 1).urgent ∧
    ((creeping { scanning := true }).array 3 1).urgent.length < 16 ∧ (creeping { scanning := true }).memBad = [] ∧
    (∀ col, col < 264 → (creeping { scanning := true }).deviation 3 1 ((creeping { scanning := true }).array 3 1).scanRow [] col = 0) ∧
    (creeping { scanning := true }).creepThr.2.1 < Int.natAbs (-60) ∧
    Int.natAbs (-60) ≤ (creeping { scanning := true }).creepThr.2.2 ∧
    ((creeping { urgent := [7, 8] }).array 3 1).urgent = [7, 8] ∧ 7 ∉ [8] ∧ (creeping { urgent := [7, 8] }).bankState 3 1 = 2 ∧
    ((creeping { urgent := [7, 8] }).array 3 1).job = none ∧ (creeping {}).fget .RETENTION_DRIFT 3 1 < 256 := by
  decide +kernel

theorem meets_TrimBoundaries : State.reset.job.current = none ∧
    (∀ c p, p < 4 → State.reset.fon .CONV_SPARE_PENDING c p = false) ∧ (∀ c p, p < 4 → (State.reset.pos c p).biasDue = false) := by
  refine ⟨rfl, fun c p h => ?_, fun c p h => rfl⟩
  have r : ∀ o, State.reset.rword .array c o = resetWord .array o := fun _ => rfl
  have e : Fld.CONV_SPARE_PENDING.sec = .array := rfl
  unfold State.fon State.fget
  rw [e, r]
  have : p = 0 ∨ p = 1 ∨ p = 2 ∨ p = 3 := by omega
  rcases this with rfl | rfl | rfl | rfl <;> decide

/-! ### The exchange and the update engines -/

/-- An attempt runs. -/
def attempt : State := State.reset.fset .RECOVERY_STATUS_STATE 1

/-- A loaded reduction plan of one bucket of one block, in a group of two on a ring with this module first. -/
def exchanging : State :=
  { attempt.fset .EXCH_STATUS_PHASE 3 with
    exch := { loaded := true, groups := [⟨2, 1, 0⟩], buckets := [⟨0, 0, 0, 1, 0⟩], blocks := 1, readyCount := 1, ready := [0],
              bucks := [(0, { own := [(1, [{ ints := [5] }])] })] }
    rings := { loaded := true, rings := [⟨[7, 8], 0⟩] } }

/-- A reduce message of its crossing. -/
def aBucket : BucketMsg := ⟨0, false, false, false, 0, 0, 0, 1, 0, 1, 0, 0, [[3]], [255], [false], true⟩

theorem meets_Exchange :
    (exchanging.crosses (.exchangeStart true) = true ∧ exchanging.flows hubClk = true ∧ exchanging.crosses .exchangeTimeout = true ∧
      exchanging.job.exchTimedOut = false ∧ ({ aBucket with checkOk := false }).checkOk = false ∧
      ({ aBucket with checkOk := false }).attempt = exchanging.job.attempt) ∧
    (exchanging.exch.loaded = true ∧ exchanging.exch.started = false ∧ exchanging.exch.stopped = false ∧
      exchanging.running = true ∧ exchanging.exch.readyCount ≤ exchanging.exch.ready.length) ∧
    (aBucket.checkOk = true ∧ aBucket.attempt = exchanging.job.attempt ∧ exchanging.fget .EXCH_STATUS_PHASE ≠ 4 ∧
      exchanging.findBucket aBucket = some 0 ∧ aBucket.originPos = (exchanging.bucketRec 0).origin ∧
      ((exchanging.buck 0).own.find? 1).isSome = true ∧ aBucket.blockCount = (exchanging.places 0 1 false).length ∧
      aBucket.hops + 1 < (exchanging.ringOf 0).members.length) ∧
    ({ exchanging with exch := { exchanging.exch with started := true } }.exch.started = true ∧ exchanging.tokenTimeout ≠ 0) ∧
    (State.reset.running = false ∧ laterKey (0, 0) State.reset.curKey = false ∧ laterKey (1, 0) State.reset.curKey = true) := by
  decide

theorem meets_ExchangeSums :
    (([({} : XBlk)] : List XBlk)[0]? = some ({} : XBlk) ∧ 1 ≤ (⟨2, 1, 0⟩ : RGroup).members ∧ (⟨2, 1, 0⟩ : RGroup).members ≤ 16384) := by decide

/-- A tensor of one block in group 0, and a block of it. -/
def aTensor : Tensor := ⟨1, 0, 0, 32, 4096, 8192, 12288, 16384, 20480, 1, 0⟩
def aBlock (skew : Bool) : UBlock := ⟨0, 0, 0, List.replicate 32 3, 127, 3, skew⟩

/-- An engine holds the block; or the block is final and the engines are idle. -/
def engined : State :=
  { attempt with ledger := { loaded := true, tensors := [aTensor] }, upd := { engines := [(2, { blk := some (aBlock false) })] } }
def finals (skew : Bool) (mode : Nat) : State :=
  { attempt with ledger := { loaded := true, tensors := [aTensor] }, upd := { final := [aBlock skew] }
                 job := { controls := { updateMode := mode, groups := [[0, 0, 0x80, 0x3F, 0, 0, 0, 0, 0, 1, 0, 0, 0, 0, 0, 0]] } } }

theorem meets_UpdateInstructions :
    engined.flows (hubClk ++ phyClk) = true ∧ engined.flows hubClk = true ∧ (engined.eng 2).blk = some (aBlock false) ∧ engined.tensor 0 = some aTensor ∧ engined.memBad = [] ∧
    (aBlock false).scale ≠ 255 ∧ engined.job.controls.clipMode ≠ 1 ∧
    natOf (engined.load (engined.committed + aTensor.momentScaleAt 0 0) 1) ≠ 255 ∧
    anyNonFinite ((engined.eng 2).reg 0) = false := by decide

theorem meets_UpdateBlocks :
    ((finals false 0).flows (hubClk ++ phyClk) = true ∧ (finals false 0).running = true ∧ (finals false 0).engIdle 2 = true ∧ (finals false 0).upd.final = [aBlock false] ∧
      (finals false 0).tensor 0 = some aTensor ∧ (finals false 0).isHeld = false ∧ ((finals false 0).group 0).program ≠ 0) ∧
    ({ finals false 0 with job := { controls := { groups := [List.replicate 16 0] } } }.group 0).program = 0 ∧
    ((finals true 0).upd.final = [aBlock true] ∧ (finals true 0).isHeld = false) ∧
    ((finals false 1).upd.final = [aBlock false] ∧ (finals false 1).isHeld = true) := by decide

/-! ### The step -/

/-- A module with everything loaded and nothing running. -/
def ready : State :=
  { State.reset.fset .HOST_STATUS_READY 1 with
    plan := { loaded := true }, exch := { loaded := true }, ledger := { loaded := true }
    rings := { loaded := true, rings := [⟨[7], 0⟩] }
    dict := [(dkey 0x3300 1, 2 ^ 30), (dkey 0x3300 2, 2 ^ 31), (dkey 0x3300 3, 4096), (dkey 0x6000 1, 7), (dkey 0x6008 2, 2 ^ 26)]
    job := { doorbell := some 1 } }

theorem meets_Doorbells :
    (State.reset.crosses (.stepDoorbell 1) = true ∧ linkStream ∉ State.reset.host.insecure ∧ State.reset.host.d3 = false ∧ { State.reset with host := { State.reset.host with d3 := true } }.host.d3 = true ∧
      { attempt with job := { current := some 5 } }.job.current = some 5 ∧ 5 % 2 ^ 24 = dbTarget 5 ∧
      State.reset.job.current = none ∧ State.reset.job.doorbell = none ∧ State.reset.fget .RECOVERY_STATUS_STATE ≠ 3 ∧
      dbTarget 1 = (State.reset.job.stepCounter + 1) % 2 ^ 24 ∧ dbTarget 2 ≠ (State.reset.job.stepCounter + 1) % 2 ^ 24) ∧
    (ready.crosses .doorbellStart = true ∧ ready.job.doorbell = some 1 ∧ ready.doorbellWaits = false ∧ ready.doorbellFault 2 = some (1, [])) := by
  decide

theorem meets_DoorbellStart : ready.fget .RECOVERY_STATUS_STATE ≠ 2 ∧ ready.job.doorbell = some 1 ∧ ready.doorbellWaits = false ∧ ready.doorbellFault 1 = none ∧
    ready.ledger.firstDoorbell = false ∧ ready.exch.early = [] ∧ ready.fab.held = [] := by
  decide

/-- Every core of the plan stands at its commit point, and the exchange is over. -/
def atEnd : State := { (attempt.fset .COMMIT_STATUS_PHASE 1).fset .EXCH_STATUS_PHASE 4 with exch := { loaded := true } }

/-- A vote of the current attempt. -/
def aVote (pass : Bool) : VoteMsg := ⟨pass, false, 1, 0, 0, 0, 0⟩

theorem meets_CommitVotes :
    (atEnd.flows hubClk = true ∧ atEnd.running = true ∧ atEnd.fget .COMMIT_STATUS_PHASE = 1 ∧ atEnd.job.stopped = false ∧
      atEnd.planCores.all atEnd.atCommit = true ∧ atEnd.exchangeOver = true ∧ atEnd.updatesIdle = true) ∧
    (laterKey atEnd.curKey ((aVote true).step, (aVote true).attempt) = false ∧ atEnd.job.voteOwn = none ∧
      ((aVote true).step, (aVote true).attempt) = atEnd.curKey) ∧
    ({ atEnd with job := { voteSent := true } }.running = true ∧ { atEnd with job := { voteSent := true } }.job.voteSent = true ∧
      { atEnd with job := { voteSent := true } }.tokenTimeout ≠ 0 ∧
      ((aVote true).step, (aVote true).attempt) = { atEnd with job := { voteSent := true } }.curKey) ∧
    ({ atEnd with job := { stopped := true } }.running = true ∧ { atEnd with job := { stopped := true } }.job.stopped = true ∧
      { atEnd with job := { stopped := true } }.job.voteOwn = none ∧
      { atEnd with job := { stopped := true } }.tokenTimeout ≠ 0) := by
  decide

theorem meets_NormVotes :
    ({ attempt with exch := { blocks := 1 } }.flows hubClk = true ∧ { attempt with exch := { blocks := 1 } }.running = true ∧
      laterKey { attempt with exch := { blocks := 1 } }.curKey ((aVote true).step, (aVote true).attempt) = false ∧
      { attempt with exch := { blocks := 1 } }.upd.held < 1) ∧
    ({ attempt with upd := { normSent := true } }.running = true ∧ { attempt with upd := { normSent := true } }.upd.normSent = true ∧
      (0, 0) = { attempt with upd := { normSent := true } }.curKey ∧
      { attempt with upd := { normSent := true } }.job.clipKnown = false ∧
      { attempt with upd := { normSent := true } }.job.normLost = false ∧
      { attempt with upd := { normSent := true } }.job.controls.clipMode ≠ 2 ∧
      { attempt with upd := { normSent := true } }.tokenTimeout ≠ 0) := by
  decide

/-- The firmware serves in VOTE_LOST. -/
def voteLost : State := (State.reset.fset .RECOVERY_STATUS_STATE 3).fset .WIN_STATUS_AVAILABLE 1

theorem meets_VoteResolve : voteLost.pathMay .window (.voteResolveCommit .window) ∧
    voteLost.pathMay .window (.voteResolveRefuse .window) ∧ voteLost.fget .RECOVERY_STATUS_STATE = 3 ∧ voteLost.pendingDict = [] ∧
    voteLost.memBad = [] ∧ voteLost.ledger.page ≤ 1 := by
  unfold State.pathMay; decide

theorem meets_StepEnds :
    ((attempt.fset .COMMIT_STATUS_PHASE 5).fget .RECOVERY_STATUS_STATE = 1 ∧ (attempt.fset .COMMIT_STATUS_PHASE 5).fget .COMMIT_STATUS_PHASE = 5 ∧
      (attempt.fset .COMMIT_STATUS_PHASE 5).job.epilogue = [] ∧ (attempt.fset .COMMIT_STATUS_PHASE 5).phys.retiring = []) ∧
    ({ attempt.fset .COMMIT_STATUS_PHASE 6 with job := { toHold := true } }.fget .COMMIT_STATUS_PHASE = 6 ∧
      { attempt.fset .COMMIT_STATUS_PHASE 6 with job := { toHold := true } }.phys.pendingCores = [] ∧
      { attempt.fset .COMMIT_STATUS_PHASE 6 with job := { toHold := true } }.phys.pendingEngines = [] ∧
      { attempt.fset .COMMIT_STATUS_PHASE 6 with job := { toHold := true } }.pendingDict = [] ∧
      { attempt.fset .COMMIT_STATUS_PHASE 6 with job := { toHold := true } }.loadPending = false) ∧
    ({ attempt.fset .COMMIT_STATUS_PHASE 6 with phys := { retiring := [4] } }.phys.retiring ≠ [] ∧
      { attempt.fset .COMMIT_STATUS_PHASE 6 with phys := { retiring := [4] } }.rewriting = false) ∧
    ((attempt.fset .WIN_STATUS_AVAILABLE 1).pathMay .window (.holdRequest .window 1) ∧ attempt.crosses .phase7End = true ∧
      attempt.crosses .retirementWritesEnd = true ∧ (attempt.fset .WIN_STATUS_AVAILABLE 1).fget .COMMIT_STATUS_PHASE < 4 ∧
      (attempt.fset .WIN_STATUS_AVAILABLE 1).fget .RECOVERY_STATUS_STATE = 1) := by
  unfold State.pathMay; decide

/-! ### Loads and travellers -/

/-- The firmware serves, outside a step and in one. -/
def serving : State := State.reset.fset .WIN_STATUS_AVAILABLE 1
def servingStep : State := attempt.fset .WIN_STATUS_AVAILABLE 1

theorem meets_LedgerLoads :
    ((∀ i ∈ [Instr.ledgerLoadAsIs .window, .ledgerLoadRebuildCells .window, .ledgerLoadFresh .window],
        serving.pathMay .window i ∧ servingStep.pathMay .window i) ∧
      serving.inStep = false ∧ servingStep.inStep = true ∧ serving.crosses .ledgerLoadComplete = true) ∧
    ({ State.reset with ledger := { loading := some (1, 0, 2 ^ 26, 2 ^ 27) } }.ledger.loading = some (1, 0, 2 ^ 26, 2 ^ 27) ∧
      { State.reset with ledger := { loading := some (1, 0, 2 ^ 26, 2 ^ 27) } }.inStep = false ∧
      { State.reset with ledger := { loading := some (1, 0, 2 ^ 26, 2 ^ 27) } }.job.epilogue = [] ∧
      { State.reset with ledger := { loading := some (1, 0, 2 ^ 26, 2 ^ 27) } }.plan.loaded = false) := by
  unfold State.pathMay; decide

theorem meets_PlanAndTableLoads :
    (∀ i ∈ [Instr.timetableLoad .window, .reductionLoad .window, .ringLoad .window, .itineraryLoad .window,
        .scaleHistoryReset .window, .exchangeHistoryReset .window], serving.pathMay .window i ∧ servingStep.pathMay .window i) ∧
    serving.exch.latched = false ∧
    ({ serving with plan := { loading := true } }.plan.loading = true ∧ { serving with plan := { loading := true } }.inStep = false ∧
      { serving with plan := { loading := true } }.job.epilogue = [] ∧
      { serving with plan := { loading := true } }.crosses .timetableLoadComplete = true) := by
  unfold State.pathMay; decide

theorem natOf_zeros (n : Nat) : natOf (List.replicate n (0 : Byte)) = 0 := by
  induction n with
  | zero => rfl
  | succ n h => rw [List.replicate_succ]; unfold natOf; rw [h]; rfl

/-- An all-zero routing table is accepted by a module without an address. -/
theorem meets_RoutingTableWrite :
    (List.replicate 65536 (0 : Byte)).length = 65536 ∧ serving.inStep = false ∧
    serving.pathMay .window (.routingTableWrite .window (List.replicate 65536 0)) ∧
    routingBad serving.address (List.replicate 65536 0) = false := by
  refine ⟨List.length_replicate, by decide, ⟨?_, by decide, by decide⟩, ?_⟩
  · show serving.flows hostClk = true
    decide
  have z : ∀ a n, fieldAt (List.replicate 65536 (0 : Byte)) a n = 0 := fun a n => by
    unfold fieldAt; rw [List.drop_replicate, List.take_replicate, natOf_zeros]
  have e : serving.address = 65535 := by decide
  unfold routingBad
  rw [List.any_eq_false]
  intro x hx
  have : x < 16384 := by
    rw [List.mem_range, List.length_replicate] at hx; exact hx
  simp only [z, e]
  have hne : x ≠ 65535 := by omega
  simp [hne, bits]

/-- Core 3 with a header whose return area holds 16 rows of 32 bytes. -/
def router (final : Bool) : State :=
  { put (run 3) 3 { hdr := some ⟨0, 1, 0, 0, 0, 0, 0, 5, 0, 0, 512, 65536, []⟩ } with trav := [(2, { isFinal := final })] }

/-- A ROUTE of one token with one choice to layer 2. -/
def aRoute : RouteF := ⟨0, 64, 0, 0, 0, 2, true, 0, 0⟩

theorem meets_Route :
    ((router false).ready 3 {} (.route aRoute) ∧
      ((router false).core 3).hdr = some ⟨0, 1, 0, 0, 0, 0, 0, 5, 0, 0, 512, 65536, []⟩ ∧ (5 : Nat) ≠ 255 ∧
      aRoute.retrow + (aRoute.k + 1) * (aRoute.ntok + 1) ≤ 65536 ∧
      (aRoute.retrow + (aRoute.k + 1) * (aRoute.ntok + 1)) * (32 * (aRoute.roww + 1)) ≤ 512 ∧
      aRoute.rows % 32 = 0 ∧ inLarder aRoute.choices (32 * (aRoute.ntok + 1)) = true ∧
      inLarder aRoute.rows (32 * (aRoute.roww + 1) * (aRoute.ntok + 1)) = true ∧ (router false).routeReady 2 = true) ∧
    ((router true).ready 3 {} (.route aRoute) ∧ (router true).routeReady 2 = false) := by
  unfold State.ready; decide

/-- A traveller, accepted by expert 0 of layer 0, whose inn is core 3. -/
def aTraveller : Traveller := ⟨7, 1, 0, 0, 0, 0, 0, 0, [0], List.replicate 32 1⟩
def inn : State :=
  { run 3 with
    dict := [(dkey 0x6000 1, 7)]
    itin := { loaded := true, layers := [⟨[⟨7, 4, [3]⟩], 1, [7]⟩] }
    trav := [(0, { accepted := [{ t := aTraveller, expert := 0, live := some aTraveller }] })] }

theorem meets_Return : mappedRange (inn.effAddr ⟨0, 4096⟩) (32 * (0 + 1)) = true ∧
    (∀ b, inn.ready 3 {} (.ret ⟨⟨0, 4096⟩, 0, 0, 0, b, 0⟩)) ∧ inn.memBad = [] ∧ inn.innOf 0 3 = some (0, 0) ∧
    ((inn.tlayer 0).accepted.find? fun (a : Accepted) => a.expert = 0 ∧ a.copy = 0 ∧ a.slot = 0 ∧ a.live.isSome) =
      some { t := aTraveller, expert := 0, live := some aTraveller } := by
  refine ⟨mappedRange_low _ _ (by decide), ?_⟩
  unfold State.ready; decide

/-- Caravans of the attempt (0, 0), of a later and of an earlier one. -/
theorem meets_Caravans :
    attempt.flows (hubClk ++ phyClk) = true ∧
    ((0, 0) = attempt.curKey ∧ attempt.running = true) ∧ ((1, 0) ≠ attempt.curKey ∧ laterKey (1, 0) attempt.curKey = true) ∧
    ((0, 0) ≠ { attempt with job := { curStep := 5 } }.curKey ∧ laterKey (0, 0) { attempt with job := { curStep := 5 } }.curKey = false) := by
  decide

theorem meets_Acceptance : (inn.ilayer 0).experts[0]? = some ⟨7, 4, [3]⟩ ∧ (⟨7, 4, [3]⟩ : Expert).owner = inn.address := by decide

/-! ### The fabric -/

/-- Lane 2 in a state, with the fabric reference present. -/
def laned (st : Nat) (x : Lane := {}) : State :=
  { (State.reset.fset .CLK_STATUS_FABRIC_REF 1).fset .PORT_STATUS_STATE st 0 2 with fab := { lanes := [(2, x)] } }

theorem meets_Lanes2 :
    ((laned 0).laneState 2 = 0 ∧ (laned 0).fon .CLK_STATUS_FABRIC_REF = true ∧ bit ((laned 0).dval 0x6001 2 0x0FFF) 2 = true) ∧
    ((laned 1).laneState 2 = 1 ∧ (laned 1).fon .PORT_STATUS_BONDED 0 2 = false ∧ ((laned 1).lane 2).fails < 2) ∧
    ((laned 1 { fails := 2 }).laneState 2 = 1 ∧ 2 ≤ ((laned 1 { fails := 2 }).lane 2).fails) ∧
    ((laned 2).laneState 2 = 2 ∧ ((laned 2).lane 2).started = false ∧ ((laned 2).lane 2).unc < 16) ∧
    (((laned 2).fset .PORT_STATUS_BONDED 1 0 2).fset .PORT_STATUS_STATE 2 0 3).fon .PORT_STATUS_BONDED 0 2 = true ∧
    (((laned 2).fset .PORT_STATUS_BONDED 1 0 2).fset .PORT_STATUS_STATE 2 0 3).laneState 2 = 2 ∧
    (((laned 2).fset .PORT_STATUS_BONDED 1 0 2).fset .PORT_STATUS_STATE 2 0 3).laneState 3 = 2 := by
  decide

/-- Lane 2 of a bonded pair ends its training after lane 3; lane 10 idle, and standing in for port 2. -/
def paired2 (m : Neighbour) : State :=
  { ((((laned 1).fset .PORT_STATUS_BONDED 1 0 2).fset .PORT_STATUS_BONDED 1 0 3).fset .PORT_STATUS_STATE 1 0 3) with
    fab := { lanes := [(3, { far := some m, ready := true })] } }
def spare10 (p : Nat) : State := ((laned 0).fset .PORT_STATUS_STATE 1 0 10).fset .PORT_STATUS_STANDS_FOR p 0 10

/-- 552 symbols of zeros are a codeword, and one symbol is none. -/
def zeroWord : Codeword := ⟨List.replicate 552 0⟩

theorem meets_LaneEnds :
    (laned 0).flows hubClk = true ∧
    ((paired2 ⟨5, 9, 3, true, none⟩).laneState 2 = 1 ∧ (paired2 ⟨5, 9, 3, true, none⟩).fon .PORT_STATUS_BONDED 0 2 = true ∧
      ((paired2 ⟨5, 9, 3, true, none⟩).lane 3).far = some ⟨5, 9, 3, true, none⟩ ∧ ((paired2 ⟨5, 9, 3, true, none⟩).lane 3).ready = true ∧
      (paired2 ⟨5, 9, 3, true, none⟩).laneState 3 = 1 ∧ sameBond ⟨5, 9, 2, true, none⟩ ⟨5, 9, 3, true, none⟩ = true ∧
      sameBond ⟨5, 9, 2, true, none⟩ ⟨6, 9, 3, true, none⟩ = false ∧ ((laned 1).lane 3).ready = false) ∧
    ((spare10 15).laneState 10 = 1 ∧ (spare10 15).fget .PORT_STATUS_STANDS_FOR 0 10 = 15 ∧
      (spare10 2).laneState 10 = 1 ∧ (spare10 2).fget .PORT_STATUS_STANDS_FOR 0 10 < 10) ∧
    rsDecode (⟨[0]⟩ : Codeword).symbols = none := by
  decide

theorem meets_Codeword : (rsDecode zeroWord.symbols).elim false (fun x => x.2 = 0 && (lineDecode x.1 0).words.all (·.1 = 0)) = true := by
  decide +kernel

/-- A frame of class BUCKET, and lane 2 UP with a link credit for it. -/
def aFrame (dest : Nat) : Frame := { dest := dest, src := 9, cls := 7, payload := List.replicate 32 0, context := 0 }
def up : State :=
  { laned 2 { credits := [(7, 1)] } with
    dict := [(dkey 0x6000 1, 7)], doms := [(dkey 0x6004 1, [0, 0, 0, 0, 0, 0, 4, 0])] }

theorem meets_FrameTransmit :
    up.flows hubClk = true ∧ (up.netOut = [] ∧ up.fab.tx = [] ∧ up.fab.transit = []) ∧
    { up with fab := { up.fab with transit := [⟨0, 2, aFrame 1⟩] } }.netOut = [] ∧
    { up with fab := { up.fab with transit := [⟨0, 2, aFrame 1⟩] } }.fab.tx = [] ∧
    { up with fab := { up.fab with transit := [⟨0, 2, aFrame 1⟩] } }.portUp 2 = true ∧
    { up with fab := { up.fab with transit := [⟨0, 2, aFrame 1⟩] } }.linkCredit 2 7 = true := by decide

theorem meets_FrameForward :
    up.laneUp 2 = true ∧ up.address ≠ 0xFFFF ∧
    (up.isMine (aFrame 20000) = false ∧ up.routeTo 20000 = none ∧ 2 ≤ (aFrame 20000).hopLimit) ∧
    (up.isMine (aFrame 1) = false ∧ up.routeTo 1 = some 2) ∧ { aFrame 1 with hopLimit := 1 }.hopLimit < 2 ∧
    (up.isMine { aFrame 1 with sroute := true, cls := 1, payload := [1, 0, 2] } = false ∧
      up.laneUp (fieldAt (markReply 2 [1, 0, 2]) (2 + fieldAt (markReply 2 [1, 0, 2]) 1 1) 1) = true) := by decide

/-- A connection with module 9 as context 0. -/
def connected (c : Ctx) : State := { up with fab := { up.fab with ctxs := [(0, c)] } }

theorem meets_FrameReceive :
    (up.laneUp 2 = true ∧ up.isMine (aFrame 7) = true ∧ up.frameGood { aFrame 7 with checkOk := false } = false ∧
      up.fab.ctxs.find? 0 = none) ∧
    ((connected { peer := 9 }).isMine (aFrame 7) = true ∧ (connected { peer := 9 }).frameGood (aFrame 7) = true ∧
      (connected { peer := 9 }).fab.ctxs.find? 0 = some { peer := 9 } ∧
      behind ((({ peer := 9 } : Ctx).seqRx).get 7 0) (aFrame 7).msgSeq = false ∧
      (boundClass 7 && laterKey (connected { peer := 9 }).curKey ((connected { peer := 9 }).frameKey (aFrame 7))) = false ∧
      ((({ peer := 9 } : Ctx)).msg 7 0).skip = false ∧ ((({ peer := 9 } : Ctx)).msg 7 0).parts.find? 0 = none ∧ (aFrame 7).cls ≠ 0 ∧ connClass 7 = true ∧ ¬ 7 < 6) := by decide

/-- A complete message of class 4, and one whose first frame is missing below a complete one. -/
def fullMsg (seq : Nat) : RxMsg := { cls := 4, seq := seq, parts := [(0, [1])], last := some 0 }

theorem meets_MessageDeliver :
    ((connected { peer := 9, rx := [fullMsg 0] }).fab.ctxs.find? 0 = some { peer := 9, rx := [fullMsg 0] } ∧
      (({ peer := 9, rx := [fullMsg 0] } : Ctx).msg 4 0).skip = false ∧
      (connected { peer := 9, rx := [fullMsg 0] }).mayDeliver 9 (({ peer := 9, rx := [fullMsg 0] } : Ctx).msg 4 0) = true) ∧
    ((connected { peer := 9, rx := [fullMsg 1] }).mayDeliver 9 (({ peer := 9, rx := [fullMsg 1] } : Ctx).msg 4 0) = false ∧
      (({ peer := 9, rx := [fullMsg 1] } : Ctx).msg 4 0).complete = false ∧ (fullMsg 1).complete = true ∧
      behind ((0 + 1) % 2 ^ 32) (fullMsg 1).seq = false ∧ boundClass 4 = false ∧ connClass 4 = true) := by decide

theorem meets_Connections :
    up.flows hubClk = true ∧ (up.ctxOf 9 = none ∧ up.freeCtx = some 0) ∧ up.fab.ctxs.find? 0 = none ∧
    ((connected { peer := 9 }).ctxOf 9 = some (0, { peer := 9 }) ∧ ({ peer := 9 } : Ctx).state = 1) ∧
    ((connected { peer := 9, granted := [(3, 4)] }).ctxOf 9 = some (0, { peer := 9, granted := [(3, 4)] })) ∧
    ((connected { peer := 9, state := 3 }).ctxOf 9 = some (0, { peer := 9, state := 3 })) ∧
    ((connected { peer := 9, state := 2 }).fab.ctxs.find? 0 = some { peer := 9, state := 2 } ∧
      (connected { peer := 9, state := 2 }).trafficTo 9 = false) ∧
    (({ peer := 9, freed := [(4, 2)] } : Ctx).freed.get 4 0 ≠ 0 ∧ ({ peer := 9 } : Ctx).freed.get 4 0 = 0 ∧
      ({ peer := 9, granted := [(3, 4)] } : Ctx).granted ≠ [] ∧ ({ peer := 9 } : Ctx).granted = []) := by decide

/-- All 4,096 contexts are in use. -/
theorem meets_NoFreeContext :
    { up with fab := { up.fab with ctxs := (List.range 4096).map fun n => (n, { peer := 10 }) } }.freeCtx = none ∧
    { up with fab := { up.fab with ctxs := (List.range 4096).map fun n => (n, { peer := 10 }) } }.ctxOf 9 = none := by
  constructor
  · simp [State.freeCtx]
  · simp [State.ctxOf]

/-- Ports 2 and the spare of connector FA end at one module. -/
def spared : State :=
  { serving with fab := { lanes := [(2, { far := some ⟨5, 9, 2, false, none⟩ }), (10, { far := some ⟨5, 9, 10, false, none⟩ })] } }

theorem meets_DiscoveryAndSpares :
    (up.laneUp 2 = true ∧ fieldAt [0x81] 0 1 = 0x81 ∧ up.crosses (.identify 2 []) = true ∧ up.crosses (.identifyReply 2 [0x81]) = true) ∧
    (serving.pathMay .window (.fabricAddressWrite .window 7) ∧ serving.inStep = false ∧
      servingStep.pathMay .window (.fabricAddressWrite .window 7) ∧ servingStep.inStep = true) ∧
    serving.pathMay .window (.fabricPortEnable .window 0xFFB) ∧ bit 0xFFB 2 = false ∧
    ((serving.fset .PORT_STATUS_STATE 6 0 2).laneState 2 = 6 ∧ serving.carrier 2 = 2 ∧ bit 0xFFF 2 = true) ∧
    (spared.pathMay .window (.spareRequestAssign .window 2 0) ∧ spared.pathMay .window (.spareRequestRelease .window 0) ∧
      serving.spareAllowed 2 0 = false ∧ spared.crosses .spareSubstitution = true ∧ spared.spareAllowed 2 0 = true ∧ spared.job.current = none ∧ spared.fab.spareReq = []) ∧
    ({ spared with job := { current := some 4 } }.job.current.isSome = true ∧ { spared with job := { current := some 4 } }.spareAllowed 2 0 = true) ∧
    ({ spared with fab := { spared.fab with spareReq := [(some 2, 0)] } }.fab.spareReq = [(some 2, 0)]) ∧
    (((serving.fset .PORT_STATUS_STANDS_FOR 2 0 10).fset .PORT_STATUS_STATE 6 0 2).fget .PORT_STATUS_STANDS_FOR 0 (10 + 0) = 2) := by
  unfold State.pathMay; decide

/-! ### Mailboxes, the host's apertures, DMA -/

/-- Fabric mailbox 5 enabled, bound to mailbox 3 of module 9. -/
def boxed (q : Fmb := {}) : State :=
  { ((State.reset.fset .FMB_CFG_ENABLE 1 0 5).fset .FMB_CFG_REMOTE_ADDR 9 0 5).fset .FMB_CFG_REMOTE_BOX 3 0 5 with fmbs := [(5, q)] }

theorem meets_FabricMailboxes :
    (boxed.fon .FMB_CFG_ENABLE 0 5 = true ∧ boxed.fon .FMB_TX_STATUS_BUSY 0 5 = false ∧ (boxed.fmb 5).tx.length < 16 ∧
      (boxed.fmb 5).rx.length + [(1 : Word)].length ≤ 16) ∧
    (boxed.fset .FMB_TX_STATUS_BUSY 1 0 5).fon .FMB_TX_STATUS_BUSY 0 5 = true ∧
    (boxed.fset .FMB_TX_STATUS_BUSY 1 0 5).fon .FMB_CFG_ENABLE 0 5 = true ∧ boxed.flows firmClk = true ∧ boxed.flows hubClk = true ∧
    1 ≠ (boxed.fmb 5).sent ∧ (boxed.fmb 5).rx = [] ∧ 8 ≠ boxed.fget .FMB_CFG_REMOTE_ADDR 0 5 ∧
    (((boxed { rx := [1, 2], owes := [(2, 4)] }).fmb 5).rx = [1, 2] ∧ ((boxed { rx := [1, 2], owes := [(2, 4)] }).fmb 5).owes = [(2, 4)] ∧
      ((boxed { rx := [1, 2], owes := [(2, 4)] }).fmb 5).inbox = []) ∧
    (((boxed { rx := [2], owes := [(1, 4)] }).fmb 5).rx = [2] ∧ ((boxed { rx := [2], owes := [(1, 4)] }).fmb 5).owes = [(1, 4)] ∧
      ((boxed { rx := [2], owes := [(1, 4)] }).fmb 5).inbox = []) := by decide

/-- Host mailbox 2 enabled on both sides, with the host side's words and the firmware side's. -/
def paired (h f : Fmb) (mode : Nat) : State :=
  { ((State.reset.mset false .MB_CFG_ENABLE 1 2).mset true .MB_CFG_ENABLE 1 2).mset false .MB_CFG_MODE mode 2 with
    mbs := [(mbKey false 2, h), (mbKey true 2, f)] }

theorem meets_HostMailboxes :
    ((paired {} {} 0).mbOn false 2 = true ∧ (paired {} {} 0).mget false .MB_TX_STATUS_BUSY 2 = 0 ∧
      ((paired {} {} 0).mb false 2).tx.length < 16 ∧ (paired {} {} 0).host.d3 = false ∧ (paired {} {} 0).barOpen ∧
      (paired {} {} 0).flows hostClk = true ∧ (paired {} {} 0).flows firmClk = true ∧ ((paired {} {} 0).mb false 2).rx = []) ∧
    ((paired { tx := [7] } {} 0).mbOn true 2 = true ∧ (paired { tx := [7] } {} 0).notice 2 = false ∧
      ((paired { tx := [7] } {} 0).mb false 2).tx = [7] ∧ ((paired { tx := [7] } {} 0).mb true 2).rx.length + [(7 : Word)].length ≤ 16) ∧
    (((paired { rx := [7, 8], owes := [(2, 4)] } {} 0).mb false 2).rx = [7, 8] ∧
      ((paired { rx := [7, 8], owes := [(2, 4)] } {} 0).mb false 2).owes = [(2, 4)] ∧
      ((paired { rx := [7, 8], owes := [(2, 4)] } {} 0).mb false 2).inbox = []) ∧
    (((paired { rx := [7], owes := [(1, 4)] } {} 0).mb false 2).owes = [(1, 4)] ∧
      ((paired { rx := [7], owes := [(1, 4)] } {} 0).mset true .MB_TX_STATUS_BUSY 1 2).notice 2 = false) ∧
    (((paired { rx := [7], owes := [(1, 4)] } {} 1).mset true .MB_TX_STATUS_BUSY 1 2).notice 2 = true ∧
      (((paired { rx := [7], owes := [(1, 4)] } {} 1).mset true .MB_TX_STATUS_BUSY 1 2).mb false 2).owes = [(1, 4)] ∧
      (((paired { rx := [7], owes := [(1, 4)] } {} 1).mset true .MB_TX_STATUS_BUSY 1 2).mb true 2).aborted = 0 ∧
      ((paired { rx := [7], owes := [(1, 4)] } {} 1).mset true .MB_TX_STATUS_BUSY 1 2).mget true .MB_TX_STATUS_BUSY 2 ≠ 0) := by
  unfold State.barOpen; decide

/-- Bytes below 96 GiB are mapped and the byte at 192 GiB is not, in either variant (R3). -/
theorem mapped_low (a : Nat) (h : a < 96 * 2 ^ 30) : mapped a = true := by
  have := mappedRange_low a 1 (by omega)
  simpa [mappedRange] using this
theorem mapped_high : mapped (192 * 2 ^ 30) = false := by
  unfold mapped quarterSize; split <;> decide

theorem meets_HostAccesses :
    (64 + 4 ≤ bar2Size ∧ State.reset.barOpen ∧ State.reset.flows (hostClk ++ phyClk) = true ∧
      State.reset.crosses (.bar2Read 64 4) = true ∧ State.reset.crosses (.bar2Write 64 [1, 2, 3, 4]) = true ∧ State.reset.memBad = [] ∧
      (∀ i, i < 4 → mapped (State.reset.aperture + 64 + i) = true ∧ State.reset.pageProtects (State.reset.aperture + 64 + i) = false ∧
        State.reset.slotProtects (State.reset.aperture + 64 + i) = false)) ∧
    (0 + 1 ≤ bar2Size ∧ (State.reset.fset .APERTURE_BASE_BASE_GIB 192).barOpen ∧
      (State.reset.fset .APERTURE_BASE_BASE_GIB 192).crosses (.bar2Read 0 1) = true ∧
      mapped ((State.reset.fset .APERTURE_BASE_BASE_GIB 192).aperture + 0 + 0) = false) ∧
    ({ State.reset with host := { d3 := true } }.host.d3 = true) ∧ linkStream ∈ { State.reset with host := { insecure := [linkStream] } }.host.insecure ∧
    State.reset.crosses (.bar0Unsupported 2 2 (some 0)) = true ∧ bar0Takes 2 2 true = false ∧ bar0Takes 0x4008 8 false = true := by
  have e : State.reset.aperture = 0 := by decide
  have f : (State.reset.fset .APERTURE_BASE_BASE_GIB 192).aperture + 0 + 0 = 192 * 2 ^ 30 := by decide
  refine ⟨⟨by decide, ⟨rfl, by decide⟩, by decide, by decide, by decide, rfl, fun i h => ⟨?_, ?_, ?_⟩⟩,
    ⟨by decide, ⟨rfl, by decide⟩, by decide, ?_⟩, rfl, by decide, by decide, by decide, by decide⟩
  · rw [e]; exact mapped_low _ (by omega)
  · rfl
  · rfl
  · rw [f]; exact mapped_high

/-- Channel 3 runs with the descriptor at ring place 0 ahead of it, or in flight. -/
def aDesc (toHost : Bool) (n : Nat) : DmaDesc := ⟨4096, 8192, n, toHost, false, false, false⟩
def dmaing (fl : List (Nat × DmaDesc)) : State :=
  { (State.reset.fset .DMA_CTRL_ENABLE 1 3).fset .DMA_TAIL_TAIL 1 3 with
    host := { linkUp := true, perst := false, dma := [(3, { flight := fl })] } }

theorem meets_Dma :
    ((dmaing []).hostUp = true ∧ (dmaing []).fon .DMA_CTRL_ENABLE 3 = true ∧ (dmaing []).fon .DMA_STATUS_HALTED 3 = false ∧
      (dmaing []).fget .DMA_HEAD_HEAD 3 % (dmaing []).ringSize 3 ≠ (dmaing []).fget .DMA_TAIL_TAIL 3 % (dmaing []).ringSize 3 ∧
      ((dmaing []).dmaCh 3).flight.length < 4 ∧ (aDesc true 8).fence = false ∧ (dmaing []).barOpen ∧
      (dmaing []).flows hostClk = true ∧ (dmaing []).flows (hostClk ++ phyClk) = true ∧
      readDesc ([0, 0x10, 0, 0, 0, 0, 0, 0, 0, 0x20, 0, 0, 0, 0, 0, 0, 8, 0, 0, 0, 1] ++ List.replicate 11 0) = aDesc true 8) ∧
    (((dmaing [(0, aDesc true 8)]).dmaCh 3).flight = [(0, aDesc true 8)] ∧ badDescriptor (aDesc true 8) = false ∧
      (∀ i, i < 8 → mapped ((aDesc true 8).moduleAddr + i) = true)) ∧
    (((dmaing [(0, aDesc false 8)]).dmaCh 3).flight = [(0, aDesc false 8)] ∧ badDescriptor (aDesc false 8) = false ∧
      (dmaing [(0, aDesc false 8)]).memBad = [] ∧ (List.replicate 8 (1 : Byte)).length = (aDesc false 8).length ∧
      (∀ i, i < 8 → (dmaing [(0, aDesc false 8)]).pageProtects ((aDesc false 8).moduleAddr + i) = false ∧
        (dmaing [(0, aDesc false 8)]).slotProtects ((aDesc false 8).moduleAddr + i) = false)) ∧
    (((dmaing [(0, aDesc false 6)]).dmaCh 3).flight = [(0, aDesc false 6)] ∧ badDescriptor (aDesc false 6) = true) := by
  refine ⟨by unfold State.barOpen; decide, ⟨rfl, by decide, fun i h => ?_⟩, by decide, by decide⟩
  exact mapped_low _ (by show 8192 + i < _; omega)

theorem meets_HostResets :
    State.reset.dval 0x1600 4 0 ≠ 1 ∧
    ((State.reset.setDval 0x1600 4 1).dval 0x1600 4 0 = 1 ∧ (State.reset.setDval 0x1600 4 1).fget .PWR_STATUS_STATE ≠ 0) ∧
    State.reset.host.d3 = false ∧ (dmaing []).host.linkUp = true ∧ State.reset.flows [25] = true ∧
    ((dmaing []).host.perst = false ∧ (dmaing []).fget .PWR_STATUS_STATE ≠ 0 ∧ (dmaing []).fget .PWR_STATUS_STATE ≠ 4 ∧
      (dmaing []).crosses (.linkUp 16 6 true) = true ∧ (dmaing []).crosses (.linkUp 8 5 false) = true) ∧
    (1 ∈ { State.reset with host := { ide := [1] } }.host.ide ∧
      ∀ ch, ch < 16 → ({ State.reset with host := { ide := [1] } }.dmaCh ch).flight = []) := by
  decide

/-! ### The dictionary and the management firmware -/

/-- A request of 4 bytes of the dictionary's entry. -/
def aRead (index sub : Nat) (data : List Byte) : DReq :=
  { path := .window, index := index, sub := sub, length := data.length, data := data }

theorem meets_Dictionary :
    (serving.serving = true ∧ (aRead 0x3100 1 [0, 0, 0, 0]).flagsBad = false ∧ (aRead 0x3100 1 [0, 0, 0, 0]).length ≤ pathMax .window) ∧
    (lookup 0x7FFF 1 matches .error _) ∧ (lookup 0x3100 99 matches .error _) ∧
    (lookup 0x3100 1 matches .ok _) ∧
    (∀ e, lookup 0x3100 1 = .ok e → e.acc ≠ .wo ∧ e.acc ≠ .ro ∧ serving.mayWrite .window e = true ∧ e.typ ≠ .domain ∧ e.typ ≠ .string) ∧
    (∀ e, lookup 0x1600 1 = .ok e → e.acc = .ro) ∧ (lookup 0x1600 1 matches .ok _) ∧
    (∀ e, lookup 0x3100 1 = .ok e → (serving.setDval 0x9004 1 0).mayWrite .window e = false) ∧
    (∀ e, lookup 0x6004 1 = .ok e → e.acc ≠ .ro ∧ e.typ = .domain ∧ serving.mayWrite .window e = true) ∧ (lookup 0x6004 1 matches .ok _) ∧
    serving.stageOf (aRead 0x6004 1 [0]) = none ∧ serving.mgmt.slots.length < 16 ∧
    (∀ i ∈ [Instr.dictRead (aRead 0x3100 1 [0]), .dictWrite (aRead 0x6004 1 [0]), .dictInfo (aRead 0x3100 1 [0]), .stagingSlotTimeout 0],
      serving.crosses i = true ∧ State.reset.crosses i = true) := by
  refine ⟨by decide, by decide, by decide, by decide, ?_, ?_, by decide, ?_, ?_, by decide, by decide, by decide, by decide⟩ <;>
    · intro e h; cases h; decide

/-- A staging slot of the window's holds one byte, and its last segment comes. -/
def staged : State := { serving with mgmt := { serving.mgmt with slots := [⟨pathNo .window, 0, 0x6004, 1, [1]⟩] } }
theorem meets_LastSegment :
    staged.stageOf { aRead 0x6004 1 [2] with offset := 1, last := true } = some 0 ∧
    staged.mgmt.slots[0]? = some ⟨pathNo .window, 0, 0x6004, 1, [1]⟩ ∧ (1 : Nat) = [(1 : Byte)].length ∧
    [(1 : Byte)].length + [(2 : Byte)].length ≤ 65536 := by decide

/-- The firmware is away, or only its clock has stopped. -/
def clockless : State := { serving with startup := { offPlls := [26] } }
theorem meets_NotServing :
    (State.reset.serving = false ∧ State.reset.fon .WIN_STATUS_AVAILABLE = false ∧ State.reset.fon .WIN_STATUS_BUSY = false ∧
      (State.reset.fset .WIN_STATUS_BUSY 1).fon .WIN_STATUS_BUSY = true) ∧
    (clockless.serving = false ∧ clockless.fon .WIN_STATUS_AVAILABLE = true ∧
      clockless.crosses (.dictRead { aRead 0x3100 1 [0] with path := .fabric 0 }) = true ∧ clockless.crosses .winGo = true) := by decide

/-- A READ stands in the window's request buffer. -/
def windowed : State := { serving with mgmt := { serving.mgmt with reqBuf := [(0, 1)] } }

theorem meets_WindowAndMctp :
    (∃ vendor, vendor = vendorId) ∧ windowed.mgmt.heldReq = none ∧ windowed.barOpen ∧ windowed.crosses .winGo = true ∧ State.reset.barOpen ∧
    24 ≤ (List.replicate 24 (0 : Byte)).length ∧
    (windowed.fset .WIN_STATUS_BUSY 1).fon .WIN_STATUS_BUSY = true ∧
    (windowed.fon .WIN_STATUS_BUSY = false ∧ windowed.serving = true ∧ fieldAt windowed.windowBytes 0 1 = 1) ∧
    (State.reset.fon .WIN_STATUS_BUSY = false ∧ State.reset.serving = false) ∧ State.reset.fget .PWR_STATUS_STATE ≠ 0 := by
  refine ⟨⟨_, rfl⟩, ?_⟩
  unfold State.barOpen
  decide

/-- An image of a key that is active, with the rollback counter at 0. -/
def anImage : Image :=
  { svn := 3, version := 1, bodyLength := 100, signer := 2, revokeMask := 1, headerOk := true, signatureOk := true, bodyDigestOk := true
    bytes := [] }
def secured (s : State) (a b : Option Image) : State :=
  { s with secure := { slots := [(0, a), (1, b)], image := a, counter := some 0, keys := [(2, 1)] } }

theorem meets_Management :
    ((∀ i ∈ [Instr.storeConfig .window, .restoreDefaults .window, .mgmtRestart .window, .marginReplanRequest .window],
        serving.pathMay .window i) ∧ serving.mgmt.storing = none ∧
      ∀ i ∈ [Instr.storeComplete true, .watchdogExpiry, .mgmtEccDouble, .firmwareFaultTrap, .mgmtResume, .marginReplanPeriod], serving.crosses i = true) ∧
    { serving with mgmt := { storing := some (1, 7) } }.mgmt.storing = some (1, 7) ∧
    (serving.mgmt.restarting = false ∧ serving.fon .WIN_STATUS_AVAILABLE = true ∧ serving.mgmt.restarts < 2) ∧
    ({ secured State.reset (some anImage) none with mgmt := { restarting := true } }.mgmt.restarting = true ∧
      { secured State.reset (some anImage) none with mgmt := { restarting := true } }.startup.recovery = false ∧
      ({ secured State.reset (some anImage) none with mgmt := { restarting := true } }.bootImage true).isSome = true) ∧
    ({ serving with startup := { state := 5 } }.startup.state = 5 ∧ serving.mgmt.replan = none) ∧
    ({ serving with mgmt := { replan := some 1 } }.mgmt.replan = some 1 ∧ { serving with mgmt := { replan := some 1 } }.mgmt.replanDue = false ∧
      { serving with mgmt := { replan := some 1 } }.serving = true ∧ { serving with mgmt := { replan := some 1 } }.flows [26] = true) := by
  unfold State.pathMay; decide

/-! ### Units, power, start-up and security -/

theorem meets_RegisterAccesses :
    State.reset.flows (secClk .vector 3) = true ∧ plainSec .vector = true ∧ 3 < instances .vector ∧ fieldApart .vector 0 .VSTAT_NV ∧ fieldApart .array 0x20 .ARRAY_CTRL_CAL_EN := by
  unfold fieldApart; decide

/-- Converter 1 in a state. -/
def conv (k : Hk) : State := { State.reset with hks := [(1, k)] }

theorem meets_Converters :
    ((conv { started := true, round := [64, 65] }).fon .HK_CTRL_ENABLE 1 = true ∧ ((conv { started := true, round := [64, 65] }).hkOf 1).burst = none ∧
      ((conv { started := true, round := [64, 65] }).hkOf 1).calibrating = false ∧
      ((conv { started := true, round := [64, 65] }).hkOf 1).round[0]? = some 64 ∧
      (conv { started := true, round := [64, 65] }).fget .HK_LIST_CFG_SURVEY_LEN 1 ≠ 0 ∧
      (0 : Nat) + 1 < [64, 65].length ∧ (conv {}).crosses (.hkResultRead 1 0) = true ∧
      64 % 64 ∉ ((conv { started := true, round := [64, 65] }).hkOf 1).failed ∧ (hkRange (64 % 64)).1 ≤ 5 ∧ 5 ≤ (hkRange (64 % 64)).2) ∧
    ((conv { burst := some [16, 28] }).fon .HK_CTRL_ENABLE 1 = true ∧ ((conv { burst := some [16, 28] }).hkOf 1).burst = some [16, 28] ∧ [16, 28][((conv { burst := some [16, 28] }).hkOf 1).burstPlace]? = some 16) ∧
    ((conv {}).burstList 1 ≠ [] ∧ bit ((conv {}).fget .HK_CTRL_TRIG_EN 1) 2 = true ∧ bit ((conv {}).fget .HK_CTRL_TRIG_EN 1) 1 = true ∧
      ((conv { burst := some [16] }).hkOf 1).burst.isSome = true ∧ ((conv { burst := some [16] }).hkOf 1).burstNew = false ∧
      ((conv { burst := some [16], burstNew := true }).hkOf 1).burstNew = true ∧ (conv {}).fon .HK_CTRL_ENABLE 1 = true ∧ ((conv {}).hkOf 1).burst = none) ∧
    (((conv {}).fset .PWR_STATUS_STATE 2).powered = true ∧ (conv {}).power.level ≤ 8) ∧
    (((conv { calReq := true }).hkOf 1).calReq = true ∧ ((conv { calibrating := true }).hkOf 1).calibrating = true ∧
      (100 : Int).natAbs ≤ 2 ^ 14 ∧ (-3 : Int).natAbs ≤ 20000 ∧ 2 ^ 14 < (16385 : Int).natAbs) := by
  decide

/-- An item of one byte. -/
def anItem2 (aborted : Bool) : GuItem := ⟨4096, 0, [1], aborted⟩

/-- Unit 7, armed on the source of its settings, in a state. -/
def armed (src : Nat) (g : Gu) : State :=
  { (State.reset.fset .GU_STATUS_BUSY 1 7).fset .GU_SNOOP_SOURCE src 7 with gus := [(7, g)] }

theorem meets_CheckUnits :
    (armed 1 {}).fon .GU_STATUS_BUSY 7 = true ∧
    (State.reset.fon .GU_STATUS_BUSY 7 = false ∧ (State.reset.regWrite .gu 7 0 1).guBad 7 = true ∧
      (State.reset.regWrite .gu 7 0 (1 + 31 * 4)).guBad 7 = false) ∧
    State.reset.flows firmClk = true ∧ State.reset.flows hubClk = true ∧
    (((armed 3 { due := [anItem2 false] }).gu 7).due = [anItem2 false] ∧ (armed 1 { due := [anItem2 false] }).guMany 7 = false ∧
      ((armed 3 { due := [anItem2 false] }).gu 7).buffered + 1 ≤ snoopBuffer ∧ ((armed 1 {}).gu 7).due = []) ∧
    (((armed 2 { cur := [anItem2 false] }).gu 7).cur = [anItem2 false] ∧ (armed 2 { cur := [anItem2 false] }).fget .GU_SNOOP_SOURCE 7 ≠ 5 ∧
      ((armed 2 { cur := [anItem2 true] }).gu 7).cur = [anItem2 true] ∧ ((armed 2 {}).gu 7).cur = [] ∧
      ((armed 2 {}).fset .GU_STATUS_DONE 1 7).fon .GU_STATUS_DONE 7 = true ∧
      (armed 2 {}).fget .GU_CTRL_FOLD_MODE 7 = 0 ∧ (State.reset.fset .GU_SNOOP_SOURCE 5 7).fget .GU_SNOOP_SOURCE 7 = 5) := by
  decide

/-- A RANGE unit has begun the item of its range, which holds nothing. -/
theorem meets_RangeUnit : (armed 5 { cur := [(armed 5 {}).guRange 7] }).guRange 7 = (armed 5 {}).guRange 7 ∧
    ((armed 5 {}).guRange 7).aborted = false := by
  refine ⟨rfl, ?_⟩
  have e : mappedRange 0 0 = true := mappedRange_low 0 0 (by decide)
  have a : (armed 5 {}).gu64 7 .GU_RANGE_ADDR_LO_VALUE .GU_RANGE_ADDR_HI_VALUE = 0 := by decide
  have l : (armed 5 {}).gu64 7 .GU_RANGE_LEN_LO_VALUE .GU_RANGE_LEN_HI_VALUE = 0 := by decide
  unfold State.guRange
  simp [a, l, e]

/-- The module RUNNING. -/
def powered : State := State.reset.fset .PWR_STATUS_STATE 2

theorem meets_PowerAndResets :
    (powered.fget .PWR_STATUS_STATE ≠ 0 ∧ powered.powered = true ∧ powered.fget .PWR_STATUS_STATE ≠ 4 ∧ powered.mgmt.storing = none) ∧
    (State.reset.fset .PWR_STATUS_STATE 0).fget .PWR_STATUS_STATE = 0 ∧ serving.pathMay .window (.moduleReset .window) ∧
    ({ powered with startup := { state := 5 } }.startup.state ≠ 0) ∧
    (State.reset.startup.state = 0 ∧ State.reset.fget .PWR_STATUS_STATE = 1) := by
  unfold State.pathMay; decide

theorem meets_Throttle :
    (powered.powered = true ∧ powered.dval 0x5020 2 2800 < 2900 ∧ 2000 * 100 < 95 * powered.dval 0x5020 2 2800 ∧
      2700 ≤ powered.dval 0x5020 2 2800 ∧ 95 * powered.dval 0x5020 2 2800 ≤ 2700 * 100) ∧
    ({ powered with hks := [(1, { thermal := true })] }.hot 1 = true ∧ powered.hot 1 = false ∧ (powered.hkOf 1).alarm = false ∧
      { powered with hks := [(1, { alarm := true })] }.hot 1 = false ∧ ({ powered with hks := [(1, { alarm := true })] }.hkOf 1).alarm = true ∧
      ({ powered with hks := [(4, { thermal := true })] }.hkOf 4).thermal = true) := by
  decide

/-- A clock is off and a command waits before it; an event of the firmware's is in flight. -/
def dark : State := { powered with startup := { offPlls := [4, 26], inFlight := [(26, 0)] } }

theorem meets_Clocks :
    (dark.clocksOf .commitCheck ≠ [] ∧ dark.crosses .commitCheck = false ∧ dark.clocksOf .watchdogExpiry ≠ [] ∧
      dark.crosses .watchdogExpiry = false ∧ (dark.hold .marginReplanPeriod).crosses .mgmtResume = false) ∧
    (dark.runs [26] = false ∧ (26, 1) ∉ dark.startup.inFlight ∧ (26, 0) ∈ dark.startup.inFlight) ∧
    (26 ∉ (powered.setRword .clock 0 0 0x5FFFFFF).startup.offPlls ∧ bit ((powered.setRword .clock 0 0 0x5FFFFFF).rword .clock 0 0) 26 = true) ∧
    (3 ∈ { powered with startup := { offPlls := [3] } }.startup.offPlls ∧ 3 ∉ { powered with startup := { offPlls := [3] } }.startup.failedPlls) ∧
    3 ∈ { powered with startup := { offPlls := [3], failedPlls := [3] } }.startup.failedPlls := by
  decide

/-- Start-up at a stage. -/
def stage (s : State) (n : Nat) : State := { s with startup := { state := n } }

theorem meets_StartupStages :
    (∀ i ∈ [Instr.bootComplete 1500, .configComplete 200, .selftestComplete 2310 {}, .discoveryComplete 500],
      State.reset.crosses i = true) ∧
    ((stage (secured State.reset (some anImage) none) 0).starting = true ∧ (stage (secured State.reset (some anImage) none) 0).startup.recovery = false ∧
      (stage (secured State.reset (some anImage) none) 0).slotImage 0 = some anImage ∧
      (stage (secured State.reset (some anImage) none) 0).verifies anImage = true) ∧
    ((stage (secured State.reset none (some anImage)) 0).slotVerifies 0 = false ∧
      (stage (secured State.reset none (some anImage)) 0).slotImage (1 - 0) = some anImage ∧
      (stage (secured State.reset none (some anImage)) 0).verifies anImage = true) ∧
    ((stage (secured State.reset none none) 1).slotVerifies 0 = false ∧ (stage (secured State.reset none none) 1).slotVerifies 1 = false) ∧
    ((stage State.reset 2).fon .WIN_STATUS_HELD = false ∧ (stage State.reset 2).winner = none) ∧
    selfTestFails {} [] [] = false ∧ selfTestFails { hubFail := true } [] [] = true := by
  decide

/-- A copy of a store of no records wins. -/
def emptyCopy : List Byte :=
  List.flatten [bytesOf 4 0x74740050, bytesOf 2 1, bytesOf 2 0, bytesOf 4 9, bytesOf 4 0, bytesOf 4 0, List.replicate 12 0]

theorem meets_StoredConfiguration :
    { stage State.reset 2 with mgmt := { copies := [(1, emptyCopy ++ bytesOf 4 (crc c32 emptyCopy))] } }.winner =
      some (2, emptyCopy ++ bytesOf 4 (crc c32 emptyCopy)) ∧
    fieldAt (emptyCopy ++ bytesOf 4 (crc c32 emptyCopy)) 12 4 = 0 := by
  decide +kernel

/-- An image of one byte stands at address 0, signed by key 2. -/
def recovering : State :=
  { secured State.reset none none with
    startup := { state := 1, recovery := true }
    mem := [(0, 0x60), (2, 0x74), (3, 0x74), (4, 1), (6, 3), (8, 1), (12, 1), (16, 2), (17, 1)] ++
      ((List.range 32).map (32 + ·)).zip (sm3 [0]) }

/-- It verifies if its signature does: the verdict is a constant of Config (assumption 15). -/
theorem meets_Recovery : recovering.verifies (recovering.imageAt 0) =
    Config.signatureOk 2 (recovering.mem.readBytes 0 64) (recovering.mem.readBytes 64 64) := by
  have l : 256 + min (natOf (recovering.mem.readBytes (0 + 12) 4)) (2 ^ 22 - 256) = 257 := by decide +kernel
  have e : recovering.imageAt 0 = readImage (recovering.mem.readBytes 0 257) := by unfold State.imageAt; rw [l]
  have h1 : (fieldAt (recovering.mem.readBytes 0 257) 0 4 = 0x74740060 && fieldAt (recovering.mem.readBytes 0 257) 4 2 = 1 && (((recovering.mem.readBytes 0 257).drop 18).take 14).all (· = 0) &&
      (((recovering.mem.readBytes 0 257).drop 128).take 128).all (· = 0)) = true := by decide +kernel
  have h2 : fieldAt (recovering.mem.readBytes 0 257) 12 4 = 1 := by decide +kernel
  have h3 : fieldAt (recovering.mem.readBytes 0 257) 16 1 = 2 := by decide +kernel
  have h4 : fieldAt (recovering.mem.readBytes 0 257) 17 1 = 1 := by decide +kernel
  have h5 : fieldAt (recovering.mem.readBytes 0 257) 6 2 = 3 := by decide +kernel
  have h6 : decide (sm3 (((recovering.mem.readBytes 0 257).drop 256).take 1) = ((recovering.mem.readBytes 0 257).drop 32).take 32) = true := by decide +kernel
  have h7 : (recovering.mem.readBytes 0 257).take 64 = recovering.mem.readBytes 0 64 := by decide +kernel
  have h8 : ((recovering.mem.readBytes 0 257).drop 64).take 64 = recovering.mem.readBytes 64 64 := by decide +kernel
  rw [e]
  unfold readImage State.verifies
  simp only [h2, h3, h4, h5, h7, h8]
  rw [h1, h6]
  have k : recovering.keyState 2 = 1 := by rfl
  have r : recovering.rollback = 0 := by rfl
  rw [k, r]
  simp [show bit 1 2 = false from rfl]

theorem meets_Firmware :
    ({ secured State.reset none none with startup := { state := 1, recovery := true } }.startup.recovery = true ∧
      recovering.startup.recovery = true ∧ recovering.startup.state = 1 ∧
      (secured State.reset none none).verifies ((secured State.reset none none).imageAt 0) = false) ∧
    (serving.pathMay .window (.firmwareUpdate .window 1) ∧ serving.pathMay .window (.firmwareActivate .window 1) ∧
      serving.crosses .recoveryAreaPoll = true ∧ serving.crosses (.firmwareUpdateComplete true) = true ∧ 1 ≠ serving.secure.running ∧ serving.secure.update = none ∧ 0 = serving.secure.running ∧
      (secured serving (some anImage) none).slotVerifies 0 = true ∧ (secured serving (some anImage) none).slotVerifies 1 = false ∧
      (secured serving (some anImage) none).pathMay .window (.rollbackCommit .window) ∧ (secured serving (some anImage) none).secure.image = some anImage) ∧
    { serving with secure := { update := some 1 } }.secure.update = some 1 := by
  unfold State.pathMay; decide

/-- Two sessions of the DOE transport, the second ready. -/
def sessioned : State := { serving with secure := { sessions := [{ transport := 0, id := 1 }, { transport := 0, id := 2, ready := true }] } }

theorem meets_Security :
    (serving.flows (spdmClk .doe) = true ∧ serving.flows (spdmClk .mctp) = true ∧ State.reset.fon .WIN_STATUS_AVAILABLE = false ∧
      State.reset.flows [26] = true) ∧
    (serving.serving = true ∧ State.reset.serving = false ∧ (serving.sessionsOf .doe).length < 4) ∧
    4 ≤ ({ serving with secure := { sessions := List.replicate 4 { transport := 0, id := 1 } } }.sessionsOf .doe).length ∧
    ((sessioned.sessionsOf .doe).find? (fun y => y.id = 1) = some { transport := 0, id := 1 } ∧
      (sessioned.sessionsOf .doe).find? (fun y => y.id = 2) = some { transport := 0, id := 2, ready := true }) ∧
    ((sessioned.sessionsOf .doe).any (fun x => x.id = 2 && x.ready) = true ∧
      (sessioned.sessionsOf .doe).any (fun x => x.id = 1 && x.ready) = false) := by
  decide

end Sys2Proof.Tests
end

section
/-! PROOFS. Register accesses, bit by bit: what a walk over the fields of one register leaves in each bit. A read, what a
read leaves, a write and the reset value are such walks (R10 to R12). -/

namespace Sys2Proof.Proofs

open Sys2Proof.Machine Sys2Proof.Laws

theorem bit_eq_testBit (x i : Nat) : bit x i = x.testBit i := by
  simp [bit, bits, Nat.testBit_eq_decide_div_mod_eq, Nat.shiftRight_eq_div_pow]

/-- Words that agree in the bits of a field hold the same value there. -/
theorem bits_congr {x y lo w : Nat} (h : ∀ b, lo ≤ b → b < lo + w → x.testBit b = y.testBit b) :
    bits x lo w = bits y lo w := by
  apply Nat.eq_of_testBit_eq
  intro i
  rw [bits_testBit, bits_testBit]
  by_cases hi : i < w
  · simp [hi, h (lo + i) (by omega) (by omega)]
  · simp [hi]

/-- A field of `x` whose bits are cleared under `p` and are those of `y` otherwise. -/
theorem bits_eq_ite {x y lo w : Nat} {p : Prop} [Decidable p]
    (h : ∀ b, lo ≤ b → b < lo + w → x.testBit b = if p then false else y.testBit b) :
    bits x lo w = if p then 0 else bits y lo w := by
  by_cases hp : p
  · have e : bits x lo w = bits 0 lo w := bits_congr fun b h1 h2 => by simp [h b h1 h2, hp]
    rw [e, if_pos hp, bits, Nat.zero_shiftRight, Nat.zero_mod]
  · simp only [hp, if_false] at h ⊢
    exact bits_congr h

/-- A step of a walk over fields acts on bits: inside the field by `eff`, outside not at all. -/
def ActsOnBits (step : Nat → Fld → Nat) (eff : Fld → Nat → Bool → Bool) : Prop :=
  ∀ x g b, (step x g).testBit b = if g.lo ≤ b ∧ b < g.lo + g.w then eff g b (x.testBit b) else x.testBit b

section
variable {step : Nat → Fld → Nat} {eff : Fld → Nat → Bool → Bool} (hs : ActsOnBits step eff)
include hs

/-- A walk leaves the bits that lie in none of its fields. -/
theorem foldl_testBit_reserved {b : Nat} : ∀ (fs : List Fld) (x : Nat),
    (∀ g ∈ fs, b < g.lo ∨ g.lo + g.w ≤ b) → (fs.foldl step x).testBit b = x.testBit b
  | [], _, _ => rfl
  | g :: fs, x, hb => by
    have hg := hb g List.mem_cons_self
    rw [List.foldl_cons, foldl_testBit_reserved fs _ fun g' h => hb g' (List.mem_cons_of_mem _ h), hs, if_neg (by omega)]

/-- A walk acts on a bit of a field that overlaps no other as that field's step does, however often the field is listed. -/
theorem foldl_testBit_field {f : Fld} {b : Nat} (hb : f.lo ≤ b ∧ b < f.lo + f.w)
    (twice : ∀ y, eff f b (eff f b y) = eff f b y) : ∀ (fs : List Fld) (x : Nat), f ∈ fs →
    (∀ g ∈ fs, g = f ∨ g.lo + g.w ≤ f.lo ∨ f.lo + f.w ≤ g.lo) →
    (fs.foldl step x).testBit b = eff f b (x.testBit b)
  | [], _, hf, _ => nomatch hf
  | g :: fs, x, hf, apart => by
    have rest : ∀ g' ∈ fs, g' = f ∨ g'.lo + g'.w ≤ f.lo ∨ f.lo + f.w ≤ g'.lo :=
      fun g' h => apart g' (List.mem_cons_of_mem _ h)
    rw [List.foldl_cons]
    by_cases hfs : f ∈ fs
    · rw [foldl_testBit_field hb twice fs _ hfs rest, hs]
      rcases apart g List.mem_cons_self with rfl | hg
      · rw [if_pos hb, twice]
      · rw [if_neg (by omega)]
    · obtain rfl : f = g := (List.mem_cons.1 hf).resolve_right hfs
      rw [foldl_testBit_reserved hs fs, hs, if_pos hb]
      intro g' h
      rcases rest g' h with rfl | hg
      · exact absurd h hfs
      · omega

end

/-! ### The four walks of the register bank -/

/-- Setting a field to a value acts on bits. -/
theorem setBits_testBit_field (x lo w v b : Nat) :
    (setBits x lo w v).testBit b = if lo ≤ b ∧ b < lo + w then v.testBit (b - lo) else x.testBit b := by
  rw [setBits_testBit]
  by_cases h : b < lo
  · rw [if_pos h, if_neg (by omega)]
  · simp only [h, if_false, show lo ≤ b from by omega, true_and]

/-- Bit `b` of a word is bit `b - lo` of the field's value there. -/
theorem bits_testBit_sub {x lo w b : Nat} (h : lo ≤ b ∧ b < lo + w) : (bits x lo w).testBit (b - lo) = x.testBit b := by
  rw [bits_testBit, Nat.add_sub_cancel' h.1, decide_eq_true (show b - lo < w by omega), Bool.true_and]

/-- Clearing the bits of `a` that `m` names. -/
theorem sub_and_testBit (a m i : Nat) : (a - (a &&& m)).testBit i = (a.testBit i && !m.testBit i) := by
  have hle : a &&& m ≤ a := Nat.and_le_left
  have hodd : (a &&& m) % 2 = 1 ↔ a % 2 = 1 ∧ m % 2 = 1 := Nat.and_mod_two_eq_one
  induction i generalizing a m with
  | zero =>
    have h : (a - (a &&& m)) % 2 = 1 ↔ a % 2 = 1 ∧ ¬ m % 2 = 1 := by omega
    simp only [Nat.testBit_zero, h, Bool.decide_and, decide_not]
  | succ i ih =>
    have half : (a - (a &&& m)) / 2 = a / 2 - (a / 2 &&& m / 2) := by
      rw [← Nat.and_div_two]
      omega
    rw [Nat.testBit_succ, half, ih _ _ Nat.and_le_left Nat.and_mod_two_eq_one, Nat.testBit_succ, Nat.testBit_succ]

theorem reset_actsOnBits : ActsOnBits (fun w f => setBits w f.lo f.w f.reset) (fun f b _ => f.reset.testBit (b - f.lo)) :=
  fun _ _ _ => setBits_testBit_field ..

theorem readValue_actsOnBits (w : Nat) :
    ActsOnBits (fun acc f => if f.acc = .wo then acc else setBits acc f.lo f.w (bits w f.lo f.w))
      (fun f b y => if f.acc = .wo then y else w.testBit b) := by
  intro x f b
  dsimp only
  by_cases hw : f.acc = .wo
  · simp [hw]
  · simp only [hw, if_false, setBits_testBit_field]
    exact ite_congr rfl bits_testBit_sub fun _ => rfl

theorem afterRead_actsOnBits :
    ActsOnBits (fun x f => afterRead [f] x) (fun f _ y => if f.acc = .rc then false else y) := by
  intro x f b
  simp only [afterRead, List.foldl_cons, List.foldl_nil]
  by_cases hr : f.acc = .rc
  · simp [hr, setBits_testBit_field]
  · simp [hr]

/-- What a write of `v` leaves in a bit of a field that held `y` (R11). -/
def writtenBit (v : Nat) (f : Fld) (b : Nat) (y : Bool) : Bool :=
  match f.acc with
  | .rw => v.testBit b
  | .w1c => y && !v.testBit b
  | _ => y

theorem writtenBit_of_rw {v b : Nat} {f : Fld} (h : f.acc = .rw) (y : Bool) : writtenBit v f b y = v.testBit b := by
  simp [writtenBit, h]

theorem writtenBit_of_w1c {v b : Nat} {f : Fld} (h : f.acc = .w1c) (y : Bool) :
    writtenBit v f b y = (y && !v.testBit b) := by
  simp [writtenBit, h]

theorem writtenBit_of_other {v b : Nat} {f : Fld} (hrw : f.acc ≠ .rw) (hw1c : f.acc ≠ .w1c) (y : Bool) :
    writtenBit v f b y = y := by
  unfold writtenBit
  split
  · contradiction
  · contradiction
  · rfl

theorem afterWrite_actsOnBits (v : Nat) : ActsOnBits (fun x f => afterWrite [f] x v) (writtenBit v) := by
  intro x f b
  simp only [afterWrite, List.foldl_cons, List.foldl_nil]
  split
  · next ha =>
    rw [setBits_testBit_field, writtenBit_of_rw ha]
    exact ite_congr rfl bits_testBit_sub fun _ => rfl
  · next ha =>
    rw [setBits_testBit_field, writtenBit_of_w1c ha]
    refine ite_congr rfl (fun h => ?_) fun _ => rfl
    rw [sub_and_testBit, bits_testBit_sub h, bits_testBit_sub h]
  · next hrw hw1c => rw [writtenBit_of_other hrw hw1c, ite_self]

/-! ### A register after a read and after a write -/

section
variable {sec : Sec} {off : Nat} {f : Fld} (w : Nat)

/-- A walk over the fields of a register, at a bit of a field that stands apart. -/
theorem foldl_fldsAt_testBit {step : Nat → Fld → Nat} {eff : Fld → Nat → Bool → Bool} (hs : ActsOnBits step eff)
    (h : fieldApart sec off f) {b : Nat} (hb : f.lo ≤ b ∧ b < f.lo + f.w)
    (twice : ∀ y, eff f b (eff f b y) = eff f b y) (x : Nat) :
    ((fldsAt sec off).foldl step x).testBit b = eff f b (x.testBit b) :=
  let ⟨mem, _, apart⟩ := h
  foldl_testBit_field hs hb twice _ x mem apart

/-- A read returns a field's value, or zero for a write-only one (R11). -/
theorem bits_readValue (h : fieldApart sec off f) :
    bits (readValue (fldsAt sec off) w) f.lo f.w = if f.acc = .wo then 0 else bits w f.lo f.w := by
  refine bits_eq_ite fun b h1 h2 => ?_
  refine (foldl_fldsAt_testBit (readValue_actsOnBits w) h ⟨h1, h2⟩ (fun y => ?_) 0).trans ?_
  · split <;> rfl
  · rw [Nat.zero_testBit]

/-- A read returns zero in reserved bits (R12). -/
theorem bit_readValue_reserved {b : Nat} (hb : ∀ g ∈ fldsAt sec off, b < g.lo ∨ g.lo + g.w ≤ b) :
    bit (readValue (fldsAt sec off) w) b = false :=
  (bit_eq_testBit ..).trans <| (foldl_testBit_reserved (readValue_actsOnBits w) _ 0 hb).trans (Nat.zero_testBit b)

/-- A read clears a read-clear field and leaves the others (R11). -/
theorem bits_afterRead (h : fieldApart sec off f) :
    bits (afterRead (fldsAt sec off) w) f.lo f.w = if f.acc = .rc then 0 else bits w f.lo f.w := by
  refine bits_eq_ite fun b h1 h2 => foldl_fldsAt_testBit afterRead_actsOnBits h ⟨h1, h2⟩ (fun y => ?_) w
  split <;> rfl

/-- A write acts on each bit of a field by the field's access code (R11). -/
theorem afterWrite_testBit_field (v : Nat) (h : fieldApart sec off f) {b : Nat} (hb : f.lo ≤ b ∧ b < f.lo + f.w) :
    (afterWrite (fldsAt sec off) w v).testBit b = writtenBit v f b (w.testBit b) := by
  refine foldl_fldsAt_testBit (afterWrite_actsOnBits v) h hb (fun y => ?_) w
  unfold writtenBit
  split <;> simp

/-- An RW field takes the value. -/
theorem bits_afterWrite_of_rw (v : Nat) (h : fieldApart sec off f) (ha : f.acc = .rw) :
    bits (afterWrite (fldsAt sec off) w v) f.lo f.w = bits v f.lo f.w :=
  bits_congr fun b h1 h2 => by rw [afterWrite_testBit_field w v h ⟨h1, h2⟩, writtenBit_of_rw ha]

/-- A W1C bit written 1 clears. -/
theorem bit_afterWrite_of_w1c (v : Nat) (h : fieldApart sec off f) (ha : f.acc = .w1c) {k : Nat} (hk : k < f.w) :
    bit (afterWrite (fldsAt sec off) w v) (f.lo + k) = (bit w (f.lo + k) && !bit v (f.lo + k)) := by
  simp only [bit_eq_testBit]
  rw [afterWrite_testBit_field w v h (by omega), writtenBit_of_w1c ha]

/-- Every other field stays. -/
theorem bits_afterWrite_of_other (v : Nat) (h : fieldApart sec off f) (hrw : f.acc ≠ .rw) (hw1c : f.acc ≠ .w1c) :
    bits (afterWrite (fldsAt sec off) w v) f.lo f.w = bits w f.lo f.w :=
  bits_congr fun b h1 h2 => by rw [afterWrite_testBit_field w v h ⟨h1, h2⟩, writtenBit_of_other hrw hw1c]

/-- A write leaves reserved bits (R12). -/
theorem bit_afterWrite_reserved (v : Nat) {b : Nat} (hb : ∀ g ∈ fldsAt sec off, b < g.lo ∨ g.lo + g.w ≤ b) :
    bit (afterWrite (fldsAt sec off) w v) b = bit w b := by
  rw [bit_eq_testBit, bit_eq_testBit]
  exact foldl_testBit_reserved (afterWrite_actsOnBits v) _ w hb

end

/-! ### The access of the bank -/

/-- `t` is `s` with the register at `off` holding `new`; where it holds it already, nothing need be stored. -/
def Stores (sec : Sec) (inst off new : Nat) (s t : State) : Prop :=
  (t = s ∧ s.rword sec inst off = new) ∨ t = s.setRword sec inst off new

section
variable {s t : State} {sec : Sec} {inst off new : Nat} (h : Stores sec inst off new s t)
include h

theorem Stores.bits_eq {lo w : Nat} (hw : lo + w ≤ 32) : bits (t.rword sec inst off) lo w = bits new lo w := by
  rcases h with ⟨rfl, e⟩ | rfl
  · rw [e]
  · rw [rword_setRword, bits_mod32 _ _ _ hw]

theorem Stores.bit_eq {b : Nat} (hb : b < 32) : bit (t.rword sec inst off) b = bit new b := by
  rw [bit, bit, h.bits_eq (by omega)]

theorem Stores.rword_ne {sec' : Sec} {j x : Nat} (hk : regKey sec' j x ≠ regKey sec inst off) :
    t.rword sec' j x = s.rword sec' j x := by
  rcases h with ⟨rfl, -⟩ | rfl
  · rfl
  · exact rword_setRword_ne _ _ _ _ _ _ _ _ hk

theorem Stores.mem_eq : t.mem = s.mem := by
  rcases h with ⟨rfl, -⟩ | rfl <;> rfl

theorem Stores.cores_eq : t.cores = s.cores := by
  rcases h with ⟨rfl, -⟩ | rfl <;> rfl

theorem Stores.reply_eq : t.reply = s.reply := by
  rcases h with ⟨rfl, -⟩ | rfl <;> rfl

end

section
variable (s : State) (sec : Sec) (inst off : Nat)

/-- A store that is left out where the register holds the value already. -/
theorem stores_ite (new : Nat) :
    Stores sec inst off new s (if new = s.rword sec inst off then s else s.setRword sec inst off new) := by
  split
  · next e => exact .inl ⟨rfl, e.symm⟩
  · exact .inr rfl

/-- The value that a read of the bank answers. -/
theorem regRead_fst : (s.regRead sec inst off).1 = readValue (fldsAt sec off) (s.rword sec inst off) := by
  unfold State.regRead
  split
  · next e => rw [e]; rfl
  · rfl

/-- What a read of the bank stores. -/
theorem regRead_stores :
    Stores sec inst off (afterRead (fldsAt sec off) (s.rword sec inst off)) s (s.regRead sec inst off).2 := by
  unfold State.regRead
  split
  · next e => rw [e]; exact .inl ⟨rfl, rfl⟩
  · exact stores_ite ..

/-- What a write of the bank stores. -/
theorem regWrite_stores (v : Nat) :
    Stores sec inst off (afterWrite (fldsAt sec off) (s.rword sec inst off) v) s (s.regWrite sec inst off v) := by
  unfold State.regWrite
  split
  · next e => rw [e]; exact .inl ⟨rfl, rfl⟩
  · exact stores_ite ..

end

/-! ### The two commands, in the sections without effects beyond the fields -/

section
variable {s : State} {sec : Sec} {inst : Nat} (off : Nat) (hp : plainSec sec = true)
  (hi : inst < instances sec) (hc : s.flows (secClk sec inst) = true)
include hp

theorem hostSec_of_plain : hostSec sec = false := by
  cases sec <;> simp_all [plainSec, hostSec]

theorem readRegister_of_plain : s.readRegister sec inst off = State.replyWord (s.regRead sec inst off) := by
  cases sec <;> simp_all [plainSec, State.readRegister]

theorem writeRegister_of_plain (v : Nat) : s.writeRegister sec inst off v = s.regWrite sec inst off v := by
  cases sec <;> simp_all [plainSec, State.writeRegister]

include hi hc

/-- READ_CLEAR_REGISTER reads the bank and answers. -/
theorem exec_readClearRegister_of_plain :
    exec (.readClearRegister sec inst off) s = .next (State.replyWord (s.regRead sec inst off)) := by
  change execReadClearRegister sec inst off s = _
  unfold execReadClearRegister
  rw [clocked_of_crosses s (i := .readClearRegister sec inst off) hc, if_pos hi]
  simp [State.regAccess, hostSec_of_plain hp, readRegister_of_plain off hp]

/-- REGISTER_WRITE writes the bank. -/
theorem exec_registerWrite_of_plain (v : Word) :
    exec (.registerWrite sec inst off v) s = .next (s.regWrite sec inst off v.toNat) := by
  change execRegisterWrite sec inst off v s = _
  unfold execRegisterWrite
  rw [clocked_of_crosses s (i := .registerWrite sec inst off v) hc, if_pos hi]
  simp [State.regAccess, hostSec_of_plain hp, writeRegister_of_plain off hp]

end

/-- Settles O52: a read and a write of a plain section are the bank's own, and those walk over the register's fields. -/
theorem registerAccessesFollowTheirCodes : Obligations.RegisterAccessesFollowTheirCodes := by
  intro s sec inst off hp hi hc
  refine ⟨?_, fun v => ?_⟩
  · have st := regRead_stores s sec inst off
    refine ⟨_, _, exec_readClearRegister_of_plain off hp hi hc, rfl, fun f hf => ?_, fun b _ hb => ?_,
      fun sec' j x hk => st.rword_ne hk, st.mem_eq, st.cores_eq⟩
    · have ⟨_, h32, _⟩ := hf
      rw [regRead_fst]
      exact ⟨bits_readValue _ hf, (st.bits_eq h32).trans (bits_afterRead _ hf)⟩
    · rw [regRead_fst]
      exact bit_readValue_reserved _ hb
  · have st := regWrite_stores s sec inst off v.toNat
    refine ⟨_, exec_registerWrite_of_plain off hp hi hc v, fun f hf => ?_, fun b h32 hb => ?_,
      fun sec' j x hk => st.rword_ne hk, st.mem_eq, st.cores_eq, st.reply_eq⟩
    · have ⟨_, h32, _⟩ := hf
      rw [st.bits_eq h32]
      exact ⟨bits_afterWrite_of_rw _ _ hf,
        fun ha k hk => (st.bit_eq (by omega)).trans (bit_afterWrite_of_w1c _ _ hf ha hk),
        bits_afterWrite_of_other _ _ hf⟩
    · rw [st.bit_eq h32]
      exact bit_afterWrite_reserved _ _ hb

/-! ### Reset -/

/-- After a power-up reset a field that stands apart holds its Reset column, where nothing else is said of its register
(R10). -/
theorem fget_reset {f : Fld} {c i j : Nat} (hs : specialReset f.sec c (f.addr i j) = none)
    (h : fieldApart f.sec (f.addr i j) f) : State.reset.fget f c i j = f.reset % 2 ^ f.w := by
  have e : State.reset.rword f.sec c (f.addr i j) = resetWord f.sec (f.addr i j) := by
    change resetReg f.sec c (f.addr i j) = _
    rw [resetReg, hs, Option.getD_none]
  rw [State.fget, e]
  apply Nat.eq_of_testBit_eq
  intro k
  rw [bits_testBit, Nat.testBit_mod_two_pow]
  by_cases hk : k < f.w
  · have := foldl_fldsAt_testBit reset_actsOnBits h (b := f.lo + k) (by omega) (fun _ => rfl) 0
    rw [resetWord, this, Nat.add_sub_cancel_left]
  · simp [hk]

theorem fieldApart_iff {sec : Sec} {off : Nat} {f : Fld} : fieldApart sec off f ↔
    f ∈ fldsAt sec off ∧ f.lo + f.w ≤ 32 ∧ ∀ g ∈ fldsAt sec off, g = f ∨ g.lo + g.w ≤ f.lo ∨ f.lo + f.w ≤ g.lo := Iff.rfl

/-- Settles O7: each field stands apart in its register, and the Reset column gives its value. -/
theorem resetLeavesTheStatedValues : Obligations.ResetLeavesTheStatedValues :=
  ⟨rfl, rfl, fun _ =>
    ⟨fget_reset rfl (fieldApart_iff.2 (by decide)), fget_reset rfl (fieldApart_iff.2 (by decide)),
     fget_reset rfl (fieldApart_iff.2 (by decide)), fget_reset rfl (fieldApart_iff.2 (by decide)),
     fget_reset rfl (fieldApart_iff.2 (by decide)), fget_reset rfl (fieldApart_iff.2 (by decide)),
     fget_reset rfl (fieldApart_iff.2 (by decide)), fget_reset rfl (fieldApart_iff.2 (by decide)),
     fun t ht => fget_reset rfl (fieldApart_iff.2 (by revert t; decide)),
     fun t ht => fget_reset rfl (fieldApart_iff.2 (by revert t; decide))⟩⟩

end Sys2Proof.Proofs
end

section
/-! PROOFS. Doorbells: an attempt's start can itself signal a core. A module without routing cores ends round 0 of every
layer at once (R338, assumption 83); where it is its travel set's one member, acceptance is final there and then, and the
hub die signals InnToken of each inn core (R234) after the start has cleared the counters (R227). -/

namespace Sys2Proof.Proofs

open Sys2Proof.Machine Sys2Proof.Laws

/-- DOORBELL_START with its clocks running. -/
theorem exec_doorbellStart {s : State} (h : s.crosses .doorbellStart = true) :
    exec .doorbellStart s = .next s.doorbellStart :=
  clocked_of_crosses s h

/-- A core whose main section is COMMIT_POINT alone; as an inn core it is signalled by token 0. -/
def innHeader : CoreHdr :=
  { addr := 2 ^ 20, entryCount := 1, epilogue := 1, restore := 1, cellarBase := 2 ^ 21, cellarKib := 128
    innToken := 0, returnToken := 255, innBase := 2 ^ 22, innHalf := 32, returnHalf := 0, returnBase := 0 }

/-- Layer 0 has one expert, in core 0 of module 7, and module 7 is its whole travel set. -/
def innLayer : ILayer := { experts := [⟨7, 1, [0]⟩], rounds := 1, members := [7] }

/-- Module 7 with everything loaded, RoutingCores 0, that layer and the doorbell of step 1 latched. -/
def innModule : State :=
  { State.reset.fset .HOST_STATUS_READY 1 with
    plan := { loaded := true, routingCores := 0 }, exch := { loaded := true }, ledger := { loaded := true }
    itin := { loaded := true, layers := [innLayer] }, cores := [(0, { hdr := some innHeader })]
    dict := [(dkey 0x3300 1, 2 ^ 30), (dkey 0x3300 2, 2 ^ 31), (dkey 0x3300 3, 4096), (dkey 0x6000 1, 7),
      (dkey 0x6008 2, 2 ^ 26)]
    job := { doorbell := some 1 } }

/-- Nothing waits and nothing stands against the doorbell. -/
theorem innModule_due : innModule.crosses .doorbellStart = true ∧ innModule.job.doorbell = some 1 ∧
    innModule.doorbellWaits = false ∧ innModule.doorbellFault 1 = none := by
  decide

/-- The attempt starts at once, and no message is held for it. -/
theorem innModule_starts : innModule.ledger.firstDoorbell = false ∧ innModule.fget .RECOVERY_STATUS_STATE ≠ 2 ∧
    innModule.exch.early = [] ∧ innModule.fab.held = [] := by
  decide

/-- The start leaves InnToken of core 0 signalled. -/
theorem innModule_tokenCount : innModule.doorbellStart.fget .TOKEN_COUNT 0 0 = 1 := by
  decide

/-- Refutes O33: its last clause has every token counter of the plan's cores at 0 when the attempt has started, and at
`innModule` counter 0 of inn core 0 is 1. -/
theorem not_doorbellsComplete : ¬ Obligations.DoorbellsComplete := by
  intro h
  obtain ⟨crosses, rung, due, good⟩ := innModule_due
  obtain ⟨notFirst, notHold, noEarly, noHeld⟩ := innModule_starts
  have ⟨_, starts⟩ := h innModule 1
  have ⟨_, _, begins⟩ := starts crosses rung due
  obtain ⟨t, ht, _, _, _, _, _, _, cleared⟩ := begins good notFirst notHold noEarly noHeld
  obtain rfl : innModule.doorbellStart = t := by simpa only [exec_doorbellStart crosses, Host.Outcome.next.injEq] using ht
  have inPlan : 0 ∈ innModule.planCores := by decide
  have ⟨_, _, zero⟩ := cleared 0 inPlan
  exact Nat.one_ne_zero (innModule_tokenCount.symm.trans (zero 0 (by decide)))

end Sys2Proof.Proofs
end

section
/-! PROOFS. Shared rules of the charge-array commands: fields that share no bit, arrays and positions through updates, reads
of sound memory, raised codes, and what may follow a change on a calm core. -/

namespace Sys2Proof.Proofs

open Sys2Proof.Machine Sys2Proof.Laws

/-! ### Fields that share no bit -/

/-- Field `g` of register (k, l) shares no bit with field `f` of register (i, j). -/
def fldsApart (f : Fld) (i j : Nat) (g : Fld) (k l : Nat) : Bool :=
  g.sec ≠ f.sec || g.addr k l % 65536 ≠ f.addr i j % 65536 ||
    (g.addr k l = f.addr i j && (g.lo + g.w ≤ f.lo || f.lo + f.w ≤ g.lo) && g.lo + g.w ≤ 32)

section
variable (s : State) {f g : Fld} {i j k l : Nat} (h : fldsApart f i j g k l = true) (c : Nat)
include h

theorem fget_fset_apart (v : Nat) : (s.fset f v c i j).fget g c k l = s.fget g c k l := by
  simp only [fldsApart, Bool.or_eq_true, Bool.and_eq_true, decide_eq_true_eq] at h
  rcases h with (sec | off) | ⟨⟨reg, bits⟩, word⟩
  · exact fget_fset_sec _ _ _ _ _ _ _ _ _ _ sec
  · exact fget_fset_off _ _ _ _ _ _ _ _ _ _ off
  · by_cases sec : g.sec = f.sec
    · exact fget_fset_bits _ _ _ _ _ _ _ _ _ bits sec reg word
    · exact fget_fset_sec _ _ _ _ _ _ _ _ _ _ sec

theorem fget_fcount_apart (n : Nat) : (s.fcount f n c i j).fget g c k l = s.fget g c k l := by
  unfold State.fcount
  split
  · rfl
  · exact fget_fset_apart s h c _

end

/-! ### Arrays and positions -/

section
variable (s : State) (c a p : Nat)

@[simp] theorem array_modArr (f : Arr → Arr) : (s.modArr c a f).array c a = f (s.array c a) := by
  simp [State.array, State.modArr, core_modCore, Core.array]

@[simp] theorem pos_modArr (f : Arr → Arr) : (s.modArr c a f).pos c p = s.pos c p := by
  simp [State.pos, State.modArr, core_modCore]

@[simp] theorem pos_modPos (f : Pos → Pos) : (s.modPos c p f).pos c p = f (s.pos c p) := by
  simp [State.pos, State.modPos, core_modCore]

theorem pos_modPos_ne {q : Nat} (h : q ≠ p) (f : Pos → Pos) : (s.modPos c p f).pos c q = s.pos c q := by
  simp [State.pos, State.modPos, core_modCore, get_put_ne _ _ _ _ _ h]

@[simp] theorem pos_fset (f : Fld) (v d i j : Nat) : (s.fset f v d i j).pos c p = s.pos c p := rfl

end

/-- A tile's change is one of the tiles. -/
theorem setTile_eq (k : Core) (t : Nat) (x : Tile) : ∃ g0 g1, k.setTile t x = { k with ga0 := g0, ga1 := g1 } := by
  unfold Core.setTile
  split
  · exact ⟨_, _, rfl⟩
  · exact ⟨_, _, rfl⟩

/-! ### Reads, raises and calm cores -/

/-- Without an uncorrectable word a read finds none. -/
theorem badIn_of_memBad {s : State} (h : s.memBad = []) (a n : Nat) : s.badIn a n = [] := by
  rw [State.badIn, h, List.filter_nil]

/-- On a calm core that nothing holds nothing follows a change. -/
theorem advance_of_calm {s : State} {c : Nat} (calm : s.calm c) (hold : (s.core c).hold = none) : s.advance c = s := by
  obtain ⟨main, idle⟩ := calm
  have kick : s.kickVector c = s := by rw [State.kickVector, idle]
  have settled : s.settle c = s := by simp only [State.settle, hold]
  rw [State.advance, kick, settled, State.sectionEnd]
  split
  · rfl
  · exact if_neg (by simp [main])

/-- Raising a code sets its status bit, and no other register. -/
theorem raiseIn_regs (s : State) (e : Code) (k : Option Nat) (u : Nat) :
    (s.raiseIn e k u).regs = (s.setCodeBit e k u).regs := by
  unfold State.raiseIn
  dsimp only
  split <;> split <;> simp [State.countCode]

/-- A raised code stands among those of the attempt. -/
theorem raiseIn_raised (s : State) (e : Code) (k : Option Nat) (u : Nat) :
    ∃ x ∈ (s.raiseIn e k u).faults.raised, x.1 = e := by
  unfold State.raiseIn
  dsimp only
  split
  · next h =>
    obtain ⟨x, hx, he⟩ := List.any_eq_true.1 h
    refine ⟨x, ?_, of_decide_eq_true he⟩
    split <;> simpa using hx
  · refine ⟨(e, k), ?_, rfl⟩
    split <;> simp

/-- Of a core in its main section a code is raised in the attempt. -/
theorem raise_of_main {s : State} {c : Nat} (main : s.seqState c = 1) (e : Code) (u : Nat) :
    s.raise e c u = s.raiseIn e (some c) u :=
  if_neg (by simp [main])

end Sys2Proof.Proofs
end

section
/-! PROOFS. Issue of ARRAY_MVM and ARRAY_WRITE (R70, R88, R142, R211, R212). Counting SEQ_ENTRY on touches a register of the
sequencer only, so every check at issue reads the state as it was. -/

namespace Sys2Proof.Proofs

open Sys2Proof.Machine Sys2Proof.Laws

/-- A ready core runs the entry's own effect, and then what may follow. -/
theorem issue_of_ready {s : State} {k : Nat} {m : Cmn} {e : Entry} (h : s.ready k m e) (go : Nat → State → State) :
    s.issue k m e (entryUnit e) go = (go (s.fget .SEQ_ENTRY_NEXT k) (s.counted k)).advance k := by
  obtain ⟨core, can, room, fields, lists⟩ := h
  have noStall : ¬ (entryUnit e < 6 ∧ 16 ≤ ((s.core k).queue (entryUnit e)).length) := fun ⟨hu, hq⟩ => by
    have := room hu
    omega
  unfold State.issue
  rw [if_neg (by simp [core, can]), if_neg noStall]
  dsimp only
  rw [if_neg (by simp [fields, lists])]
  rfl

/-! ### What SEQ_ENTRY leaves -/

section
variable (s : State) (k : Nat)

theorem fget_counted {f : Fld} (h : f.sec ≠ .seq) (c i j : Nat) : (s.counted k).fget f c i j = s.fget f c i j :=
  fget_fset_sec _ _ _ _ _ _ _ _ _ _ h

theorem fgetS_counted {f : Fld} (h : f.sec ≠ .seq) (c i j : Nat) : (s.counted k).fgetS f c i j = s.fgetS f c i j := by
  rw [State.fgetS, fget_counted s k h, State.fgetS]

theorem bankSettled_counted (c a no : Nat) : (s.counted k).bankSettled c a no = s.bankSettled c a no := by
  have st : (s.counted k).bankState c a = s.bankState c a := fget_counted s k (by decide) c a 0
  unfold State.bankSettled
  rw [st]
  rfl

theorem mvmLow_counted (c no : Nat) (f : MvmF) (a : Int) : (s.counted k).mvmLow c no f a = s.mvmLow c no f a := by
  unfold State.mvmLow
  simp only [bankSettled_counted]
  rfl

theorem accumConflict_counted (c t : Nat) (start : Bool) (a : Int) (pc : Nat) :
    (s.counted k).accumConflict c t start a pc = s.accumConflict c t start a pc := by
  unfold State.accumConflict State.tileState
  rw [fget_counted s k (by decide), fget_counted s k (by decide), fgetS_counted s k (by decide)]

end

/-! ### ARRAY_MVM -/

section
variable {s : State} {k : Nat} {m : Cmn} {f : MvmF} (ready : s.ready k m (.arrayMvm f)) (fmt : f.fmt ≤ 1)
  (inputs : f.inbase % 128 = 0) (scales : f.scbase % 8 = 0)
  (inPlace : ∀ p ∈ positions f.posmask,
    inLarder (f.inbase + 512 * f.rpt + 128 * bits f.insel (2 * p) 2) 128 = true ∧
      inLarder (f.scbase + 32 * f.rpt + 8 * bits f.insel (2 * p) 2) 8 = true)
  (free : s.accumConflict k f.tile f.start (s.fgetS .ANCHOR_VALUE k f.areg) 0 = none)
include ready fmt inputs scales inPlace free

/-- ARRAY_MVM past the checks of R211 and R148: R142 decides. -/
theorem exec_arrayMvm : exec (.arrayMvm k m f) s = .next
    ((let no := s.fget .SEQ_ENTRY_NEXT k
      let a := s.fgetS .ANCHOR_VALUE k f.areg
      if s.mvmLow k no f a then (s.counted k).halt .anchorLow k no
      else ((positions f.posmask).foldl (fun s p => s.modPos k p fun x =>
            { x with reqs := x.reqs ++ (List.range (f.rpt + 1)).map fun r => ⟨no, f, r, a⟩ })
          (((s.counted k).enqueue k 1 { no := no, entry := .arrayMvm f, c := m, anchor := a, started := true }).openTile
            k f.tile f.start a 0)).tagCheck k).advance k) := by
  change execArrayMvm k m f s = _
  have aligned : ¬ (f.inbase % 128 ≠ 0 ∨ f.scbase % 8 ≠ 0 ∨ ¬ ((positions f.posmask).all fun p =>
      inLarder (f.inbase + 512 * f.rpt + 128 * bits f.insel (2 * p) 2) 128 &&
        inLarder (f.scbase + 32 * f.rpt + 8 * bits f.insel (2 * p) 2) 8) = true) := by
    simpa [inputs, scales] using inPlace
  unfold execArrayMvm
  refine congrArg _ ((issue_of_ready ready _).trans ?_)
  dsimp only
  rw [if_neg (by omega), if_neg aligned, fgetS_counted s k (by decide), accumConflict_counted, free, mvmLow_counted]
  rfl

end

/-! ### ARRAY_WRITE -/

/-- ARRAY_WRITE in FULL mode, its images in place. -/
theorem exec_arrayWriteFull {s : State} {k : Nat} {m : Cmn} {f : WriteFullF} (ready : s.ready k m (.arrayWriteFull f))
    (images : ∀ p ∈ positions f.posmask, imageBad (s.effAddr f.newImg + 34816 * p) = false ∧
      mappedRange (s.effAddr f.newImg + 34816 * p) 34816 = true) :
    exec (.arrayWriteFull k m f) s = .next
      ((((s.counted k).enqueue k 2
        { no := s.fget .SEQ_ENTRY_NEXT k, entry := .arrayWriteFull f, c := m, started := true }).queueWrites
          k (s.fget .SEQ_ENTRY_NEXT k) f.posmask f.bank f.tag (s.effAddr f.newImg) 0 false).advance k) := by
  change execArrayWriteFull k m f s = _
  have whole : (((positions f.posmask).map fun p => s.effAddr f.newImg + 34816 * p).any imageBad) = false := by
    simpa using fun p hp => (images p hp).1
  have inMemory : (((positions f.posmask).map fun p => s.effAddr f.newImg + 34816 * p).all
      fun x => mappedRange x 34816) = true := by
    simpa using fun p hp => (images p hp).2
  unfold execArrayWriteFull
  refine congrArg _ ((issue_of_ready ready _).trans ?_)
  dsimp only
  rw [show (s.counted k).effAddr f.newImg = s.effAddr f.newImg from rfl, whole, inMemory]
  rfl

/-- ARRAY_WRITE in DELTA mode, both images of each position in place. -/
theorem exec_arrayWriteDelta {s : State} {k : Nat} {m : Cmn} {f : WriteDeltaF} (ready : s.ready k m (.arrayWriteDelta f))
    (images : ∀ p ∈ positions f.posmask,
      imageBad (s.effAddr f.newImg + 34816 * p) = false ∧ mappedRange (s.effAddr f.newImg + 34816 * p) 34816 = true ∧
      imageBad (s.effAddr f.oldImg + 34816 * p) = false ∧ mappedRange (s.effAddr f.oldImg + 34816 * p) 34816 = true) :
    exec (.arrayWriteDelta k m f) s = .next
      ((((s.counted k).enqueue k 2
        { no := s.fget .SEQ_ENTRY_NEXT k, entry := .arrayWriteDelta f, c := m, started := true }).queueWrites
          k (s.fget .SEQ_ENTRY_NEXT k) f.posmask f.bank f.tag (s.effAddr f.newImg) (s.effAddr f.oldImg) true).advance k) := by
  change execArrayWriteDelta k m f s = _
  have whole : (((positions f.posmask).flatMap fun p =>
      [s.effAddr f.newImg + 34816 * p, s.effAddr f.oldImg + 34816 * p]).any imageBad) = false := by
    simp only [List.any_flatMap, List.any_eq_false, List.any_cons, List.any_nil, Bool.or_false, Bool.or_eq_true]
    intro p hp
    obtain ⟨new, -, old, -⟩ := images p hp
    simp [new, old]
  have inMemory : (((positions f.posmask).flatMap fun p =>
      [s.effAddr f.newImg + 34816 * p, s.effAddr f.oldImg + 34816 * p]).all fun x => mappedRange x 34816) = true := by
    simp only [List.all_flatMap, List.all_eq_true]
    intro p hp
    obtain ⟨-, new, -, old⟩ := images p hp
    simp [new, old]
  unfold execArrayWriteDelta
  refine congrArg _ ((issue_of_ready ready _).trans ?_)
  dsimp only
  rw [show (s.counted k).effAddr f.newImg = s.effAddr f.newImg from rfl,
    show (s.counted k).effAddr f.oldImg = s.effAddr f.oldImg from rfl, whole, inMemory]
  rfl

/-- Settles O23: each of the three entries passes its checks on the state as it was before SEQ_ENTRY counted on. -/
theorem arrayEntriesQueueTheirWork : Obligations.ArrayEntriesQueueTheirWork := by
  intro s k m
  dsimp only
  refine ⟨fun f ready fmt inputs scales inPlace free => ?_, fun f => exec_arrayWriteFull,
    fun f => exec_arrayWriteDelta⟩
  rw [exec_arrayMvm ready fmt inputs scales inPlace free]
  constructor
  · intro low
    rw [if_pos low]
  · intro high
    rw [if_neg (by simp [high])]

end Sys2Proof.Proofs
end

section
/-! PROOFS. Row writes: the columns that ROW_WRITE is told of as missed are not held to the 264 of an array's row, and a
level is listed under 264 × row + column (R67, R86). A FULL write pulses every column, so one beyond the row names a cell of
the next. -/

namespace Sys2Proof.Proofs

open Sys2Proof.Machine Sys2Proof.Laws

/-- A column beyond the row belongs to no segment. -/
theorem cellSegs_beyond (s : State) (c a r : Nat) {col : Nat} (h : 264 ≤ col) : s.cellSegs c a r [col] = [] := by
  have weight : ¬ col < 256 := by omega
  have spare : ¬ col < 264 := by omega
  simp [State.cellSegs, weight, spare]

/-- A FULL write leaves a level under a missed column's number, be it beyond the row. -/
theorem rowWrite_missed_beyond {s : State} {c a col : Nat} {j : WriteJob} (crosses : s.crosses (.rowWrite c a 3 [col]) = true)
    (job : (s.array c a).job = some j) (row : j.row < 256) (full : j.delta = false) (beyond : 264 ≤ col) :
    ∃ t, exec (.rowWrite c a 3 [col]) s = .next t ∧
      ((t.array c a).levels.find? (264 * j.row + col)).isSome = true := by
  have misses : [col].filter (fun x => s.pulses c a j j.row x) = [col] := by simp [State.pulses, full]
  refine ⟨_, clocked_of_crosses s crosses, ?_⟩
  rw [job]
  dsimp only
  rw [if_neg (by omega), if_pos rfl, misses, cellSegs_beyond _ _ _ _ beyond, State.logSegs, if_pos rfl, array_modArr]
  exact congrArg Option.isSome (find?_put_same _ _ _)

/-- Core 0 in the middle of a FULL write of array 0, at row 0. -/
def fullWrite : State :=
  { State.reset with cores := [(0, { arrays := [(0, { job := some { img := 0, tag := 0 } })] })] }

/-- The array has no marked column or converter, and no spare is reserved. -/
theorem fullWrite_unmarked : (fullWrite.array 0 0).cols = [] ∧ (fullWrite.pos 0 (0 % 4)).convs = [] ∧
    ∀ n, n < 4 → fullWrite.fon .SPARE_COL_PENDING 0 0 n = false := by
  decide

/-- Refutes O24: in its ROW_WRITE clause the missed columns are any numbers. With column 264 missed on the third attempt,
a level is listed under 264, the first cell of row 1, where `fullWrite` lists none. -/
theorem not_bankWritesProceed : ¬ Obligations.BankWritesProceed := by
  intro h
  have ⟨cols, convs, spares⟩ := fullWrite_unmarked
  have ⟨_, rowWrite, _⟩ := h fullWrite 0 0 (by decide) (by decide) cols convs spares
  have job : (fullWrite.array 0 0).job = some { img := 0, tag := 0 } := rfl
  have crosses : fullWrite.crosses (.rowWrite 0 0 3 [264]) = true := by decide
  have ⟨t, ht, listed⟩ := rowWrite_missed_beyond crosses job (by decide) rfl (le_refl 264)
  obtain ⟨t', ht', _, others, _⟩ := rowWrite _ 3 [264] job crosses (by decide) (by decide) (by decide)
  obtain rfl : t = t' := by simpa only [ht, Host.Outcome.next.injEq] using ht'
  have unlisted : (fullWrite.array 0 0).levels.find? 264 = none := rfl
  have kept := others 264 fun col hcol => by dsimp only; omega
  rw [show 264 * 0 + 264 = 264 from rfl, kept, unlisted] at listed
  exact absurd listed Bool.false_ne_true

end Sys2Proof.Proofs
end

section
/-! PROOFS. The watch unit (R99, R355, R356): what a recomputation leaves in its registers, and the mismatch it raises. -/

namespace Sys2Proof.Proofs

open Sys2Proof.Machine Sys2Proof.Laws

/-! ### A recomputation -/

/-- Distances of the sample's codes that no fix-up replaces from their products, each with its step (R356). -/
def watchDists (s : State) (w : WatchSample) : List (Nat × Nat) :=
  (w.codes.filter fun g => !g.fix).map fun g =>
    codeDist (mvmFmt w.fmt) w.gain g.code (s.segProduct w.img (mvmFmt w.fmt) w.inputs g.q g.col)

/-- Some code lies farther than 4 steps from its product. -/
def watchFar (s : State) (w : WatchSample) : Bool := (watchDists s w).any fun d => 4 * d.2 < d.1

/-- The oldest sample has left the watch unit and is counted; its largest distance is `worst` steps. -/
def watchCounted (s : State) (c : Nat) (rest : List WatchSample) (worst : Nat) : State :=
  let t := ((s.modCore c fun k => { k with watch := rest }).watchLevel c).fcount .WATCH_COUNT_SAMPLES 1 c
  t.fset .WATCH_STATUS_WORST (min 255 (max worst (t.fget .WATCH_STATUS_WORST c))) c

/-- The attempt's first mismatch leaves its array's number (R356). -/
def watchMarked (s : State) (c a : Nat) : State :=
  if (s.core c).watchFound then s
  else (s.fset .WATCH_STATUS_ARRAY a c).modCore c fun k => { k with watchFound := true }

/-- WATCH_RECOMPUTE of the oldest sample, no word of its image uncorrectable. -/
theorem exec_watchRecompute {s : State} {c : Nat} {w : WatchSample} {rest : List WatchSample}
    (crosses : s.crosses (.watchRecompute c) = true) (watch : (s.core c).watch = w :: rest) (sound : s.memBad = []) :
    exec (.watchRecompute c) s = .next
      ((let t := watchCounted s c rest (((watchDists s w).map fun d => d.1 / d.2).foldl max 0)
        if watchFar s w then (watchMarked t c w.array).raise .watchMismatch c w.array else t).advance c) := by
  refine (clocked_of_crosses s crosses).trans ?_
  rw [watch]
  dsimp only
  rw [badIn_of_memBad sound]
  rfl

section
variable (s : State) (c : Nat) (rest : List WatchSample) (worst : Nat)

theorem watchCounted_core : (watchCounted s c rest worst).core c = { s.core c with watch := rest } := by
  rw [watchCounted, core_fset, core_fcount, State.watchLevel, core_fset, core_fset, core_modCore]

theorem watchCounted_mem : (watchCounted s c rest worst).mem = s.mem := by
  simp [watchCounted, State.watchLevel]

theorem watchCounted_level : (watchCounted s c rest worst).fget .WATCH_STATUS_LEVEL c = rest.length % 8 := by
  simp (disch := decide) only [watchCounted, State.watchLevel, fget_fset_apart, fget_fcount_apart, fget_fset, core_modCore]
  rfl

theorem watchCounted_samples : (watchCounted s c rest worst).fget .WATCH_COUNT_SAMPLES c =
    min 65535 (s.fget .WATCH_COUNT_SAMPLES c + 1) := by
  simp (disch := decide) only [watchCounted, State.watchLevel, fget_fset_apart, fget_fcount, fget_modCore]
  rfl

theorem watchCounted_mismatch : (watchCounted s c rest worst).fget .WATCH_STATUS_WATCH_MISMATCH c =
    s.fget .WATCH_STATUS_WATCH_MISMATCH c := by
  simp (disch := decide) only [watchCounted, State.watchLevel, fget_fset_apart, fget_fcount_apart, fget_modCore]

theorem watchCounted_seqState : (watchCounted s c rest worst).seqState c = s.seqState c := by
  simp (disch := decide) only [watchCounted, State.watchLevel, State.seqState, fget_fset_apart, fget_fcount_apart,
    fget_modCore]

variable {s c}

theorem watchCounted_calm (calm : s.calm c) : (watchCounted s c rest worst).calm c := by
  obtain ⟨main, idle⟩ := calm
  refine ⟨(watchCounted_seqState s c rest worst).trans main, ?_⟩
  rw [watchCounted_core]
  exact idle

end

/-- WATCH_RECOMPUTE of a sample without codes compares nothing. -/
theorem exec_watchRecompute_empty {s : State} {c : Nat} {w : WatchSample} {rest : List WatchSample}
    (crosses : s.crosses (.watchRecompute c) = true) (watch : (s.core c).watch = w :: rest) (codes : w.codes = [])
    (calm : s.calm c) (hold : (s.core c).hold = none) (sound : s.memBad = []) :
    exec (.watchRecompute c) s = .next (watchCounted s c rest 0) := by
  have none : watchDists s w = [] := by rw [watchDists, codes]; rfl
  have near : watchFar s w = false := by rw [watchFar, none]; rfl
  rw [exec_watchRecompute crosses watch sound, near, none]
  have still : ((watchCounted s c rest 0).core c).hold = Option.none := by rw [watchCounted_core]; exact hold
  exact congrArg _ (advance_of_calm (watchCounted_calm rest 0 calm) still)

/-! ### A mismatch -/

section
variable {s : State} {c : Nat} (a : Nat) (unfound : (s.core c).watchFound = false)
include unfound

theorem watchMarked_first :
    watchMarked s c a = (s.fset .WATCH_STATUS_ARRAY a c).modCore c fun k => { k with watchFound := true } :=
  if_neg (by simp [unfound])

theorem watchMarked_core : (watchMarked s c a).core c = { s.core c with watchFound := true } := by
  rw [watchMarked_first a unfound, core_modCore, core_fset]

theorem watchMarked_seqState : (watchMarked s c a).seqState c = s.seqState c := by
  rw [watchMarked_first a unfound, State.seqState, fget_modCore, fget_fset_apart _ (by decide), State.seqState]

theorem watchMarked_array : (watchMarked s c a).fget .WATCH_STATUS_ARRAY c = a % 8 := by
  rw [watchMarked_first a unfound, fget_modCore, fget_fset _ _ _ _ _ _ (by decide)]
  rfl

end

/-- A field after WATCH_MISMATCH was raised in the attempt. -/
theorem fget_raiseIn_watchMismatch (s : State) (c u : Nat) (f : Fld) :
    (s.raiseIn .watchMismatch (some c) u).fget f c = (s.fset .WATCH_STATUS_WATCH_MISMATCH 1 c).fget f c :=
  fget_congr (raiseIn_regs s .watchMismatch (some c) u) f c 0 0

/-- The attempt's first mismatch of a calm core that nothing holds: raised, with the array's number, and no more. -/
theorem watchMismatch_of_calm {s : State} {c : Nat} (a : Nat) (calm : s.calm c) (hold : (s.core c).hold = none)
    (unfound : (s.core c).watchFound = false) :
    ((watchMarked s c a).raise .watchMismatch c a).advance c =
      (watchMarked s c a).raiseIn .watchMismatch (some c) a := by
  obtain ⟨main, idle⟩ := calm
  have marked : (watchMarked s c a).seqState c = 1 := (watchMarked_seqState a unfound).trans main
  have core : ((watchMarked s c a).raiseIn .watchMismatch (some c) a).core c = { s.core c with watchFound := true } := by
    rw [State.core, raiseIn_cores, ← State.core, watchMarked_core a unfound]
  rw [raise_of_main marked]
  refine advance_of_calm ⟨?_, ?_⟩ ?_
  · rw [State.seqState, fget_raiseIn_watchMismatch, fget_fset_apart _ (by decide)]
    exact marked
  · rw [core]; exact idle
  · rw [core]; exact hold

/-- Settles O26: the mismatch is raised in the attempt, and nothing follows on a calm core. -/
theorem watchMismatchIsRaised : Obligations.WatchMismatchIsRaised := by
  intro s c w rest _ crosses watch calm hold sound unfound ⟨g, mem, code, dist⟩
  have far : watchFar s w = true := by
    refine List.any_eq_true.2 ⟨_, List.mem_map_of_mem (List.mem_filter.2 ⟨mem, ?_⟩), decide_eq_true dist⟩
    rw [code, Bool.not_false]
  rw [exec_watchRecompute crosses watch sound]
  dsimp only
  rw [if_pos far]
  generalize ((watchDists s w).map fun d => d.1 / d.2).foldl max 0 = worst
  have core := watchCounted_core s c rest worst
  have counted : ((watchCounted s c rest worst).core c).watchFound = false := by rw [core]; exact unfound
  rw [watchMismatch_of_calm w.array (watchCounted_calm rest worst calm) (by rw [core]; exact hold) counted]
  refine ⟨_, rfl, ?_, ?_, raiseIn_raised _ _ _ _⟩
  · rw [fget_raiseIn_watchMismatch, fget_fset _ _ _ _ _ _ (by decide)]
    rfl
  · rw [fget_raiseIn_watchMismatch, fget_fset_apart _ (by decide), watchMarked_array _ counted]

end Sys2Proof.Proofs
end

section
/-! PROOFS. From a converted slot to its terms (R76 to R82): codes of every driven segment, terms and fix-ups. -/

namespace Sys2Proof.Proofs

open Sys2Proof.Machine Sys2Proof.Laws

/-! ### Codes -/

theorem codeOf_lt (steps : Int) : codeOf steps < 256 := by
  unfold codeOf
  omega

/-- A code inside the band is a code. -/
theorem band_hold_lt (b : Band) (d : Nat) (v x : Int) (tail : Bool) : (b.hold d v x tail).1 < 256 := codeOf_lt _

section
variable (s : State) (c : Nat) (h : Hold) (r : SlotReq) (p : Nat)

/-- Each segment gets one code, in order. -/
theorem codesFrom_segs (segs : List (Nat × Nat)) (n : Nat) (b : Band) :
    (s.codesFrom c h r p segs n b).1.map (fun g => (g.q, g.col)) = segs := by
  induction segs generalizing n b with
  | nil => rfl
  | cons g segs ih => simp [State.codesFrom, ih]

/-- Every code fits its 8 bits. -/
theorem codesFrom_lt (segs : List (Nat × Nat)) (n : Nat) (b : Band) :
    ∀ g ∈ (s.codesFrom c h r p segs n b).1, g.code < 256 := by
  induction segs generalizing n b with
  | nil => simp [State.codesFrom]
  | cons g segs ih =>
    simp only [State.codesFrom, List.mem_cons, forall_eq_or_imp]
    refine ⟨?_, ih _ _⟩
    split
    · exact codeOf_lt _
    · exact band_hold_lt _ _ _ _ _

/-- The over-range flags of a slot stand outside the cores. -/
@[simp] theorem cores_overRange (a tag n : Nat) : (s.overRange c a tag n).cores = s.cores := by
  unfold State.overRange
  split
  · rfl
  · simp [State.arrStat, State.countCode]

@[simp] theorem mem_overRange (a tag n : Nat) : (s.overRange c a tag n).mem = s.mem := by
  unfold State.overRange
  split
  · rfl
  · simp [State.arrStat, State.countCode]

end

/-- READOUT_CONVERSION of a lone slot that the watch unit does not sample. -/
theorem exec_readoutConversion {s : State} {c p : Nat} {reads : List CalRead} {h : Hold} {r : SlotReq}
    (crosses : s.crosses (.readoutConversion c p reads) = true) (lone : (s.pos c p).holds = [h]) (slot : h.req = some r)
    (fresh : h.codes = none) (plain : h.sampled = false) :
    ∃ t cs, exec (.readoutConversion c p reads) s = .next t ∧ (t.pos c p).holds = [{ h with codes := some cs }] ∧
      cs.map (fun g => (g.q, g.col)) = drivenSegs (mvmFmt r.f.fmt) h.inputs ∧ (∀ g ∈ cs, g.code < 256) ∧
      t.mem = s.mem := by
  have oldest : (s.pos c p).holds.find? (·.codes.isNone) = some h := by simp [lone, fresh]
  refine ⟨_, ((s.draw 2048).2.slotCodes c h r p (s.draw 2048).1).1, clocked_of_crosses s crosses, ?_⟩
  rw [oldest]
  dsimp only
  rw [slot]
  dsimp only
  rw [if_neg (by simp [plain])]
  refine ⟨?_, codesFrom_segs _ _ _ _ _ _ _ _, codesFrom_lt _ _ _ _ _ _ _ _, ?_⟩
  · rw [State.pos, State.core, cores_overRange, ← State.core, ← State.pos, pos_modPos]
    change setHold _ _ (s.pos c p).holds = _
    rw [lone]
    simp [setHold, fresh, slot]
  · rw [mem_overRange]
    rfl

/-! ### Terms -/

/-- While the fix-up queue has room, every code moves on (R82). -/
theorem takeCodes_of_room {room : Nat} {cs : List SegCode} (h : (cs.filter (·.fix)).length ≤ room) :
    takeCodes room cs = (cs, []) := by
  induction cs generalizing room with
  | nil => cases room <;> rfl
  | cons g cs ih =>
    cases fix : g.fix with
    | false => simp [takeCodes, fix, ih (room := room) (by simpa [fix] using h)]
    | true =>
      obtain ⟨n, rfl⟩ : ∃ n, room = n + 1 := ⟨room - 1, by simp [fix] at h; omega⟩
      simp [takeCodes, fix, ih (room := n) (by simpa [fix] using h)]

section
variable (s : State) (c t : Nat) (anchor : Int) (layer : Nat) (ts : List Term)

/-- Terms change the tile of their core. -/
theorem core_addTerms : ∃ x, (s.addTerms c t anchor layer ts).core c = (s.core c).setTile t x := by
  refine ⟨(ts.foldl (Tile.addTerm anchor) ((s.core c).tile t, 0, false)).1, ?_⟩
  unfold State.addTerms
  dsimp only
  rw [← core_modCore s c (·.setTile t _)]
  split <;> split <;> simp [State.core, State.headroom, State.countCode]

@[simp] theorem pos_addTerms (p : Nat) : (s.addTerms c t anchor layer ts).pos c p = s.pos c p := by
  obtain ⟨x, core⟩ := core_addTerms s c t anchor layer ts
  obtain ⟨g0, g1, tiles⟩ := setTile_eq (s.core c) t x
  rw [State.pos, core, tiles, State.pos]

@[simp] theorem fixups_addTerms : ((s.addTerms c t anchor layer ts).core c).fixups = (s.core c).fixups := by
  obtain ⟨x, core⟩ := core_addTerms s c t anchor layer ts
  obtain ⟨g0, g1, tiles⟩ := setTile_eq (s.core c) t x
  rw [core, tiles]

@[simp] theorem mem_addTerms : (s.addTerms c t anchor layer ts).mem = s.mem := by
  unfold State.addTerms
  dsimp only
  split <;> split <;> simp [State.headroom, State.countCode]

end

/-- The terms of a slot's codes that need no fix-up (R79). -/
def slotTerms (h : Hold) (r : SlotReq) (p : Nat) (cs : List SegCode) : List Term :=
  (cs.filter fun g => !g.fix).map fun g => ⟨slotElem r.f p r.r g.col, (g.code : Int) - 128,
    (h.scales.getD g.q 0 : Int) + (h.wsc.read (256 * g.q + g.col)).toNat - 254 + 4 - (bits r.f.gain (2 * p) 2 : Nat)⟩

/-- The fix-ups of its other codes (R81). -/
def slotFixups (h : Hold) (r : SlotReq) (p : Nat) (cs : List SegCode) : List Fixup :=
  (cs.filter (·.fix)).map fun g =>
    ⟨h.array, g.q, g.col, (h.inputs.drop (32 * g.q)).take 32, r.f.fmt, h.scales.getD g.q 0,
      (h.wsc.read (256 * g.q + g.col)).toNat, h.img, r.f.tag, r.f.tile, slotElem r.f p r.r g.col, r.entryNo, r.anchor, g.miss⟩

/-- The oldest converted hold set is free, and its fix-ups stand in the queue (R75, R81). -/
def holdFreed (s : State) (c p : Nat) (fx : List Fixup) : State :=
  ((s.modPos c p fun x => { x with holds := setHold (·.codes.isSome) (fun _ => none) x.holds }).modCore c fun k =>
    { k with fixups := k.fixups ++ fx }).fixLevel c

section
variable (s : State) (c p : Nat) (fx : List Fixup)

theorem holdFreed_pos : (holdFreed s c p fx).pos c p =
    { s.pos c p with holds := setHold (·.codes.isSome) (fun _ => none) (s.pos c p).holds } := by
  simp [holdFreed, State.fixLevel, State.pos, State.modPos, core_modCore]

theorem holdFreed_fixups : ((holdFreed s c p fx).core c).fixups = (s.core c).fixups ++ fx := by
  simp [holdFreed, State.fixLevel, State.modPos, core_modCore]

theorem holdFreed_tile (i : Nat) : ((holdFreed s c p fx).core c).tile i = (s.core c).tile i := by
  rw [holdFreed, State.fixLevel, core_fset, core_modCore, State.modPos, core_modCore]
  rfl

theorem holdFreed_mem : (holdFreed s c p fx).mem = s.mem := by
  simp [holdFreed, State.fixLevel, State.modPos]

end

/-- CODE_TERM_ADD of a lone converted slot, no scale of its driven segments 0xFF and the fix-up queue with room. -/
theorem exec_codeTermAdd {s : State} {c p : Nat} {h : Hold} {r : SlotReq} {cs : List SegCode}
    (crosses : s.crosses (.codeTermAdd c p) = true) (lone : (s.pos c p).holds = [h]) (slot : h.req = some r)
    (codes : h.codes = some cs) (scaled : ∀ g ∈ cs, h.scales.getD g.q 0 ≠ 255 ∧ h.wsc.read (256 * g.q + g.col) ≠ 255)
    (room : (s.core c).fixups.length + cs.length ≤ 1024) :
    exec (.codeTermAdd c p) s = .next
      (holdFreed (s.addTerms c r.f.tile r.anchor (layerOfEntry c r.entryNo) (slotTerms h r p cs)) c p
        (slotFixups h r p cs)) := by
  have oldest : (s.pos c p).holds.find? (·.codes.isSome) = some h := by simp [lone, codes]
  have live : cs.filter (fun g =>
      !(decide (h.scales.getD g.q 0 = 255) || decide (h.wsc.read (256 * g.q + g.col) = 255))) = cs :=
    List.filter_eq_self.2 fun g hg => by simpa using scaled g hg
  have numbers : (cs.any fun g =>
      decide (h.scales.getD g.q 0 = 255) || decide (h.wsc.read (256 * g.q + g.col) = 255)) = false := by
    simpa using scaled
  have fits : (cs.filter (·.fix)).length ≤ 1024 - (s.core c).fixups.length := by
    have := List.length_filter_le (·.fix) cs
    omega
  refine (clocked_of_crosses s crosses).trans ?_
  rw [oldest]
  dsimp only
  rw [slot, codes]
  dsimp only
  rw [live, takeCodes_of_room fits, numbers]
  rfl

/-- FIXUP of a segment that was not logged, in sound memory. -/
theorem exec_fixup {s : State} {c : Nat} {x : Fixup} {rest : List Fixup} (crosses : s.crosses (.fixup c) = true)
    (oldest : (s.core c).fixups = x :: rest) (plain : x.miss = false) (sound : s.memBad = []) :
    exec (.fixup c) s = .next
      ((((s.addTerms c x.tile x.anchor (layerOfEntry c x.entryNo)
        [⟨x.elem, ((List.range 32).map fun k => ((intForm (mvmFmt x.fmt) (x.inputs.getD k 0)).getD 0) *
            signed 4 (s.imgCode x.img (32 * x.q + k) x.col)).foldl (· + ·) 0,
          (x.sx : Int) + x.sw - 254 + (mvmFmt x.fmt).u⟩]).modCore c fun k => { k with fixups := rest }).fixLevel
        c).advance c) := by
  refine (clocked_of_crosses s crosses).trans ?_
  rw [oldest]
  dsimp only
  rw [badIn_of_memBad sound, if_neg (by simp [plain])]
  rfl

end Sys2Proof.Proofs
end

section
/-! PROOFS. SLOT_GRANT (R74, R75, R91, R94): a request whose bank is READY integrates in a free hold set. -/

namespace Sys2Proof.Proofs

open Sys2Proof.Machine Sys2Proof.Laws

/-! ### Bank states -/

theorem bankState_setBank (s : State) (c a st : Nat) : (s.setBank c a st).bankState c a = st % 8 :=
  fget_fset s .ARRAY_STATUS_STATE st c a 0 (by decide)

theorem bankState_setBank_ne (s : State) {c a b : Nat} (ha : a < 8) (hb : b < 8) (h : b ≠ a) (st : Nat) :
    (s.setBank c a st).bankState c b = s.bankState c b := by
  refine fget_fset_off s .ARRAY_STATUS_STATE .ARRAY_STATUS_STATE st c a 0 c b 0 ?_
  simp only [Fld.addr, Fld.ARRAY_STATUS_STATE]
  omega

section
variable (s : State) (c a p d b : Nat)

@[simp] theorem bankState_modArr (f : Arr → Arr) : (s.modArr c a f).bankState d b = s.bankState d b := rfl
@[simp] theorem bankState_modPos (f : Pos → Pos) : (s.modPos c p f).bankState d b = s.bankState d b := rfl
@[simp] theorem bankState_arrStat (f : Stats → Stats) : (s.arrStat f).bankState d b = s.bankState d b := rfl
@[simp] theorem pos_arrStat (f : Stats → Stats) : (s.arrStat f).pos c p = s.pos c p := rfl
@[simp] theorem pos_setBank (st : Nat) : (s.setBank c a st).pos d p = s.pos d p := rfl

end

/-- The bank's other array of the position. -/
theorem otherArray {p b : Nat} (hp : p < 4) (hb : b < 2) :
    (if p + 4 * b < 4 then p + 4 * b + 4 else p + 4 * b - 4) = p + 4 * (1 - b) := by
  split <;> omega

/-! ### The wide reference of a slot -/

/-- It adds to a tile of its core, or nothing. -/
theorem wideSlot_cases (s : State) (c p : Nat) (r : SlotReq) (img : Nat) (inputs scales : List Nat) :
    s.wideSlot c p r img inputs scales = s ∨
      ∃ g : Core → Tile, s.wideSlot c p r img inputs scales = s.modCore c fun k => k.setTile r.f.tile (g k) := by
  unfold State.wideSlot
  split
  · exact .inl rfl
  · next on =>
    rw [State.addWide, if_neg on]
    exact .inr ⟨_, rfl⟩

section
variable (s : State) (c p : Nat) (r : SlotReq) (img : Nat) (inputs scales : List Nat)

@[simp] theorem pos_wideSlot (q : Nat) : (s.wideSlot c p r img inputs scales).pos c q = s.pos c q := by
  obtain e | ⟨g, e⟩ := wideSlot_cases s c p r img inputs scales
  · rw [e]
  · obtain ⟨_, _, tiles⟩ := setTile_eq (s.core c) r.f.tile (g (s.core c))
    rw [e, State.pos, core_modCore, tiles, State.pos]

@[simp] theorem bankState_wideSlot (a : Nat) : (s.wideSlot c p r img inputs scales).bankState c a = s.bankState c a := by
  obtain e | ⟨g, e⟩ := wideSlot_cases s c p r img inputs scales <;> rw [e]
  rfl

@[simp] theorem mem_wideSlot : (s.wideSlot c p r img inputs scales).mem = s.mem := by
  obtain e | ⟨g, e⟩ := wideSlot_cases s c p r img inputs scales <;> rw [e]
  rfl

end

/-! ### The slot boundary -/

/-- The state in which the slot is offered: a stopped pass has ended, and the slot counts towards the next borrowed one. -/
def atBoundary (s : State) (c p : Nat) : State :=
  (s.calStopped c p).modPos c p fun x => { x with sinceBorrow := min 15 (x.sinceBorrow + 1) }

section
variable (s : State) (c p : Nat)

/-- A pass that ends changes its position and two bits of CAL_STATUS. -/
theorem calStopped_cases : s.calStopped c p = s ∨ s.calStopped c p =
    ((s.modPos c p fun x => { x with cal := none, calStop := false, holds := x.holds.filter fun h => h.calArray.isNone }).fset
      .CAL_STATUS_RUNNING 0 c p).fset .CAL_STATUS_STARVED 0 c p := by
  unfold State.calStopped
  split
  · exact .inl rfl
  · exact .inr rfl

theorem atBoundary_core : ∃ ps, (atBoundary s c p).core c = { s.core c with poss := ps } := by
  obtain e | e := calStopped_cases s c p <;>
  · rw [atBoundary, e]
    simp only [State.modPos, core_modCore, core_fset]
    exact ⟨_, rfl⟩

theorem atBoundary_reqs : ((atBoundary s c p).pos c p).reqs = (s.pos c p).reqs := by
  obtain e | e := calStopped_cases s c p <;>
  · rw [atBoundary, e]
    simp only [pos_modPos, pos_fset]

/-- A position with no hold set in use has none in use at the boundary. -/
theorem atBoundary_holds {q : Nat} (free : (s.pos c q).holds = []) : ((atBoundary s c p).pos c q).holds = [] := by
  by_cases hq : q = p
  · subst hq
    obtain e | e := calStopped_cases s c q <;>
    · rw [atBoundary, e]
      simp only [pos_modPos, pos_fset, free, List.filter_nil]
  · obtain e | e := calStopped_cases s c p <;>
    · rw [atBoundary, e]
      simpa only [pos_modPos_ne _ _ _ hq, pos_fset] using free

/-- A field below CAL_STATUS, or outside the section of the arrays. -/
theorem atBoundary_fget {f : Fld} {i : Nat} (hp : p < 4) (below : f.sec = .array → f.addr i 0 < 0x80) :
    (atBoundary s c p).fget f c i = s.fget f c i := by
  have apart : ∀ g : Fld, g.sec = .array → g.addr p 0 = 0x80 + 4 * p → fldsApart g p 0 f i 0 = true := by
    intro g sec addr
    by_cases hf : f.sec = .array
    · have : f.addr i 0 % 65536 ≠ g.addr p 0 % 65536 := by
        have := below hf
        omega
      simp [fldsApart, this]
    · simp [fldsApart, sec, hf]
  obtain e | e := calStopped_cases s c p <;> rw [atBoundary, e, State.modPos, fget_modCore]
  rw [fget_fset_apart _ (apart _ rfl rfl), fget_fset_apart _ (apart _ rfl rfl), State.modPos, fget_modCore]

theorem atBoundary_plan : (atBoundary s c p).plan = s.plan := by
  obtain e | e := calStopped_cases s c p <;> rw [atBoundary, e] <;> rfl

theorem atBoundary_mem : (atBoundary s c p).mem = s.mem := by
  obtain e | e := calStopped_cases s c p <;> rw [atBoundary, e] <;> rfl

end

/-! ### The grant -/

/-- A request is next at its position, its bank READY under its tag and settled, the position's other bank ACTIVE. -/
structure Offered (s : State) (c p : Nat) (r : SlotReq) (rest : List SlotReq) : Prop where
  reqs : (s.pos c p).reqs = r :: rest
  holds : ∀ q, q < 4 → (s.pos c q).holds = []
  watch : (s.core c).watch = []
  running : s.halted c = false
  analog : s.plan.refMode = false
  bank : r.f.bank < 2
  ready : s.bankState c (p + 4 * r.f.bank) = 2
  active : s.bankState c (p + 4 * (1 - r.f.bank)) = 3
  written : s.writeBefore c (p + 4 * r.f.bank) r.entryNo = false
  idle : (s.array c (p + 4 * r.f.bank)).job = none
  tag : s.fget .ARRAY_STATUS_LAYER_TAG c (p + 4 * r.f.bank) = r.f.tag
  driven : (List.range 8).all (groupZero (mvmFmt r.f.fmt) (s.slotInputs c p r).1) = false
  anchored : slotLow (mvmFmt r.f.fmt) r.anchor (s.slotInputs c p r).2 (s.array c (p + 4 * r.f.bank)).scales = false

section
variable {s : State} {c p : Nat} {r : SlotReq} {rest : List SlotReq}

theorem Offered.bankSettled (o : Offered s c p r rest) : s.bankSettled c (p + 4 * r.f.bank) r.entryNo = true := by
  simp [State.bankSettled, o.ready, o.written, o.idle]

/-- No slot waits for the watch unit. -/
theorem Offered.unsampled (o : Offered s c p r rest) :
    ((List.range 4).map fun q => ((s.pos c q).holds.filter fun h => h.sampled && h.codes.isNone).length).foldl (· + ·) 0 = 0 := by
  have none : ∀ q ∈ List.range 4, ((s.pos c q).holds.filter fun h => h.sampled && h.codes.isNone).length = 0 :=
    fun q hq => by rw [o.holds q (List.mem_range.1 hq)]; rfl
  rw [List.map_congr_left none]
  rfl

end

/-- The bank is connected in the other one's place (R91), and the request has left its position. -/
def slotTaken (s : State) (c p : Nat) (r : SlotReq) (rest : List SlotReq) : State :=
  (((s.setBank c (p + 4 * (1 - r.f.bank)) 2).setBank c (p + 4 * r.f.bank) 3).modPos c p fun x =>
    { x with reqs := rest }).wideSlot c p r (s.array c (p + 4 * r.f.bank)).img (s.slotInputs c p r).1 (s.slotInputs c p r).2

/-- The hold set of the slot, with what is in force at the grant (R75, R81, R86). -/
def slotHold (s : State) (c p : Nat) (r : SlotReq) (rest : List SlotReq) : Hold :=
  let x := s.array c (p + 4 * r.f.bank)
  { req := some r, inputs := (s.slotInputs c p r).1, scales := (s.slotInputs c p r).2, img := x.img, wsc := x.scales
    logged := (slotTaken s c p r rest).logged c (p + 4 * r.f.bank)
    sampled := (x.slotNo + s.job.stepCounter + 1) % 2 ^ s.job.watchRate = 0, array := p + 4 * r.f.bank }

/-- The slot integrates, and counts (R75, R103). -/
def slotIntegrated (s : State) (c p : Nat) (r : SlotReq) (rest : List SlotReq) : State :=
  (((slotTaken s c p r rest).modPos c p fun x => { x with holds := x.holds ++ [slotHold s c p r rest] }).modArr c
    (p + 4 * r.f.bank) fun x => { x with slotNo := x.slotNo + 1 }).arrStat fun t => { t with
      arraySlots := layerCount t.arraySlots r.f.tag 1
      zeroGroups := layerCount t.zeroGroups r.f.tag
        ((List.range 8).filter (groupZero (mvmFmt r.f.fmt) (s.slotInputs c p r).1)).length }

section
variable (s : State) (c p : Nat) (r : SlotReq) (rest : List SlotReq)

theorem slotIntegrated_pos : (slotIntegrated s c p r rest).pos c p =
    { s.pos c p with reqs := rest, holds := (s.pos c p).holds ++ [slotHold s c p r rest] } := by
  simp only [slotIntegrated, slotTaken, pos_arrStat, pos_modArr, pos_modPos, pos_wideSlot, pos_setBank]

theorem slotIntegrated_bankState (a : Nat) : (slotIntegrated s c p r rest).bankState c a =
    ((s.setBank c (p + 4 * (1 - r.f.bank)) 2).setBank c (p + 4 * r.f.bank) 3).bankState c a := by
  rw [slotIntegrated, bankState_arrStat, bankState_modArr, bankState_modPos, slotTaken, bankState_wideSlot,
    bankState_modPos]

theorem slotIntegrated_mem : (slotIntegrated s c p r rest).mem = s.mem := by
  simp only [slotIntegrated, State.arrStat, State.modArr, State.modPos, modCore_mem, slotTaken, mem_wideSlot, State.setBank,
    fset_mem]

variable {s c p r rest}

/-- The offered slot integrates. -/
theorem Offered.granted (o : Offered s c p r rest) (hp : p < 4) (fuel : Nat) :
    s.offer c p (fuel + 1) = .granted (slotIntegrated s c p r rest) := by
  rw [State.offer, o.reqs]
  dsimp only
  rw [if_neg (by simp [o.running, o.bankSettled]), if_neg (by simp [o.tag]), o.anchored, if_neg Bool.false_ne_true,
    o.ready, o.analog, o.driven, if_neg (by decide), if_neg (by simp [o.holds p hp]),
    if_neg (by simp [o.watch, o.unsampled]), if_neg (by decide), otherArray hp o.bank, if_pos o.active, if_pos rfl]
  rfl

end

/-! ### SLOT_GRANT -/

section
variable {s : State} {c p : Nat} {r : SlotReq} {rest : List SlotReq}

theorem atBoundary_bankState {a : Nat} (hp : p < 4) (ha : a < 8) : (atBoundary s c p).bankState c a = s.bankState c a := by
  refine atBoundary_fget s c p hp fun _ => ?_
  simp only [Fld.addr, Fld.ARRAY_STATUS_STATE]
  omega

theorem atBoundary_array (a : Nat) : (atBoundary s c p).array c a = s.array c a := by
  obtain ⟨ps, core⟩ := atBoundary_core s c p
  rw [State.array, core, State.array]
  rfl

theorem atBoundary_slotInputs : (atBoundary s c p).slotInputs c p r = s.slotInputs c p r := by
  obtain ⟨ps, core⟩ := atBoundary_core s c p
  rw [State.slotInputs, State.slotScales, core, State.slotInputs, State.slotScales]

/-- What is offered is offered at the boundary. -/
theorem Offered.atBoundary (o : Offered s c p r rest) (hp : p < 4) : Offered (atBoundary s c p) c p r rest := by
  have bank := o.bank
  obtain ⟨ps, core⟩ := atBoundary_core s c p
  exact
    { reqs := (atBoundary_reqs s c p).trans o.reqs
      holds := fun q hq => atBoundary_holds s c p (o.holds q hq)
      watch := by rw [core]; exact o.watch
      running := by rw [State.halted, State.seqState, atBoundary_fget s c p hp (by decide)]; exact o.running
      analog := by rw [atBoundary_plan]; exact o.analog
      bank := bank
      ready := (atBoundary_bankState hp (by omega)).trans o.ready
      active := (atBoundary_bankState hp (by omega)).trans o.active
      written := by rw [State.writeBefore, atBoundary_array]; exact o.written
      idle := by rw [atBoundary_array]; exact o.idle
      tag := by
        rw [atBoundary_fget s c p hp fun _ => ?_]
        · exact o.tag
        · simp only [Fld.addr, Fld.ARRAY_STATUS_LAYER_TAG]
          omega
      driven := by rw [atBoundary_slotInputs]; exact o.driven
      anchored := by rw [atBoundary_slotInputs, atBoundary_array]; exact o.anchored }

/-- SLOT_GRANT of an offered slot, no refresh enabled. -/
theorem exec_slotGrant {still : List Nat} (o : Offered s c p r rest) (hc : c < 4096) (hp : p < 4)
    (crosses : s.crosses (.slotGrant c p still) = true) (plain : s.fon .ARRAY_CTRL_REFRESH_EN c = false) :
    exec (.slotGrant c p still) s = .next (slotIntegrated (atBoundary s c p) c p r rest) := by
  have place : ¬ ((!coreOk c) = true ∨ 4 ≤ p) := by simp [coreOk, hc, hp]
  have on : (atBoundary s c p).fon .ARRAY_CTRL_REFRESH_EN c = false := by
    rw [State.fon, atBoundary_fget s c p hp (by decide)]
    exact plain
  refine (clocked_of_crosses s crosses).trans (congrArg _ ?_)
  rw [if_neg place]
  dsimp only
  rw [← atBoundary, on]
  simp only [Bool.false_and, (o.atBoundary hp).granted hp]
  cases (atBoundary s c p).connected c p <;> rfl

end

/-- Settles O25: each command of a slot's life, by the lemma that says what it leaves. -/
theorem slotsBecomeTerms : Obligations.SlotsBecomeTerms := by
  intro s c p hc hp
  refine ⟨?_, ?_, ?_, ?_, ?_⟩
  · intro r rest still reqs holds _ watch plain crosses running analog bank ready active written idle tag driven anchored
    have offered : Offered s c p r rest :=
      ⟨reqs, holds, watch, running, analog, bank, ready, active, written, idle, tag, driven, anchored⟩
    have state := slotIntegrated_bankState (atBoundary s c p) c p r rest
    refine ⟨_, slotHold (atBoundary s c p) c p r rest, exec_slotGrant offered hc hp crosses plain, ?_, ?_, rfl, ?_, ?_, rfl,
      ?_, ?_, ?_, ?_⟩
    · rw [slotIntegrated_pos]
    · rw [slotIntegrated_pos, atBoundary_holds s c p (holds p hp)]
      rfl
    · exact congrArg Prod.fst atBoundary_slotInputs
    · exact congrArg Prod.snd atBoundary_slotInputs
    · exact congrArg Arr.img (atBoundary_array _)
    · rw [state, bankState_setBank]
    · rw [state, bankState_setBank_ne _ (by omega) (by omega) (by omega), bankState_setBank]
    · exact (slotIntegrated_mem ..).trans (atBoundary_mem s c p)
  · intro h r reads crosses lone slot fresh plain
    exact exec_readoutConversion crosses lone slot fresh plain
  · intro h r cs crosses lone slot codes scaled room
    refine ⟨_, exec_codeTermAdd crosses lone slot codes scaled room, ?_, ?_, holdFreed_tile _ _ _ _, ?_⟩
    · rw [holdFreed_pos, pos_addTerms, lone]
      simp [setHold, codes]
    · rw [holdFreed_fixups, fixups_addTerms, List.length_append, slotFixups, List.length_map]
    · rw [holdFreed_mem, mem_addTerms]
  · intro x rest crosses oldest plain sound
    exact exec_fixup crosses oldest plain sound
  · intro w rest crosses oldest codes calm hold sound
    exact ⟨_, exec_watchRecompute_empty crosses oldest codes calm hold sound, by rw [watchCounted_core],
      watchCounted_level s c rest 0, watchCounted_samples s c rest 0, watchCounted_mismatch s c rest 0,
      watchCounted_mem s c rest 0⟩

end Sys2Proof.Proofs
end

section
/-! PROOFS. Calibration passes and the creep scan (R110, R114 to R120): what each command leaves where its conditions hold. -/

namespace Sys2Proof.Proofs

open Sys2Proof.Machine Sys2Proof.Laws

/-- A map that keeps the keys changes the value under each. -/
theorem find?_map {α : Type} {g : Nat × α → Nat × α} (keep : ∀ x, (g x).1 = x.1) (a : Nat) :
    ∀ m : SMap α, SMap.find? (m.map g) a = (SMap.find? m a).map fun v => (g (a, v)).2
  | [] => rfl
  | (k, v) :: m => by
    rw [List.map_cons, ← Prod.eta (g (k, v)), keep]
    by_cases h : k = a
    · simp [SMap.find?, h]
    · simpa [SMap.find?, h] using find?_map keep a m

/-! ### Calibration passes (R110) -/

section
variable {s : State} {c : Nat} (hc : c < 4096) (clocks : s.flows (arrayClk c) = true)
include hc clocks

/-- CALIBRATION_PASS_START at a position without a pass, CAL_EN set. -/
theorem exec_calibrationPassStart {p : Nat} (hp : p < 4) (idle : (s.pos c p).cal = none)
    (on : s.fon .ARRAY_CTRL_CAL_EN c = true) : exec (.calibrationPassStart c p) s =
      .next ((s.modPos c p fun x => { x with cal := some {} }).fset .CAL_STATUS_RUNNING 1 c p) :=
  (clocked_of_crosses s (i := .calibrationPassStart c p) clocks).trans <| congrArg _ <|
    if_neg (by simp [idle, on, coreOk, hc, hp])

/-- CAL_STARVED at a position whose pass runs. -/
theorem exec_calStarved {p : Nat} (hp : p < 4) (runs : (s.pos c p).cal.isSome = true) :
    exec (.calStarved c p) s = .next (s.fset .CAL_STATUS_STARVED 1 c p) :=
  (clocked_of_crosses s (i := .calStarved c p) clocks).trans <| congrArg _ <| if_pos ⟨runs, by simp [coreOk, hc], hp⟩

/-- CAL_EN_CLEAR stops the passes. -/
theorem exec_calEnClear : exec (.calEnClear c) s = .next ((s.fset .ARRAY_CTRL_CAL_EN 0 c).stopPasses c) :=
  (clocked_of_crosses s (i := .calEnClear c) clocks).trans <| congrArg _ <| if_pos (by simp [coreOk, hc])

end

/-- A running pass is marked to stop, and no other changes. -/
theorem find?_stopPasses {s : State} {c p : Nat} {x : Pos} (h : (s.core c).poss.find? p = some x) :
    ((s.stopPasses c).core c).poss.find? p = some { x with calStop := x.calStop || x.cal.isSome } := by
  rw [State.stopPasses, core_modCore]
  dsimp only
  rw [find?_map (fun x => by rfl), h]
  rfl

/-! ### The creep scan (R114 to R118) -/

/-- The deviation with one cell's creep given: that cell's shifts by it. -/
theorem deviation_single (s : State) (c a r j : Nat) (d : Int) (col : Nat) :
    s.deviation c a r [(j, d)] col = s.deviation c a r [] col + if j = col then d else 0 := by
  unfold State.deviation
  by_cases h : j = col <;> simp [h]

/-- CREEP_SCAN_PASS on a READY or ACTIVE array that runs none. -/
theorem exec_creepScanPass {s : State} {c a : Nat} (hc : c < 4096) (ha : a < 8) (clocks : s.flows (arrayClk c) = true)
    (idle : s.scans c a = false) (bank : s.bankState c a = 2 ∨ s.bankState c a = 3) :
    exec (.creepScanPass c a) s = .next
      (s.modArr c a fun x => { x with scanning := true, scanStart := s.bounds, scanRow := 0, gross := [], pulses := [] }) :=
  (clocked_of_crosses s (i := .creepScanPass c a) clocks).trans <| congrArg _ <|
    if_neg (by simp [arrOk, coreOk, hc, ha, idle, bank])

/-- The scan's row stands in the urgent queue, out of the routine one, and the scan goes on (R118). -/
def urgentRowQueued (s : State) (c a : Nat) : State :=
  let r := (s.array c a).scanRow
  ((s.modArr c a fun x => { x with
    urgent := x.urgent ++ [r], routine := x.routine.filter (· ≠ r), scanRow := r + 1
    scanning := decide (r + 1 < 256) }).countCreep c a 0 0 0).refreshDue c a

/-- CREEP_ROW_READ of a row that has no gross cell and an urgent one, with room in the urgent queue. -/
theorem exec_creepRowRead_urgent {s : State} {c a : Nat} {creep : List (Nat × Int)} (clocks : s.flows (arrayClk c) = true)
    (scans : s.scans c a = true) (ready : s.bankState c a = 2) (more : (s.array c a).scanRow < 256) (sound : s.memBad = [])
    (on : s.fon .ARRAY_CTRL_REFRESH_EN c = true) (fresh : (s.array c a).scanRow ∉ (s.array c a).urgent)
    (room : (s.array c a).urgent.length < 16)
    (noGross : ∀ col, col < 264 → (s.deviation c a (s.array c a).scanRow creep col).natAbs ≤ s.creepThr.2.2)
    (urgent : ∃ col, col < 264 ∧ col ≠ 259 ∧ s.creepThr.2.1 < (s.deviation c a (s.array c a).scanRow creep col).natAbs) :
    exec (.creepRowRead c a creep) s = .next (urgentRowQueued s c a) := by
  refine (clocked_of_crosses s (i := .creepRowRead c a creep) clocks).trans (congrArg _ ?_)
  have go : ¬ ((!s.scans c a) = true ∨ ¬ (s.bankState c a = 2 ∨ s.bankState c a = 3) ∨ 256 ≤ (s.array c a).scanRow) := by
    simp [scans, ready, more]
  obtain ⟨col, hcol, notRef3, far⟩ := urgent
  have none : ((List.range 264).map fun j => (j, (s.deviation c a (s.array c a).scanRow creep j).natAbs)).filter
      (fun d => s.creepThr.2.2 < d.2) = [] := by
    simpa [List.filter_eq_nil_iff] using noGross
  have verdict : ((List.range 264).map fun j => (j, (s.deviation c a (s.array c a).scanRow creep j).natAbs)).any
      (fun d => d.1 ≠ 259 && s.creepThr.2.1 < d.2 && d.2 ≤ s.creepThr.2.2) = true := by
    simp only [List.any_map, List.any_eq_true, List.mem_range]
    exact ⟨col, hcol, by simp [notRef3, far, noGross col hcol]⟩
  have queued : (true && true && decide ((s.array c a).scanRow ∉ (s.array c a).urgent)) = true := by simp [fresh]
  dsimp only
  rw [if_neg go, none, verdict, on, queued, if_neg (by simpa using room), badIn_of_memBad sound, ite_self]
  simp only [List.map_nil, List.filter_nil, List.append_nil]
  rfl

/-! ### What the read row leaves -/

section
variable (s : State) (c a : Nat)

@[simp] theorem array_fset (f : Fld) (v d i j : Nat) : (s.fset f v d i j).array c a = s.array c a := rfl

@[simp] theorem array_fcount (f : Fld) (n d i j : Nat) : (s.fcount f n d i j).array c a = s.array c a := by
  rw [State.array, core_fcount, State.array]

@[simp] theorem array_countCreep (b r u g : Nat) : (s.countCreep c b r u g).array c a = s.array c a := rfl

@[simp] theorem array_refreshDue (b : Nat) : (s.refreshDue c b).array c a = s.array c a := rfl

@[simp] theorem mem_refreshDue : (s.refreshDue c a).mem = s.mem := rfl

variable {s c a} in
/-- REFRESH_DUE stands while the urgent queue holds a row. -/
theorem fget_refreshDue_of_urgent (h : (s.array c a).urgent ≠ []) :
    (s.refreshDue c a).fget .ARRAY_STATUS_REFRESH_DUE c a = 1 := by
  rw [State.refreshDue, List.isEmpty_eq_false_iff.2 h]
  exact fget_fset s .ARRAY_STATUS_REFRESH_DUE 1 c a 0 (by decide)

theorem urgentRowQueued_array : (urgentRowQueued s c a).array c a = { s.array c a with
    urgent := (s.array c a).urgent ++ [(s.array c a).scanRow]
    routine := (s.array c a).routine.filter (· ≠ (s.array c a).scanRow)
    scanRow := (s.array c a).scanRow + 1, scanning := decide ((s.array c a).scanRow + 1 < 256) } := by
  rw [urgentRowQueued, array_refreshDue, array_countCreep, array_modArr]

theorem urgentRowQueued_due : (urgentRowQueued s c a).fget .ARRAY_STATUS_REFRESH_DUE c a = 1 := by
  refine fget_refreshDue_of_urgent ?_
  rw [array_countCreep, array_modArr]
  exact List.append_ne_nil_of_right_ne_nil _ (List.cons_ne_nil _ _)

theorem urgentRowQueued_mem : (urgentRowQueued s c a).mem = s.mem := rfl

end

/-! ### Refresh (R117) -/

/-- The first urgent row is inside the window: it has left the queues and is counted. -/
def urgentRowRefreshed (s : State) (c a r : Nat) : State :=
  (((s.modArr c a fun x => { x with
    pulses := x.pulses.put r ((s.array c a).pulses.get r 0 + 1), urgent := x.urgent.filter (· ≠ r)
    routine := x.routine.filter (· ≠ r) }).countCreep c a 0 1 0).fcount .CREEP_COUNT_URGENT_ROWS 1 c a).refreshDue c a

section
variable {s : State} {c a r : Nat} {rest : List Nat} (urgent : (s.array c a).urgent = r :: rest)
include urgent

/-- A pulse that leaves no column outside. -/
theorem refresh_urgent : s.refresh c a [] = urgentRowRefreshed s c a r := by
  have first : (s.array c a).refreshRow = some (r, true) := by rw [Arr.refreshRow, urgent]
  rw [State.refresh, first]
  rfl

/-- REFRESH_PULSE of that row, its bank READY and not being written. -/
theorem exec_refreshPulse_urgent (hc : c < 4096) (ha : a < 8) (clocks : s.flows (arrayClk c) = true)
    (ready : s.bankState c a = 2) (unwritten : (s.array c a).job = none) (on : s.fon .ARRAY_CTRL_REFRESH_EN c = true) :
    exec (.refreshPulse c a []) s = .next (urgentRowRefreshed s c a r) :=
  (clocked_of_crosses s (i := .refreshPulse c a []) clocks).trans <| congrArg _ <|
    (if_neg (by simp [arrOk, coreOk, hc, ha, ready, unwritten, on])).trans (refresh_urgent urgent)

/-- A row that is queued once leaves the rest of the queue. -/
theorem urgentRowRefreshed_urgent (once : r ∉ rest) : ((urgentRowRefreshed s c a r).array c a).urgent = rest := by
  rw [urgentRowRefreshed, array_refreshDue, array_fcount, array_countCreep, array_modArr, urgent]
  have others : ∀ x ∈ rest, x ≠ r := fun x hx e => once (e ▸ hx)
  simpa using others

end

/-- CREEP_COUNT counts the row. -/
theorem urgentRowRefreshed_count (s : State) (c a r : Nat) : (urgentRowRefreshed s c a r).fget .CREEP_COUNT_URGENT_ROWS c a =
    min 255 (s.fget .CREEP_COUNT_URGENT_ROWS c a + 1) := by
  rw [urgentRowRefreshed, State.refreshDue, fget_fset_off, fget_fcount _ _ _ _ _ _ (by decide)]
  · rfl
  · simp only [Fld.addr, Fld.CREEP_COUNT_URGENT_ROWS, Fld.ARRAY_STATUS_REFRESH_DUE]
    omega

theorem urgentRowRefreshed_mem (s : State) (c a r : Nat) : (urgentRowRefreshed s c a r).mem = s.mem := by
  rw [urgentRowRefreshed, mem_refreshDue, fcount_mem]
  rfl

/-! ### Retention (R120) -/

/-- RETENTION_AGE_TICK. -/
theorem exec_retentionAgeTick {s : State} {c a : Nat} (hc : c < 4096) (ha : a < 8) (clocks : s.flows (arrayClk c) = true) :
    exec (.retentionAgeTick c a) s = .next (((s.fcount .RETENTION_AGE 1 c a).rerate c a).ref3 c a) :=
  (clocked_of_crosses s (i := .retentionAgeTick c a) clocks).trans <| congrArg _ <| if_pos (by simp [arrOk, coreOk, hc, ha])

/-- The published rate stands in the array. -/
theorem rerate_cases (s : State) (c a : Nat) : s.rerate c a = s ∨ ∃ g, s.rerate c a = s.modArr c a g := by
  unfold State.rerate
  dsimp only
  split
  · exact .inl rfl
  · exact .inr ⟨_, rfl⟩

@[simp] theorem fget_rerate (s : State) (c a : Nat) (f : Fld) (d i j : Nat) :
    (s.rerate c a).fget f d i j = s.fget f d i j := by
  obtain e | ⟨g, e⟩ := rerate_cases s c a <;> rw [e]
  rfl

@[simp] theorem mem_rerate (s : State) (c a : Nat) : (s.rerate c a).mem = s.mem := by
  obtain e | ⟨g, e⟩ := rerate_cases s c a <;> rw [e]
  rfl

/-- Below 0.25 level REF3 is not rewritten. -/
theorem ref3_of_low {s : State} {c a : Nat} (low : s.fget .RETENTION_DRIFT c a < 256) : s.ref3 c a = s :=
  if_neg (by omega)

/-- One second of age. -/
theorem fget_aged_age (s : State) (c a : Nat) : ((s.fcount .RETENTION_AGE 1 c a).rerate c a).fget .RETENTION_AGE c a =
    min 1048575 (s.fget .RETENTION_AGE c a + 1) := by
  rw [fget_rerate, fget_fcount _ _ _ _ _ _ (by decide)]
  rfl

/-- The drift stays. -/
theorem fget_aged_drift (s : State) (c a : Nat) : ((s.fcount .RETENTION_AGE 1 c a).rerate c a).fget .RETENTION_DRIFT c a =
    s.fget .RETENTION_DRIFT c a := by
  rw [fget_rerate]
  exact fget_fcount_apart s (by simp [fldsApart, Fld.addr, Fld.RETENTION_DRIFT, Fld.RETENTION_AGE]) c 1

/-- Settles O27: each command, by the lemma that says what it leaves. -/
theorem calibrationAndCreepCommandsComplete : Obligations.CalibrationAndCreepCommandsComplete := by
  intro s c a hc ha clocks
  refine ⟨fun p hp idle on => exec_calibrationPassStart hc clocks hp idle on,
    fun p hp runs => exec_calStarved hc clocks hp runs, ?_, exec_creepScanPass hc ha clocks, ?_, ?_, ?_⟩
  · exact ⟨_, exec_calEnClear hc clocks, fget_fset s .ARRAY_CTRL_CAL_EN 0 c 0 0 (by decide), rfl,
      fun p x listed => find?_stopPasses listed⟩
  · intro j d scans ready more sound on fresh room hj flat far near
    have dev : ∀ col, col < 264 → s.deviation c a (s.array c a).scanRow [(j, d)] col = if j = col then d else 0 := by
      intro col hcol
      rw [deviation_single, flat col hcol, Int.zero_add]
    have noGross : ∀ col, col < 264 →
        (s.deviation c a (s.array c a).scanRow [(j, d)] col).natAbs ≤ s.creepThr.2.2 := by
      intro col hcol
      rw [dev col hcol]
      split
      · exact near
      · exact Nat.zero_le _
    have urgent : s.creepThr.2.1 < (s.deviation c a (s.array c a).scanRow [(j, d)] j).natAbs := by
      rwa [dev j (by omega), if_pos rfl]
    refine ⟨_, exec_creepRowRead_urgent clocks scans ready more sound on fresh room noGross
      ⟨j, by omega, by omega, urgent⟩, ?_, ?_, ?_, urgentRowQueued_due s c a, urgentRowQueued_mem s c a⟩
    all_goals rw [urgentRowQueued_array]
  · intro r rest urgent once ready unwritten on
    exact ⟨_, exec_refreshPulse_urgent urgent hc ha clocks ready unwritten on, urgentRowRefreshed_urgent urgent once,
      urgentRowRefreshed_count s c a r, urgentRowRefreshed_mem s c a r⟩
  · intro low
    have drift := fget_aged_drift s c a
    refine ⟨_, exec_retentionAgeTick hc ha clocks, ?_⟩
    rw [ref3_of_low (by rw [drift]; exact low)]
    exact ⟨fget_aged_age s c a, drift, by rw [mem_rerate, fcount_mem]⟩

end Sys2Proof.Proofs
end

section
/-! PROOFS. Trim boundaries (R106, R458): the ramp acts on the listed trim registers word by word, a trim that was never
stored stands at its target, and what follows the ramp touches ARRAY_STATUS only. -/

namespace Sys2Proof.Proofs

open Sys2Proof.Machine Sys2Proof.Laws

/-! ### Signed bytes -/

theorem signed_byte_range (x : Nat) : -128 ≤ signed 8 x ∧ signed 8 x < 128 := by
  simp only [signed]
  split <;> omega

theorem signed_wrap_byte {v : Int} (lo : -128 ≤ v) (hi : v < 128) : signed 8 (wrap 8 v) = v := by
  have small : (wrap 8 v : Int) = v % 256 := Int.toNat_of_nonneg (Int.emod_nonneg _ (by decide))
  have cut : wrap 8 v % 256 = wrap 8 v := by omega
  simp only [signed, Nat.reducePow, Nat.reduceSub, Int.reducePow, cut]
  split <;> omega

/-- A byte's low bits read as the byte does. -/
theorem signed_byte_mod (x : Nat) : signed 8 (x % 2 ^ 8) = signed 8 x := by
  simp only [signed, Nat.mod_mod]

/-- One unit towards a byte stays a byte. -/
theorem toward_byte_range (x y : Nat) :
    -128 ≤ toward (signed 8 x) (signed 8 y) ∧ toward (signed 8 x) (signed 8 y) < 128 := by
  have hx := signed_byte_range x
  have hy := signed_byte_range y
  unfold toward
  split
  · omega
  · split <;> omega

/-! ### The ramp of one register -/

section
variable (w : Nat)

/-- The in-force gain moves one unit towards its target. -/
theorem rampWord_gain :
    signed 8 (bits (rampWord w % 2 ^ 32) 0 8) = toward (signed 8 (bits w 0 8)) (signed 8 (bits w 16 8)) := by
  obtain ⟨lo, hi⟩ := toward_byte_range (bits w 0 8) (bits w 16 8)
  rw [bits_mod32 _ _ _ (by decide), rampWord, bits_setBits_other _ _ _ _ _ _ (by decide), bits_setBits_same,
    signed_byte_mod, signed_wrap_byte lo hi]

/-- The in-force offset does. -/
theorem rampWord_offset :
    signed 8 (bits (rampWord w % 2 ^ 32) 8 8) = toward (signed 8 (bits w 8 8)) (signed 8 (bits w 24 8)) := by
  obtain ⟨lo, hi⟩ := toward_byte_range (bits w 8 8) (bits w 24 8)
  rw [bits_mod32 _ _ _ (by decide), rampWord, bits_setBits_same, signed_byte_mod, signed_wrap_byte lo hi]

/-- The targets, in the upper half, stay. -/
theorem rampWord_target {lo : Nat} (upper : 16 ≤ lo) (fits : lo + 8 ≤ 32) :
    bits (rampWord w % 2 ^ 32) lo 8 = bits w lo 8 := by
  rw [bits_mod32 _ _ _ fits, rampWord, bits_setBits_other _ _ _ _ _ _ (by omega),
    bits_setBits_other _ _ _ _ _ _ (by omega)]

/-- A trim that is zero stands at its targets. -/
theorem rampWord_zero : rampWord 0 = 0 := by
  simp [rampWord, toward, bits, setBits, signed, wrap]

/-- The four fields of a trim register that has taken its ramp. -/
theorem trimFields_of_ramp {x : Nat} (h : x = rampWord w % 2 ^ 32) :
    signed 8 (bits x 0 8) = toward (signed 8 (bits w 0 8)) (signed 8 (bits w 16 8)) ∧
    signed 8 (bits x 8 8) = toward (signed 8 (bits w 8 8)) (signed 8 (bits w 24 8)) ∧
    signed 8 (bits x 16 8) = signed 8 (bits w 16 8) ∧ signed 8 (bits x 24 8) = signed 8 (bits w 24 8) := by
  subst h
  exact ⟨rampWord_gain w, rampWord_offset w, congrArg _ (rampWord_target w (by decide) (by decide)),
    congrArg _ (rampWord_target w (by decide) (by decide))⟩

end

/-! ### Trims that were never stored -/

/-- A field's register stands at the offset of one of its instances. -/
theorem exists_addr_of_at? {f : Fld} {o : Nat} (h : f.at? o = true) :
    ∃ i j, i < f.count ∧ j < f.count2 ∧ o = f.addr i j := by
  simp only [Fld.at?, Bool.and_eq_true, decide_eq_true_eq] at h
  obtain ⟨base, ⟨exact, hi⟩, hj⟩ := h
  refine ⟨_, _, hi, hj, ?_⟩
  have outer : (if f.stride = 0 then o - f.off else (o - f.off) % f.stride) +
      f.stride * (if f.stride = 0 then 0 else (o - f.off) / f.stride) = o - f.off := by
    split
    · omega
    · exact Nat.mod_add_div _ _
  generalize (if f.stride = 0 then o - f.off else (o - f.off) % f.stride) = r at *
  have inner : f.stride2 * (if f.stride2 = 0 then 0 else r / f.stride2) = r := by
    split at exact
    · next h => simp [h, exact]
    · next h => rw [if_neg h]; exact Nat.mul_div_cancel' (Nat.dvd_of_mod_eq_zero exact)
  rw [Fld.addr]
  omega

/-- Every register of an array from 0x1000 on, as the trims are, comes up as zero. -/
theorem resetReg_trim {o : Nat} (h : 0x1000 ≤ o) (c : Nat) : resetReg .array c o = 0 := by
  have low : ∀ f ∈ fldsArray, f.reset = 0 ∨ f.addr f.count f.count2 < 0x1000 := by decide
  have zero : ∀ f ∈ fldsAt .array o, f.reset = 0 := by
    intro f hf
    obtain ⟨mem, at?⟩ := List.mem_filter.1 hf
    refine (low f mem).resolve_right fun below => ?_
    obtain ⟨i, j, hi, hj, rfl⟩ := exists_addr_of_at? at?
    have outer := Nat.mul_le_mul_left f.stride hi.le
    have inner := Nat.mul_le_mul_left f.stride2 hj.le
    simp only [Fld.addr] at h below
    omega
  change resetWord .array o = 0
  refine List.foldlRecOn (motive := (· = 0)) _ _ rfl fun w hw f hf => ?_
  rw [hw, zero f hf]
  simp [setBits]

/-! ### The ramp of every register -/

/-- One listed register at a boundary: a trim whose clock runs takes its ramp (R106, R458). -/
def rampReg (s : State) (r : Nat × Word) : Nat × Word :=
  if isTrimKey r.1 ∧ s.clockOn (r.1 / 65536 % 4096) true then (r.1, word (rampWord r.2.toNat)) else r

/-- The state after the ramp, before a spare converter, STALE and a bias move follow. -/
def ramped (s : State) : State := { s with bounds := s.bounds + 1, regs := s.regs.map (rampReg s) }

/-- A register is what is listed, or its reset value. -/
theorem rword_eq_getD (s : State) (sec : Sec) (c o : Nat) :
    s.rword sec c o = ((s.regs.find? (regKey sec c o)).map BitVec.toNat).getD (resetReg sec c o) := by
  unfold State.rword
  cases s.regs.find? (regKey sec c o) <;> rfl

/-- The trims are the registers from 0x1000 to 0x5800 of the array section. -/
theorem isTrimKey_regKey {c o : Nat} (ho : o < 0x10000) :
    isTrimKey (regKey .array c o) = true ↔ 0x1000 ≤ o ∧ o < 0x5800 := by
  have sec : regKey .array c o / 65536 / 4096 = 0 := by simp only [regKey, secNo]; omega
  have off : regKey .array c o % 65536 = o := by simp only [regKey, secNo]; omega
  simp [isTrimKey, sec, off, secNo]

/-- A register's key names its core. -/
theorem core_of_regKey {c o : Nat} (hc : c < 4096) : regKey .array c o / 65536 % 4096 = c := by
  simp only [regKey, secNo]
  omega

section
variable (s : State) {c o : Nat}

theorem rampReg_fst (r : Nat × Word) : (rampReg s r).1 = r.1 := by
  unfold rampReg
  split <;> rfl

/-- The ramp changes the word listed under each key. -/
theorem rword_ramped : (ramped s).rword .array c o =
    ((s.regs.find? (regKey .array c o)).map fun v => (rampReg s (regKey .array c o, v)).2.toNat).getD
      (resetReg .array c o) := by
  rw [rword_eq_getD, ramped, find?_map (rampReg_fst s), Option.map_map]
  rfl

/-- A register that is no trim, or whose clock is stopped, holds. -/
theorem rword_ramped_held (ho : o < 0x10000) (held : o < 0x1000 ∨ c < 4096 ∧ s.clockOn c true = false) :
    (ramped s).rword .array c o = s.rword .array c o := by
  have keep : ¬ (isTrimKey (regKey .array c o) ∧ s.clockOn (regKey .array c o / 65536 % 4096) true) := by
    rw [isTrimKey_regKey ho]
    rintro ⟨trim, on⟩
    rcases held with low | ⟨hc, off⟩
    · omega
    · rw [core_of_regKey hc, off] at on
      exact Bool.false_ne_true on
  have same : ∀ v, rampReg s (regKey .array c o, v) = (regKey .array c o, v) := fun v => if_neg keep
  simp only [rword_ramped, rword_eq_getD s, same]

/-- A trim whose clock runs takes its ramp; one that was never stored stands at its target, zero, and stays there. -/
theorem rword_ramped_trim (hc : c < 4096) (on : s.clockOn c true = true) (trim : 0x1000 ≤ o ∧ o < 0x5800) :
    (ramped s).rword .array c o = rampWord (s.rword .array c o) % 2 ^ 32 := by
  have act : isTrimKey (regKey .array c o) ∧ s.clockOn (regKey .array c o / 65536 % 4096) true := by
    rw [core_of_regKey hc]
    exact ⟨(isTrimKey_regKey (by omega)).2 trim, on⟩
  have ramp : ∀ v, (rampReg s (regKey .array c o, v)).2.toNat = rampWord v.toNat % 2 ^ 32 := fun v => by
    rw [rampReg, if_pos act]
    exact BitVec.toNat_ofNat ..
  simp only [rword_ramped, rword_eq_getD s, ramp, resetReg_trim trim.1]
  cases s.regs.find? (regKey .array c o) with
  | some w => rw [Option.map_some, Option.map_some, Option.getD_some, Option.getD_some]
  | none => rw [Option.map_none, Option.map_none, Option.getD_none, rampWord_zero, Nat.zero_mod]

end

/-! ### After the ramp -/

/-- A field's truth value is that of its word. -/
theorem fon_congr {s t : State} {f : Fld} {c i j : Nat}
    (h : t.rword f.sec c (f.addr i j) = s.rword f.sec c (f.addr i j)) : t.fon f c i j = s.fon f c i j := by
  rw [State.fon, State.fget, h, State.fon, State.fget]

/-- The pending bit stands above ARRAY_STATUS and below the trims. -/
theorem sparePending_addr {p : Nat} (hp : p < 4) :
    0x20 ≤ Fld.addr .CONV_SPARE_PENDING p 0 ∧ Fld.addr .CONV_SPARE_PENDING p 0 < 0x1000 := by
  simp only [Fld.addr, Fld.CONV_SPARE_PENDING]
  omega

/-- The two states differ in registers only, and in ARRAY_STATUS only of those of the arrays. -/
def StatusOnly (s t : State) : Prop :=
  maskR t = maskR s ∧ ∀ c o, 0x20 ≤ o → o < 0x10000 → t.rword .array c o = s.rword .array c o

section
variable {s t : State} (h : StatusOnly s t)
include h

theorem StatusOnly.pos_eq (c p : Nat) : t.pos c p = s.pos c p := by
  rw [State.pos, State.core, maskR_cores_eq h.1, ← State.core, ← State.pos]

theorem StatusOnly.bounds_eq : t.bounds = s.bounds := by
  have e := congrArg State.bounds h.1
  exact e

/-- STALE stands in ARRAY_STATUS. -/
theorem StatusOnly.restale {c a : Nat} (ha : a < 8) : StatusOnly s (t.restale c a) := by
  unfold State.restale
  dsimp only
  split
  · exact h
  · refine ⟨h.1, fun d o low high => ?_⟩
    rw [rword_fset_ne, h.2 d o low high]
    intro e
    have off := (regKey_inj e).2.2
    simp only [Fld.addr, Fld.ARRAY_STATUS_STALE] at off
    omega

/-- Without a pending spare converter none takes over. -/
theorem StatusOnly.spareConv_eq {c p : Nat} (hp : p < 4) (idle : s.fon .CONV_SPARE_PENDING c p = false) :
    t.spareConv c p = t := by
  have same : t.fon .CONV_SPARE_PENDING c p = s.fon .CONV_SPARE_PENDING c p := by
    obtain ⟨beyond, low⟩ := sparePending_addr hp
    exact fon_congr (h.2 c _ beyond (by omega))
  exact if_neg (by simp [same, idle])

/-- One core's share where no spare converter is pending. -/
theorem StatusOnly.restaled {c : Nat} (idle : ∀ p, p < 4 → s.fon .CONV_SPARE_PENDING c p = false) :
    StatusOnly s ((List.range 8).foldl (fun t a => t.restale c a) ((List.range 4).foldl (fun t p => t.spareConv c p) t)) := by
  refine List.foldlRecOn _ _ ?_ fun t h a ha => h.restale (List.mem_range.1 ha)
  refine List.foldlRecOn _ _ h fun t h p hp => ?_
  have hp := List.mem_range.1 hp
  rwa [h.spareConv_eq hp (idle p hp)]

/-- One core's share where no bias move is due. -/
theorem StatusOnly.unmoved {c : Nat} (still : ∀ p, p < 4 → (s.pos c p).biasDue = false) :
    StatusOnly s ((List.range 4).foldl (fun t p => if (t.pos c p).biasDue then t.biasMove c p else t) t) := by
  refine List.foldlRecOn _ _ h fun t h p hp => ?_
  rwa [h.pos_eq, still p (List.mem_range.1 hp)]

end

/-- Where no spare converter and no bias move is due, the ramp is followed by STALE alone. -/
theorem trimBoundary_statusOnly {s : State} (noSpare : ∀ c p, p < 4 → s.fon .CONV_SPARE_PENDING c p = false)
    (noMove : ∀ c p, p < 4 → (s.pos c p).biasDue = false) : StatusOnly (ramped s) s.trimBoundary := by
  have noSpareRamped : ∀ c p, p < 4 → (ramped s).fon .CONV_SPARE_PENDING c p = false := by
    intro c p hp
    obtain ⟨-, low⟩ := sparePending_addr hp
    have held := rword_ramped_held s (c := c) (by omega) (.inl low)
    rw [fon_congr (f := .CONV_SPARE_PENDING) held]
    exact noSpare c p hp
  refine List.foldlRecOn _ _ (List.foldlRecOn _ _ ⟨rfl, fun _ _ _ _ => rfl⟩ ?_) ?_
  · exact fun t h c _ => h.restaled (noSpareRamped c)
  · exact fun t h c _ => h.unmoved (noMove c)

/-! ### The boundary -/

section
variable {s t : State} (h : StatusOnly (ramped s) t) {c : Nat} (hc : c < 4096)
include h hc

/-- The boundary leaves a trim whose clock is stopped. -/
theorem StatusOnly.trim_held (off : s.clockOn c true = false) {o : Nat} (trim : 0x1000 ≤ o ∧ o < 0x5800) :
    t.rword .array c o = s.rword .array c o :=
  (h.2 c o (by omega) (by omega)).trans (rword_ramped_held s (by omega) (.inr ⟨hc, off⟩))

/-- The boundary takes a trim whose clock runs through its ramp. -/
theorem StatusOnly.trim_ramped (on : s.clockOn c true = true) {o : Nat} (trim : 0x1000 ≤ o ∧ o < 0x5800) :
    t.rword .array c o = rampWord (s.rword .array c o) % 2 ^ 32 :=
  (h.2 c o (by omega) (by omega)).trans (rword_ramped_trim s hc on trim)

end

/-- TRIM_BOUNDARY outside an attempt. -/
theorem exec_trimBoundary {s : State} (idle : s.job.current = none) : exec .trimBoundary s = .next s.trimBoundary := by
  change execTrimBoundary s = _
  rw [execTrimBoundary, idle]
  rfl

/-- Settles O28: the ramp of each trim register, read field by field. -/
theorem trimBoundariesMoveOneUnit : Obligations.TrimBoundariesMoveOneUnit := by
  intro s idle noSpare noMove
  have after := trimBoundary_statusOnly noSpare noMove
  refine ⟨_, exec_trimBoundary idle, (maskR_mem_eq after.1).trans rfl, (maskR_cores_eq after.1).trans rfl, after.bounds_eq,
    fun c hc off o low high => after.trim_held hc off ⟨low, high⟩, fun c hc on => ⟨fun a j ha hj => ?_, fun p k hp hk => ?_⟩⟩
  · have trim : 0x1000 ≤ Fld.addr .COL_TRIM_GAIN_NOW a j ∧ Fld.addr .COL_TRIM_GAIN_NOW a j < 0x5800 := by
      simp only [Fld.addr, Fld.COL_TRIM_GAIN_NOW]
      omega
    exact trimFields_of_ramp _ (after.trim_ramped hc on trim)
  · have trim : 0x1000 ≤ Fld.addr .CONV_TRIM_GAIN_NOW p k ∧ Fld.addr .CONV_TRIM_GAIN_NOW p k < 0x5800 := by
      simp only [Fld.addr, Fld.CONV_TRIM_GAIN_NOW]
      omega
    obtain ⟨gain, offset, -⟩ := trimFields_of_ramp _ (after.trim_ramped hc on trim)
    exact ⟨gain, offset⟩

end Sys2Proof.Proofs
end

section
/-! PROOFS. Lanes of the vector engine (R171, R174, R177): a lane of an element-wise stage, and the integer operations against
the two's-complement arithmetic of a word. -/

namespace Sys2Proof.Proofs

open Sys2Proof.Machine

/-! ### One lane of an element-wise stage -/

@[simp] theorem padTo_length {α : Type} (n : Nat) (d : α) (xs : List α) : (padTo n d xs).length = n := by
  simp only [padTo, List.length_take, List.length_append, List.length_replicate]
  omega

section
variable (p : VPipe) (w : StageW)

@[simp] theorem src_length (code : Nat) : (p.src w code).length = p.len := padTo_length _ _ _

@[simp] theorem enabledBy_length : (p.enabledBy w).length = p.len := padTo_length _ _ _

/-- Lane `i` computes where MASKIN enables it and passes on where not. -/
theorem lanes_prev_getD (f : Word → Word → Word → Word × VFlags) {i : Nat} (hi : i < p.len) :
    (p.lanes w f).prev.getD i 0 =
      (if (p.enabledBy w).getD i true = true then
        f ((p.src w w.srca).getD i 0) ((p.src w w.srcb).getD i 0) ((p.src w w.srcc).getD i 0)
      else passed w ((p.src w w.srca).getD i 0)).1 := by
  simp [VPipe.lanes, VPipe.push, hi]

@[simp] theorem lanes_prev_length (f : Word → Word → Word → Word × VFlags) : (p.lanes w f).prev.length = p.len := by
  simp [VPipe.lanes, VPipe.push]

end

/-- Settles O20, by the value of one lane. -/
theorem lanesComputeOrPassOn : Obligations.LanesComputeOrPassOn := by
  intro p w f i hi
  refine ⟨fun enabled => ?_, fun disabled => ?_, rfl, lanes_prev_length p w f, rfl, rfl, rfl⟩
  · rw [lanes_prev_getD p w f hi, if_pos enabled]
  · rw [lanes_prev_getD p w f hi, if_neg (ne_true_of_eq_false disabled)]
    rfl

/-! ### Integer lanes -/

/-- A lane takes an integer modulo 2^32. -/
theorem intLane_eq_ofInt (v : Int) : intLane v = BitVec.ofInt 32 v := by
  apply BitVec.eq_of_toNat_eq
  rw [intLane, word, wrap, BitVec.toNat_ofNat, BitVec.toNat_ofInt]
  omega

theorem satInt32_fst (v : Int) : (satInt32 v).1 = max (-2147483648) (min 2147483647 v) := by
  unfold satInt32
  split
  · omega
  · split <;> omega

theorem satInt32_snd (v : Int) : (satInt32 v).2 = decide (v < -2147483648 ∨ 2147483647 < v) := by
  unfold satInt32
  split
  · simp [*]
  · split <;> simp [*]

/-- An exact result as a word, with OF outside INT32. -/
theorem iWrap_eq (v : Int) :
    iWrap v = (BitVec.ofInt 32 v, { ov := decide (v < -2147483648 ∨ 2147483647 < v) }) := by
  rw [iWrap, intLane_eq_ofInt, satInt32_snd]

section
variable {a b : Word}

theorem shifts_in_range (h : b.toNat ≤ 31) :
    iShl a b = (a <<< b.toNat, {}) ∧ iShra a b = (a.sshiftRight b.toNat, {}) ∧ iShrl a b = (a >>> b.toNat, {}) :=
  have inside : ¬ 31 < b.toNat := by omega
  ⟨if_neg inside, if_neg inside, if_neg inside⟩

theorem shifts_beyond (h : 31 < b.toNat) :
    iShl a b = (0, { rg := true }) ∧ iShrl a b = (0, { rg := true }) ∧
      iShra a b = (if a.toInt < 0 then 0xFFFFFFFF else 0, { rg := true }) := by
  refine ⟨if_pos h, if_pos h, (if_pos h).trans ?_⟩
  simp only [BitVec.msb_eq_toInt, decide_eq_true_eq]

theorem toInt_iMax : (iMax a b).toInt = max a.toInt b.toInt := by
  unfold iMax laneInt
  split <;> omega

theorem toInt_iMin : (iMin a b).toInt = min a.toInt b.toInt := by
  unfold iMin laneInt
  split <;> omega

end

/-- Settles O21: reduction modulo 2^32 respects sums, differences and products. -/
theorem integerLanesFollowTheTable : Obligations.IntegerLanesFollowTheTable := by
  intro a b
  refine ⟨?_, ?_, ?_, shifts_in_range, shifts_beyond, toInt_iMax, toInt_iMin⟩
  · simp only [iWrap_eq, laneInt, BitVec.ofInt_add, BitVec.ofInt_toInt]
  · simp only [iWrap_eq, laneInt, Int.sub_eq_add_neg, BitVec.ofInt_add, BitVec.ofInt_neg, BitVec.ofInt_toInt,
      BitVec.sub_eq_add_neg]
  · simp only [iWrap_eq, laneInt, BitVec.ofInt_mul, BitVec.ofInt_toInt]

end Sys2Proof.Proofs
end

section
/-! PROOFS. RISUM over a segment (R182 to R185): each node of the tree adds exact sums, so the shape of the tree does not
matter so long as its fuel reaches every element. -/

namespace Sys2Proof.Proofs

open Sys2Proof.Machine

/-! ### The tree of R184 -/

/-- Both parts of a tree over at most 2^(n + 1) elements hold at most 2^n. -/
theorem split_le {n len : Nat} (several : 2 ≤ len) (h : len ≤ 2 ^ (n + 1)) :
    2 ^ Nat.log2 (len - 1) ≤ 2 ^ n ∧ len - 2 ^ Nat.log2 (len - 1) ≤ 2 ^ n := by
  have low : Nat.log2 (len - 1) < n + 1 := (Nat.log2_lt (by omega)).2 (by omega)
  have left : 2 ^ Nat.log2 (len - 1) ≤ 2 ^ n := Nat.pow_le_pow_right (by decide) (by omega)
  have upper : len - 1 < 2 ^ (Nat.log2 (len - 1) + 1) := Nat.lt_log2_self
  rw [Nat.pow_succ] at upper
  omega

/-- The fuel of a segment's tree reaches every element. -/
theorem le_two_pow_ceilLog2 (len : Nat) : len ≤ 2 ^ (ceilLog2 len + 1) := by
  unfold ceilLog2
  split
  · simp; omega
  · have upper : len - 1 < 2 ^ (Nat.log2 (len - 1) + 1) := Nat.lt_log2_self
    rw [Nat.pow_succ]
    omega

/-- RISUM's tree carries the exact sum, and no flag where no element has one. -/
theorem redTree_risum {ident : RedVal} (zero : ident.wide = 0) (quiet : ident.flags = {}) :
    ∀ (fuel : Nat) (xs : List RedVal), xs.length ≤ 2 ^ fuel → (∀ x ∈ xs, x.flags = {}) →
      (redTree .risum ident fuel xs).wide = (xs.map (·.wide)).sum ∧ (redTree .risum ident fuel xs).flags = {}
  | _, [], _, _ => by simp [redTree, zero, quiet]
  | _, [x], _, clean => by simp [redTree, clean]
  | 0, x :: y :: r, short, _ => by simp at short
  | fuel + 1, x :: y :: r, short, clean => by
    let xs := x :: y :: r
    let m := 2 ^ Nat.log2 (xs.length - 1)
    obtain ⟨left, right⟩ := split_le (len := xs.length) (by simp [xs]) short
    obtain ⟨sumL, flagsL⟩ := redTree_risum zero quiet fuel (xs.take m) (by simp only [List.length_take]; omega)
      fun x hx => clean x (List.mem_of_mem_take hx)
    obtain ⟨sumR, flagsR⟩ := redTree_risum zero quiet fuel (xs.drop m) (by simpa only [List.length_drop] using right)
      fun x hx => clean x (List.mem_of_mem_drop hx)
    constructor
    · change (redTree .risum ident fuel (xs.take m)).wide + (redTree .risum ident fuel (xs.drop m)).wide = _
      rw [sumL, sumR, ← List.sum_append, ← List.map_append, List.take_append_drop]
    · change (redTree .risum ident fuel (xs.take m)).flags.or (redTree .risum ident fuel (xs.drop m)).flags = _
      rw [flagsL, flagsR]
      rfl

/-! ### A segment -/

/-- What an element adds to RISUM: a disabled one nothing. -/
theorem wide_redLeaf_risum (i : Nat) (x : Option Word) : (redLeaf .risum 0 i x).wide = x.elim 0 BitVec.toInt := by
  cases x <;> rfl

theorem flags_redLeaf (op : VOp) (sub i : Nat) (x : Option Word) : (redLeaf op sub i x).flags = {} := by
  cases x <;> rfl

/-- The tree over a segment's leaves. -/
theorem redTree_risum_leaves (xs : List (Option Word)) :
    let r := redTree .risum { w := redIdentity .risum 0 } (ceilLog2 xs.length + 1)
      (xs.zipIdx.map fun x => redLeaf .risum 0 x.2 x.1)
    r.wide = (xs.map (Option.elim · 0 BitVec.toInt)).sum ∧ r.flags = {} := by
  have leaves : (xs.zipIdx.map fun x => redLeaf .risum 0 x.2 x.1).map (·.wide) = xs.map (Option.elim · 0 BitVec.toInt) := by
    rw [List.map_map]
    calc xs.zipIdx.map ((·.wide) ∘ fun x => redLeaf .risum 0 x.2 x.1)
        = (xs.zipIdx.map Prod.fst).map (Option.elim · 0 BitVec.toInt) := by
          rw [List.map_map]
          exact List.map_congr_left fun x _ => wide_redLeaf_risum x.2 x.1
      _ = xs.map (Option.elim · 0 BitVec.toInt) := by rw [List.zipIdx_map_fst]
  rw [← leaves]
  refine redTree_risum rfl rfl _ _ ?_ ?_
  · simpa using le_two_pow_ceilLog2 xs.length
  · simp only [List.mem_map]
    rintro _ ⟨x, -, rfl⟩
    exact flags_redLeaf _ _ _ _

/-- Settles O22, by the sum that R184's tree carries. -/
theorem integerSumIsExact : Obligations.IntegerSumIsExact := by
  intro xs sum
  obtain ⟨carried, quiet⟩ := redTree_risum_leaves xs
  have total : (redTree .risum { w := redIdentity .risum 0 } (ceilLog2 xs.length + 1)
      (xs.zipIdx.map fun x => redLeaf .risum 0 x.2 x.1)).wide = sum :=
    carried.trans (congrArg List.sum (List.map_congr_left fun x _ => by cases x <;> rfl))
  rw [← total]
  refine ⟨congrArg intLane (satInt32_fst _), ?_, rfl⟩
  change VFlags.or _ { ov := (satInt32 _).2 } = _
  rw [quiet, satInt32_snd]
  rfl

end Sys2Proof.Proofs
end

section
/-! PROOFS. Stage commands of the vector engine (R174, R180, R182, R190): their clock gate, and what a stage changes. -/

namespace Sys2Proof.Proofs

open Sys2Proof.Machine Sys2Proof.Laws

/-! ### What a stage changes -/

section
variable (s : State) (k : Nat) (op : VOp) (w : StageW)

/-- The state with the stage run on the pipeline of core `k`, before VSTAT gathers the flags. -/
def piped : State := s.modCore k fun x => { x with vpipe := vstage op w x.vpipe }

/-- The bits that a stage gives VSTAT: the flags of its lanes and of its new results, and EMPTY (R180, R183). -/
def gathered : Nat :=
  let p := vstage op w (s.core k).vpipe
  let results := p.out.drop (s.core k).vpipe.out.length
  ((p.flags ++ results.map (·.flags)).foldl VFlags.or {}).toNat ||| (if results.any (·.empty) then 64 else 0)

/-- A stage moves its pipeline on, and VSTAT stays or gains the gathered bits (R180). -/
theorem stage_cases : s.stage k op w = piped s k op w ∨
    s.stage k op w = (piped s k op w).setRword .vector k 0 (s.rword .vector k 0 ||| gathered s k op w) := by
  have merged : s.stage k op w =
      if s.rword .vector k 0 ||| gathered s k op w = s.rword .vector k 0 then piped s k op w
      else (piped s k op w).setRword .vector k 0 (s.rword .vector k 0 ||| gathered s k op w) := by
    rw [State.stage, gathered, ← Nat.or_assoc]
    rfl
  rw [merged]
  split
  · exact .inl rfl
  · exact .inr rfl

theorem stage_cores : (s.stage k op w).cores = (piped s k op w).cores := by
  obtain h | h := stage_cases s k op w
  · rw [h]
  · rw [h, setRword_cores]

theorem stage_frame :
    s.stage k op w = { s with regs := (s.stage k op w).regs, cores := (s.stage k op w).cores } := by
  obtain h | h := stage_cases s k op w <;> rw [h] <;> rfl

theorem stage_core : (s.stage k op w).core k = { s.core k with vpipe := vstage op w (s.core k).vpipe } := by
  rw [State.core, stage_cores]
  exact core_modCore _ _ _

theorem stage_core_ne {c : Nat} (h : c ≠ k) : (s.stage k op w).core c = s.core c := by
  rw [State.core, stage_cores]
  exact core_modCore_ne _ _ _ _ h

theorem stage_rword_ne {sec : Sec} {i o : Nat} (h : regKey sec i o ≠ regKey .vector k 0) :
    (s.stage k op w).rword sec i o = s.rword sec i o := by
  obtain e | e := stage_cases s k op w <;> rw [e]
  · rfl
  · exact rword_setRword_ne _ _ _ _ _ _ _ _ h

theorem stage_vstat_keeps {b : Nat} (set : bit (s.rword .vector k 0) b = true) (word : b < 32) :
    bit ((s.stage k op w).rword .vector k 0) b = true := by
  obtain e | e := stage_cases s k op w <;> rw [e]
  · exact set
  · rw [bit_eq_testBit] at set
    rw [rword_setRword, bit_eq_testBit, Nat.testBit_mod_two_pow, Nat.testBit_or, set]
    simp [word]

end

/-- Settles O19, from the two ways a stage can end. -/
theorem stagesChangeThePipelineAndVstatOnly : Obligations.StagesChangeThePipelineAndVstatOnly := by
  intro s k op w t
  exact ⟨stage_core s k op w, fun c h => stage_core_ne s k op w h, (congrArg State.mem (stage_frame s k op w)).trans rfl,
    stage_frame s k op w, fun sec i o h => stage_rword_ne s k op w h, fun b set word => stage_vstat_keeps s k op w set word⟩

/-! ### Stage commands -/

/-- MWADD runs a chain that R172 and R190 accept with its anchor register's value. -/
theorem exec_mwadd {s : State} {k : Nat} {ch : Chain} (clocks : s.flows (dieClk k) = true)
    (sound : chainFault ch false 0 0 0 = none) (mw : ch.stages.any (·.op = .mwadd) = true)
    (high : mwLow (s.core k).larder ch (s.fgetS .ANCHOR_VALUE k ch.anchorReg) = false) :
    exec (.mwadd k ch) s = .next
      ((s.mwadd k (s.fget .SEQ_ENTRY_NEXT k) ch (s.fgetS .ANCHOR_VALUE k ch.anchorReg) 0 0 0 0
        ⟨0, ch.indexBase, ch.indexPitch, s.fget .SEQ_ENTRY_NEXT k⟩).fcount .VCOUNT_CHAINS 1 k) := by
  refine (clocked_of_crosses s (i := .mwadd k ch) clocks).trans (congrArg _ ?_)
  simp [sound, State.runChain, mw, high]

/-- Settles O18: past the clock gate each of the 40 stage commands is its stage. -/
theorem vectorStagesComplete : Obligations.VectorStagesComplete := by
  intro s k w clocks
  have gate {i : Instr} {o : Out} (h : s.clocksOf i = dieClk k) : s.clocked i o = o :=
    clocked_of_crosses s (by rw [State.crosses, h, clocks])
  iterate 40 refine ⟨gate rfl, ?_⟩
  exact fun ch sound mw high => exec_mwadd clocks sound mw high

end Sys2Proof.Proofs
end

section
/-! PROOFS. Issue of SEND, DRAIN and VSTREAM entries (R165, R217 to R219). Counting SEQ_ENTRY on leaves tiles, anchors and
larders as they are, so each check at issue is that of the state before. -/

namespace Sys2Proof.Proofs

open Sys2Proof.Machine Sys2Proof.Laws

/-! ### Queues -/

@[simp] theorem setQueue_larder (x : Core) (u : Nat) (q : List QItem) : (x.setQueue u q).larder = x.larder := by
  unfold Core.setQueue
  split <;> rfl

@[simp] theorem enqueue_larder (s : State) (k u : Nat) (it : QItem) :
    ((s.enqueue k u it).core k).larder = (s.core k).larder := by
  rw [State.enqueue, State.core, engineBusy_cores]
  exact (congrArg Core.larder (core_modCore s k _)).trans (setQueue_larder _ _ _)

/-! ### Checks at issue -/

section
variable {s : State} {k : Nat}

/-- A drain of a tile that holds sums enters the vector unit's queue. -/
theorem issueDrain_of_open {no t : Nat} (held : s.tileState k t = 1) (c : Cmn) (e : Entry) (ch : Option Chain) (a : Int) :
    (s.counted k).issueDrain k no t c e ch a =
      (s.counted k).enqueue k 4 { no := no, entry := e, c := c, anchor := a, chain := ch } := by
  have same : (s.counted k).tileState k t = 1 := (fget_counted s k (by decide) k t 0).trans held
  exact if_neg (not_not_intro same)

/-- A NARROW or WIDE drain whose D passes R172. -/
theorem issueEdgeDrain_of_sound {no : Nat} {c : Cmn} {e : Entry} {f : DrainF} {fmtOk : Fmt → Bool} {ch : Chain} {x : Fmt}
    (held : s.tileState k f.tile = 1) (inside : inLarder f.target (if f.olist = 0 then 32 else 40) = true)
    (chain : movChain (s.core k).larder f = some ch) (kind : ch.d.kind = .larder) (fmt : Fmt.ofCode ch.d.fmt = some x)
    (allowed : fmtOk x = true) (sound : chainFault ch true 0 0 0 = none) :
    (s.counted k).issueEdgeDrain k no c e f fmtOk =
      (s.counted k).enqueue k 4 { no := no, entry := e, c := c, chain := some ch } := by
  have same : movChain ((s.counted k).core k).larder f = some ch := chain
  unfold State.issueEdgeDrain
  rw [same]
  simp only [inside, kind, fmt, allowed, sound, issueDrain_of_open held]
  rfl

/-- A chain in the larder that passes R172, with the value of its anchor register. -/
theorem readChainFor_of_sound {a mg qp kp : Nat} {drain : Bool} {ch : Chain}
    (chain : readChain (s.core k).larder a = some ch) (inside : inLarder a (descBytes (s.core k).larder a) = true)
    (sound : chainFault ch drain mg qp kp = none) :
    (s.counted k).readChainFor k a drain mg qp kp = .ok (ch, s.fgetS .ANCHOR_VALUE k ch.anchorReg) := by
  have same : ((s.counted k).core k).larder = (s.core k).larder := rfl
  unfold State.readChainFor
  dsimp only
  rw [same, if_neg (by simp [inside]), chain]
  dsimp only
  rw [sound, fgetS_counted s k (by decide)]

end

/-! ### The entries -/

section
variable {s : State} {k : Nat} {m : Cmn}

/-- SEND of larder data within the larder starts and sends its message. -/
theorem exec_send {f : SendF} (ready : s.ready k m (.send f)) (larder : f.srcMem = false)
    (inside : inLarder (f.src % 2 ^ 19) ((f.len + 1) * 32) = true) :
    exec (.send k m f) s = .next
      ((((s.counted k).enqueue k 5
        { no := s.fget .SEQ_ENTRY_NEXT k, entry := .send f, c := m, started := true, sent := true }).route
          f.loc f.dmod f.dcore
          { srcMod := 0, srcCore := k, channel := f.channel, dtoken := f.dtoken, dsig := f.dsig,
            data := (s.core k).larder.readBytes (f.src % 2 ^ 19) ((f.len + 1) * 32) }).advance k) := by
  refine congrArg _ ((issue_of_ready ready _).trans ?_)
  simp only [larder, inside, State.startNow, enqueue_larder, Bool.false_eq_true, Bool.not_true, if_false]
  rfl

/-- DRAIN of kind FULL, its target and its descriptor in the larder. -/
theorem exec_drainFull {f : DrainFullF} (ready : s.ready k m (.drainFull f)) (held : s.tileState k f.tile = 1)
    (target : inLarder f.target 65536 = true) (desc : inLarder f.fdesc 16 = true) :
    exec (.drainFull k m f) s = .next
      (((s.counted k).enqueue k 4 { no := s.fget .SEQ_ENTRY_NEXT k, entry := .drainFull f, c := m }).advance k) := by
  refine congrArg _ ((issue_of_ready ready _).trans ?_)
  rw [target, desc, issueDrain_of_open held]
  rfl

end

/-- The format codes 0 to 6 are the narrow ones (R29). -/
theorem ofCode_narrow {n : Nat} (h : n ≤ 6) : ∃ x, Fmt.ofCode n = some x ∧ x.narrow = true := by
  interval_cases n <;> exact ⟨_, rfl, rfl⟩

/-- Settles O14: every check at issue passes, and the entry enters its queue. -/
theorem netAndVectorEntriesQueue : Obligations.NetAndVectorEntriesQueue := by
  intro s k m
  refine ⟨fun f => exec_send, fun f => exec_drainFull, ?_, ?_, ?_, ?_⟩
  · intro f ch ready held inside chain kind fmt sound
    obtain ⟨x, code, narrow⟩ := ofCode_narrow fmt
    refine congrArg _ ((issue_of_ready ready _).trans ?_)
    rw [issueEdgeDrain_of_sound held inside chain kind code narrow sound]
  · intro f ch ready held inside chain kind fmt sound
    refine congrArg _ ((issue_of_ready ready _).trans ?_)
    rw [issueEdgeDrain_of_sound (x := .fp32) held inside chain kind (by rw [fmt]; rfl) rfl sound]
  · intro f ch ready held chain inside sound
    refine congrArg _ ((issue_of_ready ready _).trans ?_)
    rw [readChainFor_of_sound chain inside sound]
    dsimp only
    rw [issueDrain_of_open held]
  · intro f ch ready chain inside sound
    refine congrArg _ ((issue_of_ready ready _).trans ?_)
    rw [readChainFor_of_sound chain inside sound]

end Sys2Proof.Proofs
end

section
/-! PROOFS. The 128 bits of a timetable entry (R206, R207): fields packed in order come back in order, and what the decoder
accepts is a list of fields that packs to the word it came from. -/

namespace Sys2Proof.Proofs

open Sys2Proof Sys2Proof.Machine Sys2Proof.Laws

/-! ### Fields in order -/

theorem packBits_mod (w v : Nat) (r : List (Nat × Nat)) : packBits ((w, v) :: r) % 2 ^ w = v % 2 ^ w := by
  simp [packBits]

theorem packBits_div (w v : Nat) (r : List (Nat × Nat)) : packBits ((w, v) :: r) / 2 ^ w = packBits r := by
  have field : v % 2 ^ w < 2 ^ w := Nat.mod_lt _ (Nat.two_pow_pos w)
  rw [packBits, Nat.add_mul_div_left _ _ (Nat.two_pow_pos w), Nat.div_eq_of_lt field, Nat.zero_add]

/-- Every value fits its width. -/
def FieldsFit : List Nat → List Nat → Prop := List.Forall₂ fun w v => v < 2 ^ w

theorem packBits_lt {ws vs : List Nat} (h : FieldsFit ws vs) : packBits (ws.zip vs) < 2 ^ ws.sum := by
  induction h with
  | nil => exact Nat.one_pos
  | @cons w v ws vs hv _ ih =>
    have rest := Nat.mul_le_mul_left (2 ^ w) (Nat.succ_le_of_lt ih)
    rw [Nat.mul_succ] at rest
    rw [List.zip_cons_cons, packBits, List.sum_cons, Nat.pow_add, Nat.mod_eq_of_lt hv]
    omega

/-- Values that fit come back from their bits. -/
theorem unpackBits_packBits {ws vs : List Nat} (h : FieldsFit ws vs) : unpackBits ws (packBits (ws.zip vs)) = vs := by
  induction h with
  | nil => rfl
  | cons hv _ ih => rw [List.zip_cons_cons, unpackBits, packBits_mod, packBits_div, ih, Nat.mod_eq_of_lt hv]

/-- What is read from bits fits. -/
theorem unpackBits_fit : ∀ (ws : List Nat) (x : Nat), FieldsFit ws (unpackBits ws x)
  | [], _ => .nil
  | w :: r, _ => .cons (Nat.mod_lt _ (Nat.two_pow_pos w)) (unpackBits_fit r _)

/-- What is read from the bits of a number packs to it. -/
theorem packBits_unpackBits : ∀ (ws : List Nat) (x : Nat), packBits (ws.zip (unpackBits ws x)) = x % 2 ^ ws.sum
  | [], x => by simp [unpackBits, packBits, Nat.mod_one]
  | w :: r, x => by
    rw [unpackBits, List.zip_cons_cons, packBits, packBits_unpackBits r, Nat.mod_mod, List.sum_cons, Nat.pow_add, Nat.mod_mul]

@[simp] theorem flag_eq_one (b : Bool) : decide (flag b = 1) = b := by cases b <;> rfl

@[simp] theorem flag_le_one (b : Bool) : flag b ≤ 1 := by cases b <;> decide

/-- A bit read as a truth value is packed as it was. -/
theorem flag_of_le {v : Nat} (h : v ≤ 1) : flag (decide (v = 1)) = v := by
  interval_cases v <;> rfl

/-! ### Encoding, then decoding -/

/-- The fields of a well-formed entry fit their widths. -/
theorem values_fit {e : Entry} (h : e.wf = true) : FieldsFit e.widths e.values := by
  cases e <;>
    simp_all [FieldsFit, Entry.widths, Entry.values, moveW, stashW, unstashW, mvmW, writeW, matmulW, fwaddW, anchorW,
      drainW, vstreamW, sendW, recvW, routeW, returnW, waitW, signalW, fenceW, Entry.wf, fits, MemAddr.wf, MoveF.wf,
      StashF.wf, UnstashF.wf, MvmF.wf, WriteFullF.wf, WriteDeltaF.wf, MatmulF.wf, FwaddF.wf, AnchorSetF.wf,
      AnchorScalesF.wf, AnchorDescsF.wf, DrainF.wf, DrainFullF.wf, VstreamF.wf, SendF.wf, RecvF.wf, RouteF.wf,
      ReturnF.wf, WaitF.wf, SignalF.wf]
  case vstream => omega

/-- The body decodes where its bits hold the fields of a well-formed entry. -/
theorem decodeBody_of_values {e : Entry} {x : Nat} (h : e.wf = true) (fields : unpackBits e.widths x = e.values) :
    decodeBody e.op x = some e := by
  cases e <;> simp only [Entry.widths, Entry.values] at fields <;>
    simp [decodeBody, Entry.op, fields, keepWf, h]

/-- Widths of all fields of an entry, bit 0 up: the common ones of R206 and its own. -/
def entryWidths (e : Entry) : List Nat := [8, 6, 1, 1] ++ e.widths

theorem entryWidths_sum (e : Entry) : (entryWidths e).sum = 128 := by cases e <;> rfl

/-- The values of all fields of an entry, bit 0 up. -/
def entryValues (c : Cmn) (e : Entry) : List Nat := [e.op, c.ctoken, flag c.csig, 0] ++ e.values

theorem encodeEntry_eq (c : Cmn) (e : Entry) : encodeEntry c e = packBits ((entryWidths e).zip (entryValues c e)) := rfl

theorem entryValues_fit {c : Cmn} {e : Entry} (hc : c.wf = true) (he : e.wf = true) :
    FieldsFit (entryWidths e) (entryValues c e) := by
  have op : e.op < 2 ^ 8 := by cases e <;> simp [Entry.op]
  have ctoken : c.ctoken < 2 ^ 6 := of_decide_eq_true hc
  have csig : flag c.csig < 2 ^ 1 := Nat.lt_succ_of_le (flag_le_one c.csig)
  exact .cons op (.cons ctoken (.cons csig (.cons (Nat.two_pow_pos 1) (values_fit he))))

theorem unpackBits_append : ∀ (ws us : List Nat) (x : Nat),
    unpackBits (ws ++ us) x = unpackBits ws x ++ unpackBits us (x / 2 ^ ws.sum)
  | [], _, x => by simp [unpackBits]
  | w :: r, us, x => by
    rw [List.cons_append, unpackBits, unpackBits, unpackBits_append r, List.sum_cons, Nat.pow_add, Nat.div_div_eq_div_mul,
      List.cons_append]

/-- The bits hold the values: the common fields in the low 16, the entry's own above. -/
theorem unpackBits_eq_entryValues {c : Cmn} {e : Entry} {x : Nat} :
    unpackBits (entryWidths e) x = entryValues c e ↔
      unpackBits [8, 6, 1, 1] x = [e.op, c.ctoken, flag c.csig, 0] ∧ unpackBits e.widths (x / 2 ^ 16) = e.values := by
  rw [entryWidths, entryValues, unpackBits_append]
  exact ⟨fun h => List.append_inj h rfl, fun ⟨common, own⟩ => congrArg₂ (· ++ ·) common own⟩

/-- Settles O4: the packed fields come back, and from them the entry. -/
theorem entryDecodesFromItsBits : Obligations.EntryDecodesFromItsBits := by
  intro c e h
  obtain ⟨⟨he, hc⟩, _⟩ : (e.wf = true ∧ c.wf = true) ∧ _ := by simpa only [Entry.okWith, Bool.and_eq_true] using h
  have back : unpackBits (entryWidths e) (encodeEntry c e) = entryValues c e := unpackBits_packBits (entryValues_fit hc he)
  obtain ⟨common, own⟩ := unpackBits_eq_entryValues.1 back
  constructor
  · exact (packBits_lt (entryValues_fit hc he)).trans_eq (congrArg (2 ^ ·) (entryWidths_sum e))
  · have body := decodeBody_of_values he own
    simp only [decodeEntry, common, body, flag_eq_one, h, if_true]

/-! ### Decoding, then encoding -/

theorem keepWf_eq_some {e e' : Entry} : keepWf e = some e' ↔ e.wf = true ∧ e = e' := by simp [keepWf]

/-- What the body decodes to has its operation code, and its fields stand in the body's bits. -/
theorem values_of_decodeBody {op x : Nat} {e : Entry} (h : decodeBody op x = some e) (notSet : ∀ f, e ≠ .anchorSet f) :
    e.op = op ∧ unpackBits e.widths x = e.values := by
  unfold decodeBody at h
  split at h
  case h_21 => contradiction
  case h_19 | h_20 =>
    obtain ⟨zero, rfl⟩ : _ ∧ _ = e := by simpa only [Option.ite_none_right_eq_some, Option.some.injEq] using h
    exact ⟨rfl, zero⟩
  all_goals
    split at h
    any_goals contradiction
    all_goals
      obtain ⟨_, rfl⟩ := keepWf_eq_some.1 h
      have fields := ‹unpackBits _ x = _›
      have fit := fields ▸ unpackBits_fit _ x
      simp_all [FieldsFit, Entry.op, Entry.widths, Entry.values, flag_of_le, moveW, stashW, unstashW,
        mvmW, writeW, matmulW, fwaddW, anchorW, drainW, vstreamW, sendW, recvW, routeW, returnW, waitW, signalW, fenceW]

/-- A decoded entry's fields, the common ones and its own, are those of its 128 bits. -/
theorem entryValues_of_decodeEntry {x : Nat} {c : Cmn} {e : Entry} (h : decodeEntry x = some (c, e))
    (notSet : ∀ f, e ≠ .anchorSet f) : unpackBits (entryWidths e) x = entryValues c e := by
  unfold decodeEntry at h
  split at h
  · next op ct cs common =>
    split at h
    · next e' body =>
      obtain ⟨_, rfl, rfl⟩ : _ ∧ ⟨ct, decide (cs = 1)⟩ = c ∧ e' = e := by
        simpa only [Option.ite_none_right_eq_some, Option.some.injEq, Prod.mk.injEq] using h
      obtain ⟨rfl, own⟩ := values_of_decodeBody body notSet
      have fit : FieldsFit [8, 6, 1, 1] [e'.op, ct, cs, 0] := common ▸ unpackBits_fit [8, 6, 1, 1] x
      have csig : cs ≤ 1 := by simp_all [FieldsFit]
      exact unpackBits_eq_entryValues.2 ⟨by rw [common, flag_of_le csig], own⟩
    · contradiction
  · contradiction

/-- Settles O5: the fields are read from the word, and what is read packs to it. -/
theorem decodedEntriesSpellTheirBits : Obligations.DecodedEntriesSpellTheirBits := by
  intro x c e hx h notSet
  rw [encodeEntry_eq, ← entryValues_of_decodeEntry h notSet, packBits_unpackBits, entryWidths_sum, Nat.mod_eq_of_lt hx]

/-- Settles O6: each word is decoded. -/
theorem entryWordsReadAsTheManualSays : Obligations.EntryWordsReadAsTheManualSays := by
  unfold Obligations.EntryWordsReadAsTheManualSays
  decide

end Sys2Proof.Proofs
end

section
/-! PROOFS. No command faults and none is refused (R207, R352): a meaning is a next state, or such a meaning behind the
clock gate, which holds the command where a clock is stopped. -/

namespace Sys2Proof.Proofs

open Sys2Proof Sys2Proof.Machine Sys2Proof.Laws

theorem clocked_next (s : State) (i : Instr) (t : State) : ∃ u, s.clocked i (.next t) = .next u := by
  rcases clocked_cases s (i := i) (o := .next t) with ⟨_, through⟩ | ⟨_, held⟩
  · exact ⟨t, through⟩
  · exact ⟨s.hold i, held⟩

/-- Every command answers a next state. -/
theorem exec_next (c : Instr) (s : State) : ∃ t, exec c s = .next t := by
  cases c
  -- Timetable entries: the sequencer's own gate is `State.canIssue`.
  case load | store | stash | unstash | arrayMvm | arrayWriteFull | arrayWriteDelta | matmul | fwadd | drainNarrow |
      drainWide | drainVector | drainFull | vstream | send | recv | route | ret | waitToken | signal | fence | anchorSet |
      anchorScales | anchorDescs | nop | commitPoint => exact ⟨_, rfl⟩
  -- Events that need no clock, or test theirs themselves.
  case trimBoundary | fabricRefLoss | mctpDictionaryMessage | logbookI3cRead | mgmtRstPin | surveyEntryEnd | regAlarm |
      thermal | burstSw | burstEntryEnd | selfcalReq | selfcalPeriod | selfcalStart | selfcalEnd | perstAssert | hotReset |
      linkDown | modRstPin | powerInputInRange | undervoltage | overvoltage | criticalTemperature | railOutOfRegulation |
      powerLimitEvaluation | thermalLevelTick | pllLockLoss | pllRelock | clockFail | startupTimeout | powerLoss |
      fabricRefReturn | perstRelease | thermalClear | regAlarmClear | dynamicAddressAssignment | endpointIdAssignment =>
    exact ⟨_, rfl⟩
  all_goals exact clocked_next _ _ _

/-- Settles O3: a step is a command's meaning, or the sequencers' own act. -/
theorem noCommandIsRefused : Obligations.NoCommandIsRefused := by
  refine ⟨exec_next, fun s => ?_⟩
  unfold step
  split
  · exact exec_next _ _
  · split
    · next c others _ =>
      obtain ⟨t, ht⟩ := exec_next c { s with startup := { s.startup with held := others, letting := true } }
      exact ⟨_, congrArg letThrough ht⟩
    · split
      · exact ⟨_, rfl⟩
      · exact ⟨_, rfl⟩
      · exact exec_next _ _

end Sys2Proof.Proofs
end

section
/-! PROOFS. Rules of the sequencer's shared operations (R197 to R199): what an issue leaves of the core it issues for, where
nothing follows it, and memory without an uncorrectable word. -/

namespace Sys2Proof.Proofs

open Sys2Proof Sys2Proof.Machine Sys2Proof.Laws

/-! ### Issue -/

section
variable {s : State} {k : Nat} {m : Cmn} {e : Entry} (h : s.ready k m e)
include h

/-- Nothing holds a core that can issue. -/
theorem ready_hold : (s.core k).hold = none := by
  obtain ⟨_, can, _⟩ := h
  simp only [State.canIssue, Bool.and_eq_true] at can
  obtain ⟨⟨_, hold⟩, _⟩ := can
  exact Option.isNone_iff_eq_none.1 hold

theorem ready_coreOk : k < 4096 := of_decide_eq_true h.1

theorem ready_wf : e.wf = true := by
  obtain ⟨_, _, _, fields, _⟩ := h
  simp only [Entry.okWith, Bool.and_eq_true] at fields
  obtain ⟨⟨wf, _⟩, _⟩ := fields
  exact wf

end

section
variable (s : State) (k : Nat)

@[simp] theorem core_counted (c : Nat) : (s.counted k).core c = s.core c := rfl
@[simp] theorem mem_counted : (s.counted k).mem = s.mem := rfl
@[simp] theorem memBad_counted : (s.counted k).memBad = s.memBad := rfl

theorem fget_counted_next : (s.counted k).fget .SEQ_ENTRY_NEXT k = (s.fget .SEQ_ENTRY_NEXT k + 1) % 2 ^ 32 :=
  fget_fset _ _ _ _ _ _ (by decide)

@[simp] theorem effAddr_counted (a : MemAddr) : (s.counted k).effAddr a = s.effAddr a := rfl

@[simp] theorem seqState_modCore (g : Core → Core) (c : Nat) : (s.modCore k g).seqState c = s.seqState c := rfl

@[simp] theorem seqState_counted (c : Nat) : (s.counted k).seqState c = s.seqState c :=
  fget_fset_off _ _ _ _ _ _ _ _ _ _ (by decide)

/-- The busy bit is of the engine's section. -/
theorem fget_engineBusy {f : Fld} (h : f.sec ≠ .engine) (c i j : Nat) : (s.engineBusy k).fget f c i j = s.fget f c i j := by
  unfold State.engineBusy
  dsimp only
  split
  · rfl
  · exact fget_fset_sec _ _ _ _ _ _ _ _ _ _ h

variable (u : Nat) (it : QItem)

theorem fget_enqueue {f : Fld} (h : f.sec ≠ .engine) (c i j : Nat) : (s.enqueue k u it).fget f c i j = s.fget f c i j :=
  fget_engineBusy _ _ h _ _ _

@[simp] theorem seqState_enqueue (c : Nat) : (s.enqueue k u it).seqState c = s.seqState c :=
  fget_enqueue s k u it (by decide) _ _ _

theorem faults_enqueue : (s.enqueue k u it).faults = s.faults := by
  unfold State.enqueue State.engineBusy
  dsimp only
  split <;> rfl

theorem core_enqueue : (s.enqueue k u it).core k = (s.core k).setQueue u ((s.core k).queue u ++ [it]) := by
  rw [State.enqueue, State.core, engineBusy_cores]
  exact core_modCore s k _

theorem core_enqueue_mover : (s.enqueue k 0 it).core k = { s.core k with qMover := (s.core k).qMover ++ [it] } :=
  core_enqueue s k 0 it

theorem core_enqueue_ne {c : Nat} (h : c ≠ k) : (s.enqueue k u it).core c = s.core c := by
  rw [State.enqueue, State.core, engineBusy_cores]
  exact core_modCore_ne s k c _ h

@[simp] theorem effAddr_enqueue (a : MemAddr) : (s.enqueue k u it).effAddr a = s.effAddr a := by
  have job : (s.enqueue k u it).job = s.job := engineBusy_job ..
  simp only [State.effAddr, State.regionBase, enqueue_ledger, job]

end

/-- Where the vector unit waits for nothing and nothing holds issue, nothing follows a change in the main section, nor on a
halted core. -/
theorem advance_of_idle {s : State} {c : Nat} (ends : s.seqState c ≠ 3 ∧ s.seqState c ≠ 4)
    (idle : (s.core c).qVector = []) (hold : (s.core c).hold = none) : s.advance c = s := by
  have kick : s.kickVector c = s := by rw [State.kickVector, idle]
  have settled : s.settle c = s := by simp only [State.settle, hold]
  rw [State.advance, kick, settled, State.sectionEnd]
  split
  · rfl
  · exact if_neg (by simp [ends])

/-! ### Memory without an uncorrectable word -/

section
variable {s : State} (sound : s.memBad = [])
include sound

theorem readMem_of_sound (a n : Nat) (k : Option Nat) : s.readMem a n k = (s.load a n, s) := by
  rw [State.readMem, badIn_of_memBad sound]
  rfl

theorem writeMem_of_sound (a : Nat) (bs : List Byte) (k : Option Nat) :
    s.writeMem a bs k = { s with mem := s.mem.writeBytes a bs } := by
  simp [State.writeMem, State.store, badIn_of_memBad sound, sound, State.raiseBad]

end

/-! ### A core's write of memory (R19, R283, R403) -/

/-- The ready words are the exchange unit's. -/
theorem noteReady_frame (s : State) (a n : Nat) :
    s.noteReady a n = { s with regs := (s.noteReady a n).regs, exch := (s.noteReady a n).exch } := by
  unfold State.noteReady
  dsimp only
  split
  · rfl
  · split <;> rfl

theorem fget_noteReady (s : State) (a n : Nat) {f : Fld} (h : f.sec ≠ .exch) (c i j : Nat) :
    (s.noteReady a n).fget f c i j = s.fget f c i j := by
  unfold State.noteReady
  dsimp only
  split
  · rfl
  · split
    · rfl
    · exact fget_fset_sec _ _ _ _ _ _ _ _ _ _ h

/-- The result pages are the host's. -/
theorem stageHook_frame (s : State) (a n : Nat) :
    s.stageHook a n = { s with fresh := (s.stageHook a n).fresh, host := (s.stageHook a n).host } := by
  unfold State.stageHook
  dsimp only
  split <;> rfl

section
variable {s : State} (sound : s.memBad = []) (c a : Nat) (bs : List Byte)
include sound

/-- What a core's write of sound memory can change. -/
theorem coreWrite_frame : ∃ regs exch fresh host, s.coreWrite c a bs =
    { s with mem := s.mem.writeBytes a bs, regs := regs, exch := exch, fresh := fresh, host := host } := by
  rw [State.coreWrite, writeMem_of_sound sound]
  have ready := noteReady_frame { s with mem := s.mem.writeBytes a bs } a bs.length
  exact ⟨_, _, _, _, (stageHook_frame ..).trans
    (congrArg (fun t : State =>
      { t with fresh := (t.stageHook a bs.length).fresh, host := (t.stageHook a bs.length).host }) ready)⟩

theorem mem_coreWrite : (s.coreWrite c a bs).mem = s.mem.writeBytes a bs := by
  obtain ⟨_, _, _, _, frame⟩ := coreWrite_frame sound c a bs
  rw [frame]

theorem core_coreWrite (d : Nat) : (s.coreWrite c a bs).core d = s.core d := by
  obtain ⟨_, _, _, _, frame⟩ := coreWrite_frame sound c a bs
  rw [frame]
  rfl

theorem dict_coreWrite : (s.coreWrite c a bs).dict = s.dict := by
  obtain ⟨_, _, _, _, frame⟩ := coreWrite_frame sound c a bs
  rw [frame]

theorem faults_coreWrite : (s.coreWrite c a bs).faults = s.faults := by
  obtain ⟨_, _, _, _, frame⟩ := coreWrite_frame sound c a bs
  rw [frame]

theorem fget_coreWrite {f : Fld} (h : f.sec ≠ .exch) (d i j : Nat) :
    (s.coreWrite c a bs).fget f d i j = s.fget f d i j := by
  rw [State.coreWrite, fget_congr (congrArg State.regs (stageHook_frame ..)), writeMem_of_sound sound]
  exact fget_noteReady _ a bs.length h d i j

theorem seqState_coreWrite (d : Nat) : (s.coreWrite c a bs).seqState d = s.seqState d :=
  fget_coreWrite sound c a bs (by decide) d 0 0

end

/-! ### Issue of LOAD: what stops it -/

/-- Settles O8: the tests of an issue, in their order. -/
theorem issueWaitsForRoomAndRefusesBadFields : Obligations.IssueWaitsForRoomAndRefusesBadFields := by
  intro s k u m e go
  unfold State.issue
  refine ⟨fun stopped => ?_, fun core can unit full => ?_, fun core can room fields => ?_, fun f => rfl⟩
  · exact if_pos (by simpa using stopped)
  · rw [if_neg (by simp [core, can]), if_pos ⟨unit, full⟩]
  · rw [if_neg (by simp [core, can]), if_neg fun ⟨unit, full⟩ => absurd (room unit) (Nat.not_lt.2 full)]
    exact if_pos (by simp [fields])

end Sys2Proof.Proofs
end

section
/-! PROOFS. Entries that start at issue (R198, R199, R209, R213, R215, R219, R230): the checks read the state as it was
before SEQ_ENTRY counted on, and the entry stands in its unit's queue before its effect. -/

namespace Sys2Proof.Proofs

open Sys2Proof Sys2Proof.Machine Sys2Proof.Laws

section
variable {s : State} {k : Nat} {m : Cmn}

/-- LOAD past its address checks. -/
theorem exec_load {f : MoveF} (ready : s.ready k m (.load f)) (sound : s.moveFault f = none) :
    exec (.load k m f) s = .next
      ((((s.counted k).enqueue k 0 { no := s.fget .SEQ_ENTRY_NEXT k, entry := .load f, c := m, started := true }).loadLines
        k f).advance k) := by
  have same : (s.counted k).moveFault f = none := sound
  refine congrArg _ ((issue_of_ready ready _).trans ?_)
  rw [same]
  rfl

/-- STORE past its address checks, on no ledger page. -/
theorem exec_store {f : MoveF} (ready : s.ready k m (.store f)) (sound : s.moveFault f = none)
    (off : ∀ a ∈ s.moveLines f, s.inPages a (MoveBytes f) = false) :
    exec (.store k m f) s = .next
      ((((s.counted k).enqueue k 0 { no := s.fget .SEQ_ENTRY_NEXT k, entry := .store f, c := m, started := true }).storeLines
        k f).advance k) := by
  have same : (s.counted k).moveFault f = none := sound
  have free : ((s.counted k).moveLines f).any (fun a => (s.counted k).inPages a (MoveBytes f)) = false :=
    List.any_eq_false.2 fun a ha => ne_true_of_eq_false (off a ha)
  refine congrArg _ ((issue_of_ready ready _).trans ?_)
  rw [same]
  dsimp only
  rw [free]
  rfl

/-- UNSTASH of one line that was kept without a map. -/
theorem exec_unstash {f : UnstashF} {r : StashRec} (ready : s.ready k m (.unstash f))
    (kept : (s.core k).stash.find? f.stashNo = some r) (plain : r.hasMap = false) (single : r.map = [true])
    (aligned : f.larder % 32 = 0) (inside : inLarder f.larder ((r.linew + 1) * 32 * (r.lines + 1)) = true) :
    exec (.unstash k m f) s = .next
      ((((((s.counted k).enqueue k 0 { no := s.fget .SEQ_ENTRY_NEXT k, entry := .unstash f, c := m, started := true }).readMem
        r.addr ((r.linew + 1) * 32) (some k)).2.modCore k fun x =>
          { x with larder := x.larder.writeBytes f.larder (s.load r.addr ((r.linew + 1) * 32)) }).advance k)) := by
  have same : ((s.counted k).core k).stash.find? f.stashNo = some r := kept
  refine congrArg _ ((issue_of_ready ready _).trans ?_)
  dsimp only
  rw [same]
  dsimp only
  rw [if_neg (by simp [aligned, inside]), single, plain]
  simp [State.startNow, State.readMem, State.load]

end

/-- Settles O9: each entry's checks pass, and what follows a started entry is what `State.advance` says. -/
theorem startedEntriesTakeEffect : Obligations.StartedEntriesTakeEffect := by
  intro s k m
  refine ⟨fun f => exec_load, fun f => exec_store, fun f ready => ?_, fun f ready => ?_, fun f ready => ?_, ?_,
    fun calm hold => advance_of_calm calm hold⟩
  · refine congrArg _ ((issue_of_ready ready _).trans ?_)
    dsimp only
    rw [fgetS_counted s k (by decide)]
    rfl
  · exact congrArg _ ((issue_of_ready ready _).trans rfl)
  · exact congrArg _ ((issue_of_ready ready _).trans rfl)
  · intro f r ready kept plain single aligned _ inside
    exact ⟨_, exec_unstash ready kept plain single aligned inside, rfl⟩

end Sys2Proof.Proofs
end

section
/-! PROOFS. What LOAD and STORE move (R208, R209). The lines of a LOAD go to the larder one behind the other, so no line
overwrites an earlier one. -/

namespace Sys2Proof.Proofs

open Sys2Proof Sys2Proof.Machine Sys2Proof.Laws

/-! ### Cores and lines -/

/-- The later of two stores under one key stays. -/
theorem put_put {α : Type} (m : SMap α) (a : Nat) (v w : α) : (m.put a v).put a w = m.put a w := by
  induction m with
  | nil => simp [SMap.put]
  | cons x r ih =>
    obtain ⟨k, y⟩ := x
    simp only [SMap.put]
    split
    · simp [SMap.put]
    · split
      · simp [SMap.put]
      · next below differs => simp [SMap.put, below, differs, ih]

/-- Two changes of one core are one. -/
theorem modCore_modCore (s : State) (c : Nat) (f g : Core → Core) :
    (s.modCore c f).modCore c g = s.modCore c fun x => g (f x) := by
  have core : (s.setCore c (f (s.core c))).core c = f (s.core c) := core_modCore s c f
  rw [State.modCore, State.modCore, core, State.setCore, State.setCore, put_put]
  rfl

/-- The addresses of rows at a pitch, with their numbers. -/
theorem zipIdx_rowAddrs (base pitch rows : Nat) :
    (rowAddrs base pitch rows).zipIdx = (List.range rows).map fun i => (base + i * pitch, i) := by
  apply List.ext_getElem
  · simp [rowAddrs]
  · intro i _ _
    simp [rowAddrs]

/-- One line of a LOAD: `n` bytes from `a` to larder address `d`. -/
def loadLine (s : State) (c a d n : Nat) : State :=
  ((s.readMem a n (some c)).2.modCore c fun k => { k with larder := k.larder.writeBytes d (s.readMem a n (some c)).1 }).noteOrigin
    c a d n

theorem loadLines_eq (s : State) (c : Nat) (f : MoveF) : s.loadLines c f =
    (List.range (f.lines + 1)).foldl (fun t i =>
      loadLine t c (s.effAddr f.mem + i * (f.pitch * 32)) (f.larder + MoveBytes f * i) (MoveBytes f)) s := by
  rw [State.loadLines, State.moveLines, zipIdx_rowAddrs, List.foldl_map]
  rfl

theorem noteOrigin_cases (s : State) (c a d n : Nat) : s.noteOrigin c a d n = s ∨
    ∃ o : SMap Nat → SMap Nat, s.noteOrigin c a d n = s.modCore c fun x => { x with origin := o x.origin } := by
  unfold State.noteOrigin
  split
  · exact .inl rfl
  · exact .inr ⟨fun m => (List.range (n / 16)).foldl (fun m i =>
      if s.inPages a n = true then m.put (d / 16 + i) (a + 16 * i) else m.del (d / 16 + i)) m, rfl⟩

section
variable {s : State} (sound : s.memBad = [])
include sound

/-- A line of a LOAD changes the larder, and where its blocks come from. -/
theorem loadLine_of_sound (c a d n : Nat) : ∃ o : SMap Nat → SMap Nat, loadLine s c a d n =
    s.modCore c fun x => { x with larder := x.larder.writeBytes d (s.load a n), origin := o x.origin } := by
  rw [loadLine, readMem_of_sound sound]
  rcases noteOrigin_cases (s.modCore c fun k => { k with larder := k.larder.writeBytes d (s.load a n) }) c a d n with
    same | ⟨o, noted⟩
  · exact ⟨id, same⟩
  · exact ⟨o, noted.trans (modCore_modCore s c _ _)⟩

/-- Lines of `w` bytes from rows at pitch `p` stand in the larder one behind the other, and its other bytes stay. -/
theorem loadedLines_of_sound (c a p d w : Nat) : ∀ n, ∃ l o,
    (List.range (n + 1)).foldl (fun t i => loadLine t c (a + i * p) (d + w * i) w) s =
      s.modCore c (fun x => { x with larder := l, origin := o }) ∧
    (∀ i j, i ≤ n → j < w → l.read (d + w * i + j) = s.mem.read (a + i * p + j)) ∧
    ∀ b, b < d ∨ d + w * (n + 1) ≤ b → l.read b = (s.core c).larder.read b
  | 0 => by
    obtain ⟨o, line⟩ := loadLine_of_sound sound c (a + 0 * p) (d + w * 0) w
    refine ⟨_, _, line, fun i j hi hj => ?_, fun b hb => ?_⟩
    · obtain rfl := Nat.le_zero.1 hi
      rw [read_writeBytes _ _ _ _ (by simpa [State.load] using hj)]
      exact readBytes_getElem _ _ _ _ hj
    · exact read_writeBytes_ne _ _ _ _ (by simpa [State.load] using hb)
  | n + 1 => by
    obtain ⟨l, o, fold, inside, outside⟩ := loadedLines_of_sound c a p d w n
    obtain ⟨o', line⟩ := loadLine_of_sound (s := s.modCore c fun x => { x with larder := l, origin := o }) sound c
      (a + (n + 1) * p) (d + w * (n + 1)) w
    rw [List.range_succ, List.foldl_append, fold, List.foldl_cons, List.foldl_nil, line, modCore_modCore]
    refine ⟨_, _, rfl, fun i j hi hj => ?_, fun b hb => ?_⟩
    · rcases Nat.lt_or_eq_of_le hi with hi | rfl
      · have : w * i + w ≤ w * (n + 1) := by rw [← Nat.mul_succ]; exact Nat.mul_le_mul_left w (Nat.succ_le_of_lt hi)
        rw [read_writeBytes_ne _ _ _ _ (by omega)]
        exact inside i j (by omega) hj
      · rw [read_writeBytes _ _ _ _ (by simpa [State.load] using hj)]
        exact readBytes_getElem _ _ _ _ hj
    · have : w * (n + 1 + 1) = w * (n + 1) + w := Nat.mul_succ _ _
      rw [read_writeBytes_ne _ _ _ _ (by simp only [State.load, readBytes_length]; omega)]
      exact outside b (by omega)

end

/-- A LOAD of sound memory, as a change of its core alone. -/
theorem loadLines_of_sound {s : State} (sound : s.memBad = []) (k : Nat) (f : MoveF) : ∃ l o,
    s.loadLines k f = s.modCore k (fun x => { x with larder := l, origin := o }) ∧
    (∀ i j, i ≤ f.lines → j < MoveBytes f →
      l.read (f.larder + MoveBytes f * i + j) = s.mem.read (s.effAddr f.mem + i * (f.pitch * 32) + j)) ∧
    ∀ b, b < f.larder ∨ f.larder + MoveBytes f * (f.lines + 1) ≤ b → l.read b = (s.core k).larder.read b := by
  rw [loadLines_eq]
  exact loadedLines_of_sound sound k (s.effAddr f.mem) (f.pitch * 32) f.larder (MoveBytes f) f.lines

/-- Settles O10: the lines stand in the larder, and the entry in the MOVER's queue. -/
theorem loadCopiesItsLines : Obligations.LoadCopiesItsLines := by
  intro s k m f ready calm fault sound
  obtain ⟨main, idle⟩ := calm
  have hold := ready_hold ready
  refine ⟨_, exec_load ready fault, ?_⟩
  set it : QItem := { no := s.fget .SEQ_ENTRY_NEXT k, entry := .load f, c := m, started := true }
  set q := (s.counted k).enqueue k 0 it with hq
  have mem : q.mem = s.mem := enqueue_mem ..
  have core : q.core k = { s.core k with qMover := (s.core k).qMover ++ [it] } := core_enqueue_mover ..
  obtain ⟨l, o, lines, inside, outside⟩ := loadLines_of_sound (s := q) ((enqueue_memBad ..).trans sound) k f
  have after : (q.loadLines k f).core k = { q.core k with larder := l, origin := o } := lines ▸ core_modCore ..
  rw [core] at after outside
  have stays : (q.loadLines k f).advance k = q.loadLines k f := by
    refine advance_of_calm ⟨?_, ?_⟩ ?_
    · rw [lines, hq]
      simpa using main
    · rw [after]; exact idle
    · rw [after]; exact hold
  rw [stays, after]
  refine ⟨fun i j hi hj => ?_, outside, ?_, fun c hc => ?_, ?_, rfl⟩
  · have := inside i j hi hj
    rwa [mem, hq, effAddr_enqueue, effAddr_counted] at this
  · rw [lines]; exact mem
  · rw [lines, core_modCore_ne _ _ _ _ hc]
    exact core_enqueue_ne _ _ _ _ hc
  · rw [lines, fget_modCore, hq, fget_enqueue _ _ _ _ (by decide)]
    exact fget_counted_next s k

/-- A STORE of one line is one write of memory. -/
theorem storeLines_single (s : State) (k : Nat) {f : MoveF} (single : f.lines = 0) : s.storeLines k f =
    s.coreWrite k (s.effAddr f.mem) ((s.core k).larder.readBytes f.larder (MoveBytes f)) := by
  rw [State.storeLines, State.moveLines, single, zipIdx_rowAddrs]
  simp

/-- Settles O11: the line is written, and a core's write changes no larder. -/
theorem storeWritesItsLine : Obligations.StoreWritesItsLine := by
  intro s k m f ready calm fault single off sound
  obtain ⟨main, idle⟩ := calm
  have hold := ready_hold ready
  have lines : ∀ a ∈ s.moveLines f, s.inPages a (MoveBytes f) = false := by
    simpa [State.moveLines, rowAddrs, single] using off
  refine ⟨_, exec_store ready fault lines, ?_⟩
  set it : QItem := { no := s.fget .SEQ_ENTRY_NEXT k, entry := .store f, c := m, started := true }
  set q := (s.counted k).enqueue k 0 it with hq
  have core : q.core k = { s.core k with qMover := (s.core k).qMover ++ [it] } := core_enqueue_mover ..
  have mem : q.mem = s.mem := enqueue_mem ..
  have soundQ : q.memBad = [] := (enqueue_memBad ..).trans sound
  have eff : q.effAddr f.mem = s.effAddr f.mem := effAddr_enqueue ..
  rw [storeLines_single q k single, core, eff]
  set bs := (s.core k).larder.readBytes f.larder (MoveBytes f)
  have tcore (c : Nat) := core_coreWrite soundQ k (s.effAddr f.mem) bs c
  have stays : (q.coreWrite k (s.effAddr f.mem) bs).advance k = q.coreWrite k (s.effAddr f.mem) bs := by
    refine advance_of_calm ⟨?_, ?_⟩ ?_
    · rw [seqState_coreWrite soundQ, hq]
      simpa using main
    · rw [tcore, core]; exact idle
    · rw [tcore, core]; exact hold
  rw [stays, mem_coreWrite soundQ, mem]
  refine ⟨fun j hj => ?_, fun b hb => ?_, fun c => ?_⟩
  · rw [read_writeBytes _ _ _ _ (by simpa [bs] using hj)]
    exact readBytes_getElem _ _ _ _ hj
  · exact read_writeBytes_ne _ _ _ _ (by simpa [bs] using hb)
  · rw [tcore]
    by_cases hc : c = k
    · rw [hc, core]
    · rw [core_enqueue_ne _ _ _ _ hc, core_counted]

end Sys2Proof.Proofs
end

section
/-! PROOFS. A halt (R240, R359): the core stands in state 5 with its code raised, its queues as they were, and nothing
follows. -/

namespace Sys2Proof.Proofs

open Sys2Proof Sys2Proof.Machine Sys2Proof.Laws

section
variable (s : State) (e : Code) (k no : Nat)

theorem raiseAfter_regs (d : Option Nat) (u : Nat) : (s.raiseAfter e d u).regs = (s.setCodeBit e d u).regs := by
  unfold State.raiseAfter
  dsimp only
  split
  · rfl
  · split <;> simp [State.countCode]

theorem raise_regs (u : Nat) : (s.raise e k u).regs = (s.setCodeBit e (some k) u).regs := by
  unfold State.raise
  split
  · exact raiseAfter_regs ..
  · exact raiseIn_regs ..

/-- A raised code touches its status bit's section only. -/
theorem fget_starved {f : Fld} (h : f.sec ≠ .exch) (d i j : Nat) : s.starved.fget f d i j = s.fget f d i j := by
  unfold State.starved
  split
  · exact (fget_congr (raiseIn_regs s .exchangeTimeout none 0x3F) f d i j).trans (fget_fset_sec _ _ _ _ _ _ _ _ _ _ h)
  · rfl

/-- The core's fault record and code, before it halts. -/
def haltRaised (s : State) (e : Code) (k no : Nat) : State :=
  State.raise (if s.fget .SEQ_FAULT_ENTRY_ENTRY k = 0xFFFFFFFF then s.fset .SEQ_FAULT_ENTRY_ENTRY no k else s) e k

/-- The core as it has halted; what more a halt does is the module's (R359, R506). -/
def haltedCore (s : State) (e : Code) (k no : Nat) : State :=
  ((haltRaised s e k no).fset .SEQ_STATUS_STATE 5 k).fset .ENGINE_STATUS_HALTED 1 k

theorem halt_cases : ∃ job, s.halt e k no = { haltedCore s e k no with job := job } ∨
    s.halt e k no = State.starved { (haltedCore s e k no).fset .RECOVERY_STATUS_EARLY_STOP 1 with job := job } := by
  unfold State.halt
  extract_lets after s1 s2 s3
  have same : s3 = haltedCore s e k no := rfl
  clear_value s3
  subst same
  split
  · exact ⟨_, .inl rfl⟩
  · split
    · exact ⟨_, .inr rfl⟩
    · exact ⟨(haltedCore s e k no).job, .inl rfl⟩

/-- Fields of a core after it has halted. -/
theorem fget_halt {f : Fld} (h : f.sec ≠ .exch ∧ f.sec ≠ .recovery) (d i j : Nat) :
    (s.halt e k no).fget f d i j = (haltedCore s e k no).fget f d i j := by
  obtain ⟨exch, recovery⟩ := h
  rcases halt_cases s e k no with ⟨job, same | stopped⟩
  · rw [same]
    rfl
  · rw [stopped, fget_starved _ exch]
    exact fget_fset_sec _ _ _ _ _ _ _ _ _ _ recovery

theorem core_halt (d : Nat) : (s.halt e k no).core d = s.core d := by
  have raised : (haltedCore s e k no).cores = s.cores := by
    refine (raise_cores _ e k _).trans ?_
    split <;> rfl
  have cores : (s.halt e k no).cores = s.cores := by
    rcases halt_cases s e k no with ⟨job, same | stopped⟩
    · rw [same]
      exact raised
    · rw [stopped, starved_cores]
      exact raised
  rw [State.core, cores, State.core]

theorem seqState_halt : (s.halt e k no).seqState k = 5 :=
  (fget_halt s e k no (by decide) k 0 0).trans <|
    (fget_fset_sec _ _ _ _ _ _ _ _ _ _ (by decide)).trans (fget_fset _ _ _ _ _ _ (by decide))

theorem halted_halt : (s.halt e k no).fget .ENGINE_STATUS_HALTED k = 1 :=
  (fget_halt s e k no (by decide) k 0 0).trans (fget_fset _ _ _ _ _ _ (by decide))

/-- Nothing follows a halt. -/
theorem advance_halt (idle : (s.core k).qVector = []) (hold : (s.core k).hold = none) :
    (s.halt e k no).advance k = s.halt e k no :=
  advance_of_idle (by simp [seqState_halt]) (by rw [core_halt]; exact idle) (by rw [core_halt]; exact hold)

end

/-- An entry that a check at issue stops halts its core, and nothing follows. -/
theorem advance_halt_counted {s : State} {k : Nat} {m : Cmn} {x : Entry} (ready : s.ready k m x) (calm : s.calm k)
    (e : Code) (no : Nat) : ((s.counted k).halt e k no).advance k = (s.counted k).halt e k no := by
  obtain ⟨_, idle⟩ := calm
  exact advance_halt (s.counted k) e k no idle (ready_hold (s := s) ready)

end Sys2Proof.Proofs
end

section
/-! PROOFS. Token counters (R200 to R202): what a signal adds and a WAIT_TOKEN subtracts, on cores in their main section. -/

namespace Sys2Proof.Proofs

open Sys2Proof Sys2Proof.Machine Sys2Proof.Laws

/-! ### Counters and their neighbours in the register bank -/

section
variable (s : State) (k v : Nat) {t i : Nat}

theorem fget_token : (s.fset .TOKEN_COUNT v k t).fget .TOKEN_COUNT k t = v % 2 ^ 16 :=
  fget_fset _ _ _ _ _ _ (by decide)

/-- Token counters stand in registers of their own. -/
theorem fget_token_ne (ht : t < 64) (hi : i < 64) (h : i ≠ t) (d : Nat) :
    (s.fset .TOKEN_COUNT v k t).fget .TOKEN_COUNT d i = s.fget .TOKEN_COUNT d i := by
  refine fget_fset_off _ _ _ _ _ _ _ _ _ _ ?_
  simp only [Fld.addr, Fld.TOKEN_COUNT]
  omega

/-- The sequencer's other registers lie below the counters. -/
theorem fget_fset_token {f : Fld} {x y : Nat} (low : f.addr x y < 0x100) (ht : t < 64) (d : Nat) :
    (s.fset .TOKEN_COUNT v k t).fget f d x y = s.fget f d x y := by
  refine fget_fset_off _ _ _ _ _ _ _ _ _ _ ?_
  simp only [show Fld.TOKEN_COUNT.addr t 0 = 0x100 + 4 * t by simp [Fld.addr, Fld.TOKEN_COUNT]]
  omega

theorem fget_token_fset {f : Fld} {x y : Nat} (low : f.addr x y < 0x100) (hi : i < 64) (d : Nat) :
    (s.fset f v k x y).fget .TOKEN_COUNT d i = s.fget .TOKEN_COUNT d i := by
  refine fget_fset_off _ _ _ _ _ _ _ _ _ _ ?_
  simp only [show Fld.TOKEN_COUNT.addr i 0 = 0x100 + 4 * i by simp [Fld.addr, Fld.TOKEN_COUNT]]
  omega

theorem seqState_fset_token (ht : t < 64) (d : Nat) : (s.fset .TOKEN_COUNT v k t).seqState d = s.seqState d :=
  fget_fset_token s k v (by decide) ht d

theorem fget_token_counted (hi : i < 64) (d : Nat) : (s.counted k).fget .TOKEN_COUNT d i = s.fget .TOKEN_COUNT d i :=
  fget_token_fset s k _ (by decide) hi d

end

/-! ### What follows where something holds issue -/

section
variable {s : State} {c : Nat}

theorem kickVector_of_idle (idle : (s.core c).qVector = []) : s.kickVector c = s := by
  rw [State.kickVector, idle]

theorem sectionEnd_of_outside (ends : s.seqState c ≠ 3 ∧ s.seqState c ≠ 4) : s.sectionEnd c = s := by
  rw [State.sectionEnd]
  split
  · rfl
  · exact if_neg (by simp [ends])

theorem sectionEnd_of_main (main : s.seqState c = 1) : s.sectionEnd c = s :=
  sectionEnd_of_outside (by simp [main])

theorem endWait_of_free (free : (s.core c).hold = none) : s.endWait c = s := by
  rw [State.endWait, free]

theorem calm_counted (calm : s.calm c) : (s.counted c).calm c := by
  obtain ⟨main, idle⟩ := calm
  exact ⟨(seqState_counted s c c).trans main, idle⟩

variable {f : WaitF} {m : Cmn}

theorem settle_of_wait (hold : (s.core c).hold = some (.wait f m)) : s.settle c = s.endWait c := by
  rw [State.settle, hold]

theorem endWait_of_short (hold : (s.core c).hold = some (.wait f m)) (short : s.fget .TOKEN_COUNT c f.token < f.count) :
    s.endWait c = s := by
  rw [State.endWait, hold]
  exact if_pos (.inl short)

/-- Core `c` without the WAIT_TOKEN that held it, its counter less COUNT (R201). -/
def waitEnded (s : State) (c : Nat) (f : WaitF) : State :=
  ((if f.keep then s else s.fset .TOKEN_COUNT (s.fget .TOKEN_COUNT c f.token - f.count) c f.token).modCore c
    fun k => { k with hold := none }).fset .SEQ_STATUS_WAITING 0 c

theorem seqState_waitEnded (token : f.token < 64) : (waitEnded s c f).seqState c = s.seqState c := by
  refine (fget_fset_apart _ (f := .SEQ_STATUS_WAITING) (g := .SEQ_STATUS_STATE) (by decide) c 0).trans ?_
  rw [fget_modCore]
  split
  · rfl
  · exact seqState_fset_token s c _ token c

theorem core_waitEnded : (waitEnded s c f).core c = { s.core c with hold := none } := by
  rw [waitEnded, core_fset, core_modCore]
  split <;> rfl

theorem mem_waitEnded : (waitEnded s c f).mem = s.mem := by
  unfold waitEnded
  split <;> rfl

theorem waiting_waitEnded : (waitEnded s c f).fget .SEQ_STATUS_WAITING c = 0 := fget_fset _ _ _ _ _ _ (by decide)

/-- The counter after its wait has ended. -/
theorem fget_token_waitEnded (token : f.token < 64) : (waitEnded s c f).fget .TOKEN_COUNT c f.token =
    if f.keep then s.fget .TOKEN_COUNT c f.token else s.fget .TOKEN_COUNT c f.token - f.count := by
  rw [waitEnded, fget_token_fset _ _ _ (by decide) token, fget_modCore]
  split
  · rfl
  · have := fget_lt s .TOKEN_COUNT c f.token 0
    rw [fget_token, Nat.mod_eq_of_lt]
    exact Nat.lt_of_le_of_lt (Nat.sub_le _ _) this

theorem fget_token_waitEnded_ne (token : f.token < 64) {i : Nat} (hi : i < 64) (h : i ≠ f.token) :
    (waitEnded s c f).fget .TOKEN_COUNT c i = s.fget .TOKEN_COUNT c i := by
  rw [waitEnded, fget_token_fset _ _ _ (by decide) hi, fget_modCore]
  split
  · rfl
  · exact fget_token_ne s c _ token hi h c

theorem endWait_of_enough (hold : (s.core c).hold = some (.wait f m)) (enough : f.count ≤ s.fget .TOKEN_COUNT c f.token)
    (token : f.token < 64) (main : s.seqState c = 1) (quiet : m.csig = false) : s.endWait c = waitEnded s c f := by
  have runs : s.halted c = false := by simp [State.halted, main]
  rw [State.endWait, hold]
  dsimp only
  rw [if_neg (by simp [enough, runs]), quiet]
  exact sectionEnd_of_main ((seqState_waitEnded token).trans main)

end

/-! ### WAIT_TOKEN (R201) -/

/-- Core `k` with a WAIT_TOKEN that holds issue. -/
def waiting (s : State) (k : Nat) (f : WaitF) (m : Cmn) : State :=
  ((s.modCore k fun x => { x with hold := some (.wait f m) }).fset .SEQ_STATUS_WAIT_ON f.token k).fset .SEQ_STATUS_WAITING 1 k

section
variable {s : State} {k : Nat} {m : Cmn} {f : WaitF}

/-- TOKEN has 6 bits (R220). -/
theorem waitToken_token_lt (ready : s.ready k m (.waitToken f)) : f.token < 64 := by
  have fields : f.wf = true := ready_wf ready
  simp only [WaitF.wf, Bool.and_eq_true] at fields
  obtain ⟨⟨token, _⟩, _⟩ := fields
  exact of_decide_eq_true token

theorem exec_waitToken (ready : s.ready k m (.waitToken f)) :
    exec (.waitToken k m f) s = .next ((waiting (s.counted k) k f m).advance k) :=
  congrArg _ (issue_of_ready ready _)

theorem core_waiting : (waiting s k f m).core k = { s.core k with hold := some (.wait f m) } := by
  rw [waiting, core_fset, core_fset, core_modCore]

theorem mem_waiting : (waiting s k f m).mem = s.mem := rfl

theorem fget_token_waiting {i : Nat} (hi : i < 64) : (waiting s k f m).fget .TOKEN_COUNT k i = s.fget .TOKEN_COUNT k i := by
  rw [waiting, fget_token_fset _ _ _ (by decide) hi, fget_token_fset _ _ _ (by decide) hi, fget_modCore]

theorem seqState_waiting : (waiting s k f m).seqState k = s.seqState k :=
  (fget_fset_apart _ (f := .SEQ_STATUS_WAITING) (g := .SEQ_STATUS_STATE) (by decide) k 1).trans
    (fget_fset_apart _ (f := .SEQ_STATUS_WAIT_ON) (g := .SEQ_STATUS_STATE) (by decide) k f.token)

theorem waitOn_waiting (token : f.token < 64) : (waiting s k f m).fget .SEQ_STATUS_WAIT_ON k = f.token :=
  (fget_fset_apart _ (f := .SEQ_STATUS_WAITING) (g := .SEQ_STATUS_WAIT_ON) (by decide) k 1).trans
    ((fget_fset _ _ _ _ _ _ (by decide)).trans (Nat.mod_eq_of_lt token))

theorem flag_waiting : (waiting s k f m).fget .SEQ_STATUS_WAITING k = 1 := fget_fset _ _ _ _ _ _ (by decide)

theorem hold_waiting : ((waiting s k f m).core k).hold = some (.wait f m) := by rw [core_waiting]

/-- A WAIT_TOKEN whose counter is short holds issue. -/
theorem advance_waiting_of_short (calm : s.calm k) (short : s.fget .TOKEN_COUNT k f.token < f.count)
    (token : f.token < 64) : (waiting s k f m).advance k = waiting s k f m := by
  obtain ⟨main, idle⟩ := calm
  rw [State.advance, kickVector_of_idle (by rw [core_waiting]; exact idle), settle_of_wait hold_waiting,
    endWait_of_short hold_waiting (by rwa [fget_token_waiting token]),
    sectionEnd_of_main (seqState_waiting.trans main)]

/-- A WAIT_TOKEN whose counter suffices ends at once. -/
theorem advance_waiting_of_enough (calm : s.calm k) (enough : f.count ≤ s.fget .TOKEN_COUNT k f.token)
    (token : f.token < 64) (quiet : m.csig = false) :
    (waiting s k f m).advance k = waitEnded (waiting s k f m) k f := by
  obtain ⟨main, idle⟩ := calm
  have runs : (waiting s k f m).seqState k = 1 := seqState_waiting.trans main
  rw [State.advance, kickVector_of_idle (by rw [core_waiting]; exact idle), settle_of_wait hold_waiting,
    endWait_of_enough hold_waiting (by rwa [fget_token_waiting token]) token runs quiet,
    sectionEnd_of_main ((seqState_waitEnded token).trans runs)]

end

/-! ### SIGNAL (R201, R202, R220) -/

/-- Core `k` with a SIGNAL that holds issue. -/
def signalling (s : State) (k : Nat) (f : SignalF) (m : Cmn) : State :=
  s.modCore k fun x => { x with hold := some (.signal f m) }

/-- Core `k` with nothing that holds issue. -/
def unheld (s : State) (k : Nat) : State := s.modCore k fun x => { x with hold := none }

section
variable {s : State} {k : Nat} {m : Cmn} {f : SignalF}

/-- TOKEN has 6 bits (R220). -/
theorem signal_token_lt (ready : s.ready k m (.signal f)) : f.token < 64 := by
  have fields : f.wf = true := ready_wf ready
  simp only [SignalF.wf, Bool.and_eq_true] at fields
  obtain ⟨⟨⟨⟨_, token⟩, _⟩, _⟩, _⟩ := fields
  exact of_decide_eq_true token

theorem exec_signal (ready : s.ready k m (.signal f)) :
    exec (.signal k m f) s = .next ((signalling (s.counted k) k f m).advance k) :=
  congrArg _ (issue_of_ready ready _)

theorem core_signalling : (signalling s k f m).core k = { s.core k with hold := some (.signal f m) } := core_modCore s k _

theorem core_unheld : (unheld s k).core k = { s.core k with hold := none } := core_modCore s k _

theorem unheld_signalling : unheld (signalling s k f m) k = unheld s k := modCore_modCore ..

/-- A SIGNAL whose units are done sends its count, to its own core or through the network. -/
theorem settle_signalling (done : (s.core k).unitsDone f.units = true) (quiet : m.csig = false) :
    (signalling s k f m).settle k =
      if f.self then (unheld s k).tokenAdd k f.token f.count ((unheld s k).lastIssued k)
      else (unheld s k).route f.loc f.dmod f.dcore
        { srcMod := 0, srcCore := k, isSignal := true, dtoken := f.token, count := f.count } := by
  have still : ((signalling s k f m).core k).unitsDone f.units = true := by rw [core_signalling]; exact done
  rw [State.settle, show ((signalling s k f m).core k).hold = some (.signal f m) by rw [core_signalling]]
  dsimp only
  rw [if_pos still, State.csignal, quiet, ← unheld_signalling]
  rfl

theorem tokenPut_of_room {t n no : Nat} (room : s.fget .TOKEN_COUNT k t + n ≤ 65535) :
    s.tokenPut k t n no = s.fset .TOKEN_COUNT (s.fget .TOKEN_COUNT k t + n) k t :=
  if_neg (Nat.not_lt.2 room)

theorem tokenPut_of_overflow {t n no : Nat} (full : 65535 < s.fget .TOKEN_COUNT k t + n) :
    s.tokenPut k t n no = (s.fset .TOKEN_COUNT 65535 k t).halt .tokenOvf k no :=
  if_pos full

/-- TOKEN_OVF stands in its status bit. -/
theorem tokenOvf_halt (no : Nat) : (s.halt .tokenOvf k no).fget .SEQ_STATUS_TOKEN_OVF k = 1 := by
  rw [fget_halt _ _ _ _ (by decide), haltedCore, fget_fset_sec _ _ _ _ _ _ _ _ _ _ (by decide)]
  refine (fget_fset_apart _ (f := .SEQ_STATUS_STATE) (g := .SEQ_STATUS_TOKEN_OVF) (by decide) k 5).trans ?_
  exact (fget_congr (raise_regs _ .tokenOvf k 0x3F) _ _ _ _).trans (fget_fset _ _ _ _ _ _ (by decide))

/-- TOKEN_OVF leaves every counter. -/
theorem fget_token_halt (no : Nat) {i : Nat} (hi : i < 64) :
    (s.halt .tokenOvf k no).fget .TOKEN_COUNT k i = s.fget .TOKEN_COUNT k i := by
  rw [fget_halt _ _ _ _ (by decide), haltedCore, fget_token_fset _ _ _ (by decide) hi, fget_token_fset _ _ _ (by decide) hi]
  refine (fget_congr (raise_regs _ .tokenOvf k 0x3F) _ _ _ _).trans ((fget_token_fset _ _ _ (by decide) hi _).trans ?_)
  split
  · exact fget_token_fset _ _ _ (by decide) hi _
  · rfl

/-- Issue of a SIGNAL to its own core, whose units are done. -/
theorem advance_signalling_self (idle : (s.core k).qVector = []) (self : f.self = true)
    (done : (s.core k).unitsDone f.units = true) (quiet : m.csig = false) : (signalling s k f m).advance k =
      ((unheld s k).tokenPut k f.token f.count ((unheld s k).lastIssued k)).sectionEnd k := by
  have free (t n no : Nat) : (((unheld s k).tokenPut k t n no).core k).hold = none := by
    rw [State.tokenPut]
    split
    · rw [core_halt, core_fset, core_unheld]
    · rw [core_fset, core_unheld]
  rw [State.advance, kickVector_of_idle (by rw [core_signalling]; exact idle), settle_signalling done quiet, if_pos self,
    State.tokenAdd, endWait_of_free (free _ _ _)]

end

/-- Settles O12: a wait that is short holds issue, one that is not ends; a signal adds its count, or halts its core. -/
theorem waitTokenHoldsUntilItsCount : Obligations.WaitTokenHoldsUntilItsCount := by
  intro s k m
  refine ⟨fun f ready calm short => ?_, fun f ready calm enough quiet => ?_, fun f ready calm self done quiet room => ?_,
    fun f ready calm self done quiet full => ?_⟩
  · have token := waitToken_token_lt ready
    have same := fget_token_counted s k token k
    refine ⟨_, exec_waitToken ready, ?_⟩
    rw [advance_waiting_of_short (calm_counted calm) (by rwa [same]) token]
    refine ⟨hold_waiting, ?_, flag_waiting, waitOn_waiting token, fun i hi => ?_, rfl⟩
    · simp [State.canIssue, hold_waiting]
    · exact (fget_token_waiting hi).trans (fget_token_counted s k hi k)
  · have token := waitToken_token_lt ready
    have same := fget_token_counted s k token k
    refine ⟨_, exec_waitToken ready, ?_⟩
    rw [advance_waiting_of_enough (calm_counted calm) (by rwa [same]) token quiet, core_waitEnded,
      fget_token_waitEnded token, fget_token_waiting token, same]
    refine ⟨rfl, waiting_waitEnded, rfl, fun i hi h => ?_, mem_waitEnded⟩
    rw [fget_token_waitEnded_ne token hi h, fget_token_waiting hi, fget_token_counted s k hi]
  · have token := signal_token_lt ready
    obtain ⟨main, idle⟩ := calm
    have same : (unheld (s.counted k) k).fget .TOKEN_COUNT k f.token = s.fget .TOKEN_COUNT k f.token :=
      fget_token_counted s k token k
    refine ⟨_, exec_signal ready, ?_⟩
    rw [advance_signalling_self (s := s.counted k) idle self done quiet, tokenPut_of_room (by rwa [same]), sectionEnd_of_main]
    · refine ⟨?_, ?_, fun i hi h => ?_, rfl⟩
      · rw [core_fset, core_unheld]
      · rw [fget_token, same]
        exact Nat.mod_eq_of_lt (by omega)
      · rw [fget_token_ne _ _ _ token hi h]
        exact fget_token_counted s k hi k
    · rw [seqState_fset_token _ _ _ token]
      exact (seqState_counted s k k).trans main
  · have token := signal_token_lt ready
    obtain ⟨main, idle⟩ := calm
    have same : (unheld (s.counted k) k).fget .TOKEN_COUNT k f.token = s.fget .TOKEN_COUNT k f.token :=
      fget_token_counted s k token k
    refine ⟨_, exec_signal ready, ?_⟩
    rw [advance_signalling_self (s := s.counted k) idle self done quiet, tokenPut_of_overflow (by rwa [same]),
      sectionEnd_of_outside (by simp [seqState_halt])]
    exact ⟨(fget_token_halt _ token).trans (fget_token _ _ _), tokenOvf_halt _, seqState_halt .., halted_halt ..⟩

/-! ### A signal to another core (R202) -/

section
variable {s : State} {d : Nat}

/-- A signal behind no message of its source is added at once (R203). -/
theorem arrive_signal {g : Msg} (plan : s.hasPlan d = true) (holding : (s.core d).holding = [])
    (backlog : (s.core d).backlog = []) (signal : g.isSignal = true) :
    s.arrive d g = s.tokenAdd d g.dtoken g.count := by
  rw [State.arrive, plan, signal, holding, backlog]
  rfl

theorem route_local (g : Msg) (dmod : Nat) : s.route true dmod d g =
    s.arrive d { g with loc := true, srcMod := s.address, step := s.job.curStep, attempt := s.job.curAttempt } := rfl

/-- The end of a wait on core `d` leaves the state of every other sequencer. -/
theorem seqState_waitEnded_ne {g : WaitF} {k : Nat} (h : k % 4096 ≠ d % 4096) :
    (waitEnded s d g).seqState k = s.seqState k := by
  refine (fget_fset_inst _ _ _ _ _ _ _ _ _ _ h).trans ?_
  rw [fget_modCore]
  split
  · rfl
  · exact fget_fset_inst _ _ _ _ _ _ _ _ _ _ h

/-- A signal is added before the wait that pends tests. -/
theorem tokenAdd_ends_wait {t n no : Nat} {g : WaitF} {w : Cmn} (hold : (s.core d).hold = some (.wait g w)) (same : g.token = t)
    (token : t < 64) (main : s.seqState d = 1) (quiet : w.csig = false)
    (room : s.fget .TOKEN_COUNT d t + n ≤ 65535) (enough : g.count ≤ s.fget .TOKEN_COUNT d t + n) :
    s.tokenAdd d t n no = waitEnded (s.fset .TOKEN_COUNT (s.fget .TOKEN_COUNT d t + n) d t) d g := by
  subst same
  have sum : (s.fget .TOKEN_COUNT d g.token + n) % 2 ^ 16 = s.fget .TOKEN_COUNT d g.token + n := Nat.mod_eq_of_lt (by omega)
  rw [State.tokenAdd, tokenPut_of_room room]
  refine endWait_of_enough hold ?_ token ?_ quiet
  · rwa [fget_token, sum]
  · rwa [seqState_fset_token _ _ _ token]

end

/-- Settles O13: the signal is added, then the wait on core `d` tests. -/
theorem signalEndsAPendingWait : Obligations.SignalEndsAPendingWait := by
  intro s k d m w f g ready calm self loc rfl other hd done quiet quietW main plan hold same keep holding backlog
    room enough
  obtain ⟨mainK, idle⟩ := calm
  have token := signal_token_lt ready
  have hk := ready_coreOk ready
  set u := unheld (s.counted k) k
  have core : u.core f.dcore = s.core f.dcore := core_modCore_ne _ _ _ _ other
  have count : u.fget .TOKEN_COUNT f.dcore f.token = s.fget .TOKEN_COUNT f.dcore f.token := fget_token_counted s k token _
  have seq (c : Nat) : u.seqState c = s.seqState c := seqState_counted s k c
  have added := tokenAdd_ends_wait (s := u) (no := noEntry) (by rwa [core]) same token ((seq _).trans main) quietW
    (by rwa [count]) (by rwa [count])
  rw [count] at added
  set v := u.fset .TOKEN_COUNT (s.fget .TOKEN_COUNT f.dcore f.token + f.count) f.dcore f.token
  refine ⟨_, exec_signal ready, ?_⟩
  rw [State.advance, kickVector_of_idle (by rw [core_signalling]; exact idle),
    settle_signalling (s := s.counted k) done quiet, if_neg (by simp [self]), loc, route_local,
    arrive_signal (by rwa [State.hasPlan, core]) (by rwa [core]) (by rwa [core]) rfl, added, sectionEnd_of_main]
  · refine ⟨by rw [core_waitEnded], ?_, mem_waitEnded⟩
    have sum : v.fget .TOKEN_COUNT f.dcore f.token = s.fget .TOKEN_COUNT f.dcore f.token + f.count :=
      (fget_token _ _ _).trans (Nat.mod_eq_of_lt (by omega))
    have ended := fget_token_waitEnded (s := v) (c := f.dcore) (f := g) (same ▸ token)
    rwa [keep, if_neg Bool.false_ne_true, same, sum] at ended
  · rw [seqState_waitEnded_ne (by omega), seqState_fset_token _ _ _ token, seq]
    exact mainK

end Sys2Proof.Proofs
end

section
/-! PROOFS. STASH (R210, R228 to R231): where the cellar puts a stash, what it keeps of it, and the codes that stop it. -/

namespace Sys2Proof.Proofs

open Sys2Proof Sys2Proof.Machine Sys2Proof.Laws

/-! ### A place in the cellar (R228) -/

/-- `t` is `s` with the cellar of core `k` moved on: its pointers and its CELLAR_USE register, and nothing else. -/
structure CellarMoved (k : Nat) (s t : State) : Prop where
  core : t.core k = { s.core k with
    cellarUsed := (t.core k).cellarUsed, chunks := (t.core k).chunks, chunkUsed := (t.core k).chunkUsed }
  core_ne : ∀ c, c ≠ k → t.core c = s.core c
  frame : t = { s with cores := t.cores, regs := t.regs }
  fget : ∀ (f : Fld) i j, f.addr i j % 65536 ≠ 0x10 → ∀ c, t.fget f c i j = s.fget f c i j

theorem cellarMoved_modCore (k : Nat) (s : State) (used : Nat) (chunks : List Nat) (chunkUsed : Nat) :
    CellarMoved k s (s.modCore k fun x => { x with cellarUsed := used, chunks := chunks, chunkUsed := chunkUsed }) where
  core := by rw [core_modCore]
  core_ne _ h := core_modCore_ne _ _ _ _ h
  frame := rfl
  fget _ _ _ _ _ := rfl

theorem CellarMoved.fset {k : Nat} {s t : State} (moved : CellarMoved k s t) {g : Fld} (h : g.addr 0 0 % 65536 = 0x10) (v : Nat) :
    CellarMoved k s (t.fset g v k) where
  core := moved.core
  core_ne := moved.core_ne
  frame := by
    conv_lhs => rw [moved.frame]
    rfl
  fget f i j hf c := (fget_fset_off _ _ _ _ _ _ _ _ _ _ (by rwa [h])).trans (moved.fget f i j hf c)

section
variable {k : Nat} {s t : State} (moved : CellarMoved k s t)
include moved

theorem CellarMoved.larder_eq : (t.core k).larder = (s.core k).larder := by rw [moved.core]
theorem CellarMoved.stash_eq : (t.core k).stash = (s.core k).stash := by rw [moved.core]
theorem CellarMoved.skipped_eq : (t.core k).skipped = (s.core k).skipped := by rw [moved.core]
theorem CellarMoved.qVector_eq : (t.core k).qVector = (s.core k).qVector := by rw [moved.core]
theorem CellarMoved.hold_eq : (t.core k).hold = (s.core k).hold := by rw [moved.core]
theorem CellarMoved.mem_eq : t.mem = s.mem := by rw [moved.frame]
theorem CellarMoved.memBad_eq : t.memBad = s.memBad := by rw [moved.frame]
theorem CellarMoved.dict_eq : t.dict = s.dict := by rw [moved.frame]
theorem CellarMoved.faults_eq : t.faults = s.faults := by rw [moved.frame]
theorem CellarMoved.inPages_eq (a n : Nat) : t.inPages a n = s.inPages a n := by rw [moved.frame]; rfl
theorem CellarMoved.seqState_eq (c : Nat) : t.seqState c = s.seqState c := moved.fget .SEQ_STATUS_STATE 0 0 (by decide) c

end

section
variable {s : State} {k n : Nat} {h : CoreHdr} (hdr : (s.core k).hdr = some h)
include hdr

theorem placeStash_primary (fits : (s.core k).cellarUsed + n ≤ h.cellarKib * 1024 - 131072) :
    ∃ t, s.placeStash k n = some (h.cellarBase + 131072 + (s.core k).cellarUsed, t) ∧ CellarMoved k s t := by
  rw [State.placeStash, hdr]
  dsimp only
  rw [if_pos fits]
  exact ⟨_, rfl, (cellarMoved_modCore k s _ (s.core k).chunks (s.core k).chunkUsed).fset rfl _⟩

theorem placeStash_chunk {i : Nat} (full : h.cellarKib * 1024 - 131072 < (s.core k).cellarUsed + n)
    (last : (s.core k).chunks.getLast? = some i) (fits : (s.core k).chunkUsed + n ≤ chunkSize) :
    ∃ t, s.placeStash k n = some (s.plan.ovBase + i * chunkSize + (s.core k).chunkUsed, t) ∧ CellarMoved k s t := by
  rw [State.placeStash, hdr]
  dsimp only
  rw [if_neg (Nat.not_le.2 full), last, decide_eq_true fits]
  exact ⟨_, rfl, cellarMoved_modCore k s (s.core k).cellarUsed (s.core k).chunks _⟩

/-- The primary cellar and the current chunk have no room: the lowest chunk that no core holds decides. -/
theorem placeStash_beyond (full : h.cellarKib * 1024 - 131072 < (s.core k).cellarUsed + n)
    (none : (s.core k).chunks = [] ∨ chunkSize < (s.core k).chunkUsed + n) :
    s.placeStash k n = s.freeChunk.map fun i => (s.plan.ovBase + i * chunkSize,
      (s.modCore k fun q => { q with chunks := q.chunks ++ [i], chunkUsed := up32 n }).fset .CELLAR_USE_CHUNKS
        (min 1023 ((s.core k).chunks.length + 1)) k) := by
  rw [State.placeStash, hdr]
  dsimp only
  rw [if_neg (Nat.not_le.2 full)]
  split
  · next i last fits =>
    rcases none with empty | used
    · rw [empty] at last
      contradiction
    · exact absurd (of_decide_eq_true fits) (Nat.not_le.2 used)
  · split
    · next free => rw [free]; rfl
    · next i free => rw [free]; rfl

end

/-- A stash finds a place of the cellar (R228). -/
def CellarPlace (s : State) (k n a : Nat) (h : CoreHdr) : Prop :=
  let room := h.cellarKib * 1024 - 131072
  ((s.core k).cellarUsed + n ≤ room ∧ a = h.cellarBase + 131072 + (s.core k).cellarUsed) ∨
  (room < (s.core k).cellarUsed + n ∧ ∃ i, (s.core k).chunks.getLast? = some i ∧ (s.core k).chunkUsed + n ≤ chunkSize ∧
    a = s.plan.ovBase + i * chunkSize + (s.core k).chunkUsed) ∨
  (room < (s.core k).cellarUsed + n ∧ ((s.core k).chunks = [] ∨ chunkSize < (s.core k).chunkUsed + n) ∧
    ∃ i, s.freeChunk = some i ∧ a = s.plan.ovBase + i * chunkSize)

theorem placeStash_of_place {s : State} {k n a : Nat} {h : CoreHdr} (hdr : (s.core k).hdr = some h)
    (place : CellarPlace s k n a h) : ∃ t, s.placeStash k n = some (a, t) ∧ CellarMoved k s t := by
  rcases place with ⟨fits, rfl⟩ | ⟨full, i, last, fits, rfl⟩ | ⟨full, none, i, free, rfl⟩
  · exact placeStash_primary hdr fits
  · exact placeStash_chunk hdr full last fits
  · rw [placeStash_beyond hdr full none, free]
    exact ⟨_, rfl, (cellarMoved_modCore k s (s.core k).cellarUsed _ _).fset rfl _⟩

/-! ### STASH -/

/-- The lines of a stash that are kept (R229). -/
def keptLines (l : Mem) (f : StashF) : List Bool := (stashLines l f).map fun x => !f.skipZero || x.any (· ≠ 0)

/-- The bytes of a stash: its presence map, where SKIPZERO asks for one, and the kept lines (R229). -/
def stashBytes (l : Mem) (f : StashF) : List Byte :=
  (if f.skipZero then packMap (mapBytes (f.lines + 1)) (keptLines l f) else []) ++
    (((stashLines l f).zip (keptLines l f)).filter (·.2)).flatMap (·.1)

/-- What a STASH does past its checks, with the cellar moved on. -/
def stashed (s : State) (k : Nat) (it : QItem) (f : StashF) (a : Nat) (kept : List Bool) (data : List Byte) : State :=
  ((s.enqueue k 0 it).coreWrite k a data).modCore k fun x =>
    { x with stash := x.stash.put f.stashNo ⟨a, f.linew, f.lines, f.skipZero, kept⟩
             skipped := x.skipped + (kept.filter (!·)).length }

section
variable {s : State} {k : Nat} (sound : s.memBad = []) (it : QItem) (f : StashF) (a : Nat) (kept : List Bool)
  (data : List Byte)
include sound

theorem core_stashed : (stashed s k it f a kept data).core k = { s.core k with
    qMover := (s.core k).qMover ++ [it]
    stash := (s.core k).stash.put f.stashNo ⟨a, f.linew, f.lines, f.skipZero, kept⟩
    skipped := (s.core k).skipped + (kept.filter (!·)).length } := by
  rw [stashed, core_modCore, core_coreWrite ((enqueue_memBad ..).trans sound), core_enqueue_mover]

theorem core_stashed_ne {c : Nat} (h : c ≠ k) : (stashed s k it f a kept data).core c = s.core c := by
  rw [stashed, core_modCore_ne _ _ _ _ h, core_coreWrite ((enqueue_memBad ..).trans sound), core_enqueue_ne _ _ _ _ h]

theorem mem_stashed : (stashed s k it f a kept data).mem = s.mem.writeBytes a data := by
  rw [stashed, modCore_mem, mem_coreWrite ((enqueue_memBad ..).trans sound), enqueue_mem]

theorem dict_stashed : (stashed s k it f a kept data).dict = s.dict := by
  rw [stashed, modCore_dict, dict_coreWrite ((enqueue_memBad ..).trans sound), enqueue_dict]

theorem faults_stashed : (stashed s k it f a kept data).faults = s.faults := by
  rw [stashed, modCore_faults, faults_coreWrite ((enqueue_memBad ..).trans sound), faults_enqueue]

theorem fget_stashed {g : Fld} (h : g.sec = .seq) (c i j : Nat) :
    (stashed s k it f a kept data).fget g c i j = s.fget g c i j := by
  rw [stashed, fget_modCore, fget_coreWrite ((enqueue_memBad ..).trans sound) _ _ _ (by simp [h]),
    fget_enqueue _ _ _ _ (by simp [h])]

end

section
variable {s : State} {k : Nat} {m : Cmn} {f : StashF} (ready : s.ready k m (.stash f))
include ready

theorem exec_stash {a : Nat} {p : State} (aligned : f.larder % 32 = 0)
    (inside : inLarder f.larder ((f.linew + 1) * 32 * (f.lines + 1)) = true) (unused : (s.core k).stash.find? f.stashNo = none)
    (placed : (s.counted k).placeStash k (stashBytes (s.core k).larder f).length = some (a, p))
    (mapped : mappedRange a (stashBytes (s.core k).larder f).length = true)
    (off : p.inPages a (stashBytes (s.core k).larder f).length = false) :
    exec (.stash k m f) s = .next ((stashed p k
      { no := s.fget .SEQ_ENTRY_NEXT k, entry := .stash f, c := m, started := true } f a (keptLines (s.core k).larder f)
      (stashBytes (s.core k).larder f)).advance k) := by
  refine congrArg _ ((issue_of_ready ready _).trans ?_)
  dsimp only
  rw [core_counted, if_neg (by simp [aligned, inside]), if_neg (by simp [unused])]
  unfold stashBytes keptLines at *
  rw [placed]
  dsimp only
  rw [mapped, off]
  rfl

/-- What a STASH with a place in the cellar leaves. -/
theorem exec_stash_kept {a : Nat} {h : CoreHdr} (calm : s.calm k) (hdr : (s.core k).hdr = some h) (sound : s.memBad = [])
    (aligned : f.larder % 32 = 0) (inside : inLarder f.larder ((f.linew + 1) * 32 * (f.lines + 1)) = true)
    (unused : (s.core k).stash.find? f.stashNo = none)
    (mapped : mappedRange a (stashBytes (s.core k).larder f).length = true)
    (off : s.inPages a (stashBytes (s.core k).larder f).length = false)
    (place : CellarPlace s k (stashBytes (s.core k).larder f).length a h) :
    ∃ t, exec (.stash k m f) s = .next t ∧
      t.mem = s.mem.writeBytes a (stashBytes (s.core k).larder f) ∧
      (t.core k).stash = (s.core k).stash.put f.stashNo ⟨a, f.linew, f.lines, f.skipZero, keptLines (s.core k).larder f⟩ ∧
      (t.core k).skipped = (s.core k).skipped + ((keptLines (s.core k).larder f).filter (!·)).length ∧
      (t.core k).larder = (s.core k).larder ∧ (∀ c, c ≠ k → t.core c = s.core c) ∧
      t.fget .SEQ_ENTRY_NEXT k = (s.fget .SEQ_ENTRY_NEXT k + 1) % 2 ^ 32 ∧ t.dict = s.dict ∧ t.faults = s.faults := by
  obtain ⟨main, idle⟩ := calm
  obtain ⟨p, placed, moved⟩ := placeStash_of_place (s := s.counted k) hdr place
  have soundP : p.memBad = [] := moved.memBad_eq.trans sound
  have offP := (moved.inPages_eq a (stashBytes (s.core k).larder f).length).trans off
  refine ⟨_, exec_stash ready aligned inside unused placed mapped offP, ?_⟩
  set it : QItem := { no := s.fget .SEQ_ENTRY_NEXT k, entry := .stash f, c := m, started := true }
  set kept := keptLines (s.core k).larder f
  set data := stashBytes (s.core k).larder f
  have core := core_stashed soundP it f a kept data (k := k)
  have stays : (stashed p k it f a kept data).advance k = stashed p k it f a kept data := by
    refine advance_of_calm ⟨?_, ?_⟩ ?_
    · exact (fget_stashed soundP _ _ _ _ _ rfl _ _ _).trans ((moved.seqState_eq k).trans ((seqState_counted s k k).trans main))
    · rw [core]
      exact moved.qVector_eq.trans idle
    · rw [core]
      exact moved.hold_eq.trans (ready_hold (s := s) ready)
  rw [stays, core, mem_stashed soundP, dict_stashed soundP, faults_stashed soundP, fget_stashed soundP _ _ _ _ _ rfl,
    moved.mem_eq, moved.dict_eq, moved.faults_eq, moved.fget .SEQ_ENTRY_NEXT 0 0 (by decide), fget_counted_next]
  exact ⟨rfl, congrArg (SMap.put · _ _) moved.stash_eq, congrArg (· + _) moved.skipped_eq, moved.larder_eq,
    fun c hc => (core_stashed_ne soundP _ _ _ _ _ hc).trans (moved.core_ne c hc), rfl, rfl, rfl⟩

/-- A range that is not aligned, or passes the larder's end, stops the STASH first. -/
theorem exec_stash_unaligned (calm : s.calm k) (bad : f.larder % 32 ≠ 0 ∨
    inLarder f.larder ((f.linew + 1) * 32 * (f.lines + 1)) = false) :
    exec (.stash k m f) s = .next ((s.counted k).halt .operandAlign k (s.fget .SEQ_ENTRY_NEXT k)) := by
  refine congrArg _ ((issue_of_ready ready _).trans ?_)
  dsimp only
  rw [if_pos (by simpa using bad)]
  exact advance_halt_counted ready calm _ _

/-- A number in use stops the STASH. -/
theorem exec_stash_used (calm : s.calm k) (aligned : f.larder % 32 = 0)
    (inside : inLarder f.larder ((f.linew + 1) * 32 * (f.lines + 1)) = true)
    (used : (s.core k).stash.find? f.stashNo ≠ none) :
    exec (.stash k m f) s = .next ((s.counted k).halt .badStash k (s.fget .SEQ_ENTRY_NEXT k)) := by
  refine congrArg _ ((issue_of_ready ready _).trans ?_)
  dsimp only
  rw [core_counted, if_neg (by simp [aligned, inside]), if_pos (Option.isSome_iff_ne_none.2 used)]
  exact advance_halt_counted ready calm _ _

/-- A cellar without room stops the STASH. -/
theorem exec_stash_full (calm : s.calm k) (aligned : f.larder % 32 = 0)
    (inside : inLarder f.larder ((f.linew + 1) * 32 * (f.lines + 1)) = true)
    (unused : (s.core k).stash.find? f.stashNo = none)
    (full : (s.counted k).placeStash k (stashBytes (s.core k).larder f).length = none) :
    exec (.stash k m f) s = .next ((s.counted k).halt .cellarFull k (s.fget .SEQ_ENTRY_NEXT k)) := by
  refine congrArg _ ((issue_of_ready ready _).trans ?_)
  dsimp only
  rw [core_counted, if_neg (by simp [aligned, inside]), if_neg (by simp [unused])]
  unfold stashBytes keptLines at *
  rw [full]
  dsimp only
  exact advance_halt_counted ready calm _ _

end

/-- Settles O17: a place in the cellar, and the codes where there is none to be had. -/
theorem stashKeepsItsLinesInTheCellar : Obligations.StashKeepsItsLinesInTheCellar := by
  intro s k m f h w ls present data n room ready calm hdr
  refine ⟨fun aligned inside unused => ⟨fun a mapped off sound place => ?_, fun full none free => ?_⟩,
    exec_stash_used ready calm, exec_stash_unaligned ready calm⟩
  · obtain ⟨t, next, mem, stash, rest⟩ := exec_stash_kept ready calm hdr sound aligned inside unused mapped off place
    refine ⟨t, next, fun j hj => ?_, fun b hb => ?_, ?_, fun x hx => ?_, rest⟩
    · rw [mem]
      exact (read_writeBytes _ _ _ _ hj).trans (List.getD_eq_getElem _ _ hj).symm
    · rw [mem]
      exact read_writeBytes_ne _ _ _ _ hb
    · rw [stash]
      exact find?_put_same ..
    · rw [stash, find?_put_ne _ _ _ _ hx]
  · refine exec_stash_full ready calm aligned inside unused ?_
    exact (placeStash_beyond (s := s.counted k) hdr full none).trans (congrArg (Option.map _) free)

end Sys2Proof.Proofs
end

section
/-! PROOFS. Loads of plans and tables (R224, R225, R294, R322, R330, R333): what a write of one whole value answers on its
path, then each load's own effect. -/

namespace Sys2Proof.Proofs

open Sys2Proof Sys2Proof.Machine Sys2Proof.Laws

/-! ### A write of one whole value (R420 to R425, R484) -/

theorem findEntry_names {index sub : Nat} {e : DEnt} (h : findEntry index sub = some e) : e.index = index ∧ e.sub = sub := by
  have := List.find?_some h
  simpa using this

/-- The indices with rules of their own on a path: RestoreDefaults, the two restarts and PathWriteMask. -/
def ownPathRule : List Nat := [0x1011, 0x1500, 0x1600, 0x9004]

theorem mayWrite_of_pathMay {s : State} {p : DPath} {i : Instr} {e : DEnt} (may : s.pathMay p i) (h : e.index ≠ 0x9004) :
    s.mayWrite p e = true := by
  obtain ⟨-, -, mask⟩ := may
  cases p <;> simp_all [State.mayWrite]

theorem writeFrom_plain {s : State} {p : DPath} {e : DEnt} {v : List Byte} (h : e.index ≠ 0x1011) :
    s.writeFrom p e v = s.writeEntry e v := by
  unfold State.writeFrom
  rw [if_neg fun c => h c.1]

theorem after_plain {s : State} {q : DReq} {op status : Nat} (h₁ : q.index ≠ 0x1500) (h₂ : q.index ≠ 0x1600) :
    s.after op q status = s := by
  unfold State.after
  split
  · rfl
  · rw [if_neg fun c => h₁ c.1, if_neg fun c => h₂ c.1]

/-- A write that its entry accepts is answered with OK and the entry's size. -/
theorem pathWrite_of_ok {s t : State} {p : DPath} {i : Instr} {index sub : Nat} {e : DEnt} {v : List Byte}
    (may : s.pathMay p i) (found : findEntry index sub = some e) (plain : index ∉ ownPathRule)
    (written : s.writeEntry e v = (dOk, t)) :
    s.pathWrite p index sub v = t.okReply p index sub v (if e.acc = .wo then e.typ.size else t.entrySize e) := by
  obtain ⟨he, -⟩ := findEntry_names found
  simp only [ownPathRule, List.mem_cons, List.not_mem_nil, or_false, not_or] at plain
  obtain ⟨h₁, h₂, h₃, h₄⟩ := plain
  have serving : s.serving = true := may.2.1
  simp only [State.pathWrite, State.arrives, serving, if_true, State.serveOne, Bool.false_eq_true, if_false, State.serveWhole,
    found]
  rw [mayWrite_of_pathMay may (he ▸ h₄), if_pos rfl, writeFrom_plain (he ▸ h₁), written, after_plain h₂ h₃]
  rfl

/-! ### Entries that start something when 1 is written -/

/-- A BOOL entry that can only be written. -/
def commandEntry (index sub : Nat) : DEnt := ⟨index, sub, .bool, .wo, 0, .any⟩

theorem writeEntry_command (s : State) {index sub : Nat} (h : index ≠ 0x1011) :
    s.writeEntry (commandEntry index sub) [1] = s.writeScalar (commandEntry index sub) 1 := by
  unfold State.writeEntry
  rw [if_neg (show (commandEntry index sub).index ≠ 0x1011 from h)]
  rfl

theorem pathWrite_command {s t : State} {p : DPath} {i : Instr} {index sub : Nat} (may : s.pathMay p i)
    (found : findEntry index sub = some (commandEntry index sub)) (plain : index ∉ ownPathRule)
    (written : s.writeScalar (commandEntry index sub) 1 = (dOk, t)) :
    s.pathWrite p index sub [1] = t.okReply p index sub [1] 1 := by
  have notDefaults : index ≠ 0x1011 := fun c => plain (by simp [ownPathRule, c])
  rw [← writeEntry_command s notDefaults] at written
  rw [pathWrite_of_ok may found plain written]
  rfl

theorem exec_timetableLoad {s : State} {p : DPath} (may : s.pathMay p (.timetableLoad p)) :
    exec (.timetableLoad p) s = .next (s.timetableLoad.okReply p 0x2200 2 [1] 1) :=
  (clocked_of_crosses s may.1).trans (congrArg _ (pathWrite_command may (by decide) (by decide) rfl))

theorem exec_reductionLoad {s : State} {p : DPath} (may : s.pathMay p (.reductionLoad p)) :
    exec (.reductionLoad p) s = .next (s.reductionLoad.okReply p 0x2400 2 [1] 1) :=
  (clocked_of_crosses s may.1).trans (congrArg _ (pathWrite_command may (by decide) (by decide) rfl))

theorem exec_ringLoad {s : State} {p : DPath} (may : s.pathMay p (.ringLoad p)) :
    exec (.ringLoad p) s = .next (s.ringLoad.okReply p 0x6005 2 [1] 1) :=
  (clocked_of_crosses s may.1).trans (congrArg _ (pathWrite_command may (by decide) (by decide) rfl))

theorem exec_itineraryLoad {s : State} {p : DPath} (may : s.pathMay p (.itineraryLoad p)) :
    exec (.itineraryLoad p) s = .next (s.itineraryLoad.okReply p 0x6007 2 [1] 1) :=
  (clocked_of_crosses s may.1).trans (congrArg _ (pathWrite_command may (by decide) (by decide) rfl))

theorem exec_scaleHistoryReset {s : State} {p : DPath} (may : s.pathMay p (.scaleHistoryReset p)) :
    exec (.scaleHistoryReset p) s = .next (s.scaleReset.okReply p 0x4000 3 [1] 1) :=
  (clocked_of_crosses s may.1).trans (congrArg _ (pathWrite_command may (by decide) (by decide) rfl))

theorem exec_exchangeHistoryReset {s : State} {p : DPath} (may : s.pathMay p (.exchangeHistoryReset p)) :
    exec (.exchangeHistoryReset p) s = .next (s.exchangeReset.okReply p 0x4007 1 [1] 1) :=
  (clocked_of_crosses s may.1).trans (congrArg _ (pathWrite_command may (by decide) (by decide) rfl))

/-! ### The routing table (R322) -/

/-- The RoutingTable entry. -/
def routingEntry : DEnt := ⟨0x6004, 1, .domain, .rw, 0, .any⟩

theorem entrySize_routing (t : State) : t.entrySize routingEntry = (t.dom 0x6004 1 (routingDefault t.address)).length := rfl

/-- A table of the right size is taken in a step as it stands, outside a step when it breaks no rule. -/
theorem writeEntry_routing {s : State} {data : List Byte} (size : data.length = 65536)
    (good : s.inStep = true ∨ routingBad s.address data = false) :
    s.writeEntry routingEntry data = (dOk, s.routingWrite data) := by
  show (if data.length = 65536 then
      if s.inStep then (dOk, s.routingWrite data)
      else if routingBad s.address data then (dRange, s.routingWrite data) else (dOk, s.routingWrite data)
    else (dLength, s)) = _
  rw [if_pos size]
  obtain step | good := good
  · rw [if_pos step]
  · rw [good, if_neg Bool.false_ne_true, ite_self]

theorem exec_routingTableWrite {s : State} {p : DPath} {data : List Byte} (may : s.pathMay p (.routingTableWrite p data))
    (size : data.length = 65536) (good : s.inStep = true ∨ routingBad s.address data = false) :
    exec (.routingTableWrite p data) s = .next ((s.routingWrite data).okReply p 0x6004 1 data
      ((s.routingWrite data).dom 0x6004 1 (routingDefault (s.routingWrite data).address)).length) :=
  (clocked_of_crosses s may.1).trans
    (congrArg _ (pathWrite_of_ok may (e := routingEntry) (by decide) (by decide) (writeEntry_routing size good)))

/-- A good table is in force at once outside a step. -/
theorem routingWrite_outside {s : State} {data : List Byte} (step : s.inStep = false)
    (good : routingBad s.address data = false) :
    s.routingWrite data =
      { s.setDval 0x6004 2 1 with doms := s.doms.put (dkey 0x6004 1) data, fab := { s.fab with ups := [] } } := by
  rw [State.routingWrite, if_neg (Bool.eq_false_iff.1 step), State.applyRouting, if_neg (Bool.eq_false_iff.1 good)]

theorem routingWrite_inStep {s : State} {data : List Byte} (step : s.inStep = true) :
    s.routingWrite data = latchDict (s.setDval 0x6004 2 2) (dkey 0x6004 1) data := by
  rw [State.routingWrite, if_pos step]

/-- The table in force is unchanged by one that is latched. -/
theorem dom_latched_routing (s : State) (data : List Byte) :
    let t := latchDict (s.setDval 0x6004 2 2) (dkey 0x6004 1) data
    t.dom 0x6004 1 (routingDefault t.address) = s.dom 0x6004 1 (routingDefault s.address) := by
  have address : (s.setDval 0x6004 2 2).address = s.address := dval_setDval_ne _ _ _ _ _ _ _ (by decide)
  exact congrArg (fun a => s.dom 0x6004 1 (routingDefault a)) address

/-! ### What the loads show -/

/-- A reduction load shows the first failed test, or puts the plan it read in force. -/
theorem runReduction_cases {s : State} (idle : s.exch.latched = false) :
    match s.readReduction (s.dval 0x2400 1 0) with
    | .error c => s.runReduction = s.setDval 0x2400 3 c
    | .ok (x, _) => s.runReduction.exch = x ∧ s.runReduction.dval 0x2400 3 0 = 1 ∧ s.runReduction.dval 0x2400 4 0 = x.id := by
  have same : { s with exch := { s.exch with latched := false } } = s := by rw [← idle]
  unfold State.runReduction
  dsimp only
  rw [same]
  cases s.readReduction (s.dval 0x2400 1 0) with
  | error c => rfl
  | ok r => exact ⟨rfl, (dval_setDval_ne _ _ _ _ _ _ _ (by decide)).trans (dval_setDval _ _ _ _ _), dval_setDval _ _ _ _ _⟩

theorem timetableDone_of_loading {s : State} (loading : s.plan.loading = true) (step : s.inStep = false)
    (idle : s.job.epilogue = []) :
    s.timetableDone = (let u : State := { s with plan := { s.plan with loading := false } }
      match u.readPlan (s.dval 0x2200 1 0) with
      | .error c => u.setDval 0x2200 3 c
      | .ok (x, hs, spans) => (u.setDval 0x2200 3 1).applyPlan x hs spans) := by
  unfold State.timetableDone
  rw [if_neg (by simp [loading, step, idle])]
  rfl

/-- Settles O39: each load is a write that its entry accepts, and the load itself latches or runs. -/
theorem planAndTableLoadsComplete : Obligations.PlanAndTableLoadsComplete := by
  intro s p
  refine ⟨exec_timetableLoad, exec_reductionLoad, exec_ringLoad, exec_itineraryLoad, runReduction_cases, ?_,
    exec_scaleHistoryReset, exec_exchangeHistoryReset, ?_⟩
  · intro crosses loading step idle
    exact (clocked_of_crosses s crosses).trans (congrArg _ (timetableDone_of_loading loading step idle))
  · intro data may size
    refine ⟨fun step good => ?_, fun step => ?_⟩
    · rw [exec_routingTableWrite may size (.inr good), routingWrite_outside step good]
      simp [State.dom, size]
    · rw [exec_routingTableWrite may size (.inl step), routingWrite_inStep step, dom_latched_routing]

end Sys2Proof.Proofs
end

section
/-! PROOFS. Travellers (R233, R235, R319, R335, R340, R341): a ROUTE that is taken or waits, a RETURN of one slot, and the
arrival of caravans. -/

namespace Sys2Proof.Proofs

open Sys2Proof Sys2Proof.Machine Sys2Proof.Laws

/-! ### ROUTE (R233, R340) -/

section
variable {s : State} {k : Nat} {m : Cmn} {f : RouteF} {h : CoreHdr}

/-- ROUTE past its checks: the header's return area holds its rows, and what it reads lies aligned in the larder. -/
theorem exec_route (ready : s.ready k m (.route f)) (hdr : (s.core k).hdr = some h) (token : h.returnToken ≠ 255)
    (count : f.retrow + (f.k + 1) * (f.ntok + 1) ≤ 65536)
    (room : (f.retrow + (f.k + 1) * (f.ntok + 1)) * (32 * (f.roww + 1)) ≤ h.returnHalf) (aligned : f.rows % 32 = 0)
    (choices : inLarder f.choices (32 * (f.ntok + 1)) = true)
    (rows : inLarder f.rows (32 * (f.roww + 1) * (f.ntok + 1)) = true) :
    exec (.route k m f) s = .next (State.advance
      (let t := (s.counted k).enqueue k 5
          { no := s.fget .SEQ_ENTRY_NEXT k, entry := .route f, c := m, started := true, sent := s.routeReady f.layer }
        if s.routeReady f.layer then (t.handRoute k f).takeWaiting f.layer else t) k) := by
  refine congrArg _ ((issue_of_ready ready _).trans ?_)
  have same : ((s.counted k).core k).hdr = some h := hdr
  dsimp only
  rw [same]
  dsimp only
  rw [if_neg (by simp; omega), if_neg (by simp [aligned, choices, rows])]
  rfl

end

/-! ### RETURN of one slot (R235, R341) -/

theorem innOf_congr {s t : State} (itin : t.itin = s.itin) (dict : t.dict = s.dict) (l k : Nat) : t.innOf l k = s.innOf l k := by
  have address : t.address = s.address := by simp only [State.address, State.dval, dict]
  have layer : t.ilayer l = s.ilayer l := by simp only [State.ilayer, itin, address]
  rw [State.innOf, layer, address]
  rfl

theorem tlayer_modLayer (s : State) (l : Nat) (g : TLayer → TLayer) : (s.modLayer l g).tlayer l = g (s.tlayer l) :=
  get_put_same _ _ _ _

section
variable {s : State} {k : Nat} {m : Cmn} {f : ReturnF} {e cp : Nat} {x : Accepted} {t : Traveller}

/-- The sequencer's own part of an issue leaves the itinerary, the layers' routing and the dictionary. -/
theorem itin_enqueue (s : State) (k u : Nat) (it : QItem) : (s.enqueue k u it).itin = s.itin := by
  unfold State.enqueue State.engineBusy
  dsimp only
  split <;> rfl

theorem trav_enqueue (s : State) (k u : Nat) (it : QItem) : (s.enqueue k u it).trav = s.trav := by
  unfold State.enqueue State.engineBusy
  dsimp only
  split <;> rfl

theorem dict_counted (s : State) (k : Nat) : (s.counted k).dict = s.dict := rfl

/-- The row that a RETURN of one slot sends. -/
def returnRowOf (s : State) (f : ReturnF) (cp : Nat) (x : Accepted) (t : Traveller) : ReturnRow :=
  ⟨s.address, t.srcCore, t.returnRow, f.layer, choiceAt x.t x.t.round, cp, x.slot,
    s.load (s.effAddr f.src) (32 * (f.roww + 1))⟩

theorem exec_return (ready : s.ready k m (.ret f)) (mapped : mappedRange (s.effAddr f.src) (32 * (f.roww + 1)) = true)
    (single : f.nslot = 0) (sound : s.memBad = []) (inn : s.innOf f.layer k = some (e, cp))
    (found : ((s.tlayer f.layer).accepted.find? fun (a : Accepted) =>
      a.expert = e ∧ a.copy = cp ∧ a.slot = f.firstslot ∧ a.live.isSome) = some x) (live : x.live = some t) :
    exec (.ret k m f) s = .next (State.advance
      (let q := ((s.counted k).enqueue k 5
          { no := s.fget .SEQ_ENTRY_NEXT k, entry := .ret f, c := m, started := true, sent := true }).modLayer f.layer
            fun x => { x with retWords := some (f.roww + 1) }
        let u := q.sendReturn f.layer t.srcModule (returnRowOf s f cp x t)
        let u := if f.flush then u.modLayer f.layer fun x => { x with innFlush := k :: x.innFlush } else u
        (u.endReturns f.layer).takeWaiting f.layer) k) := by
  have stillMapped : mappedRange ((s.counted k).effAddr f.src) (32 * (f.roww + 1) * (f.nslot + 1)) = true := by
    rw [single, Nat.zero_add, Nat.mul_one]; exact mapped
  refine congrArg _ ((issue_of_ready ready _).trans ?_)
  dsimp only
  rw [stillMapped, single, if_neg (by decide)]
  unfold State.startNow
  dsimp only
  set q := ((s.counted k).enqueue k 5
    { no := s.fget .SEQ_ENTRY_NEXT k, entry := .ret f, c := m, started := true, sent := true }).modLayer f.layer
      fun x => { x with retWords := some (f.roww + 1) } with hq
  have itin : q.itin = s.itin := itin_enqueue ..
  have dict : q.dict = s.dict := enqueue_dict ..
  have mem : q.mem = s.mem := enqueue_mem ..
  have bad : q.memBad = [] := (enqueue_memBad ..).trans sound
  have accepted : (q.tlayer f.layer).accepted = (s.tlayer f.layer).accepted := by
    rw [hq, tlayer_modLayer, State.tlayer, trav_enqueue]; rfl
  have address : q.address = s.address := by simp only [State.address, State.dval, dict]
  rw [innOf_congr itin dict, inn]
  simp only [Nat.zero_add, List.range_one, List.foldl_cons, List.foldl_nil, Nat.add_zero, Nat.mul_zero, accepted, found, live,
    readMem_of_sound bad, State.load, mem, address, Option.getD_some, returnRowOf, effAddr_counted]

end

/-! ### Arrival of caravans (R319) -/

section
variable (s : State) {src step attempt : Nat} {held : OutMsg} {take : State → State}

theorem byAttempt_current (current : (step, attempt) = s.curKey) (runs : s.running = true) :
    s.byAttempt src step attempt held take = take s := by
  rw [State.byAttempt, if_pos current, if_pos runs]

theorem byAttempt_later (other : (step, attempt) ≠ s.curKey) (later : laterKey (step, attempt) s.curKey = true) :
    s.byAttempt src step attempt held take = { s with fab := { s.fab with held := s.fab.held ++ [(src, held)] } } := by
  rw [State.byAttempt, if_neg other, if_pos later]

theorem byAttempt_earlier (other : (step, attempt) ≠ s.curKey) (earlier : laterKey (step, attempt) s.curKey = false) :
    s.byAttempt src step attempt held take = s.fcount .FABRIC_COUNT1_STALE_MSGS 1 := by
  rw [State.byAttempt, if_neg other, if_neg (Bool.eq_false_iff.1 earlier), State.stale]

end

/-- Settles O40: the checks of ROUTE and RETURN pass, and a caravan goes by its attempt's place in the order. -/
theorem travellerCommandsComplete : Obligations.TravellerCommandsComplete := by
  intro s k m
  refine ⟨fun f h ready hdr token count room aligned choices rows => ⟨fun opened => ?_, fun closed => ?_⟩, ?_,
    fun c crosses => ⟨fun current runs => ?_, fun other later => ?_, fun other earlier => ?_⟩,
    fun c crosses => ⟨fun current runs => ?_, fun other later => ?_, fun other earlier => ?_⟩⟩
  · rw [exec_route ready hdr token count room aligned choices rows, opened]; rfl
  · rw [exec_route ready hdr token count room aligned choices rows, closed]; rfl
  · intro f e cp x t ready mapped single sound inn found live
    exact exec_return ready mapped single sound inn found live
  · exact (clocked_of_crosses s crosses).trans (congrArg _ (byAttempt_current s current runs))
  · exact (clocked_of_crosses s crosses).trans (congrArg _ (byAttempt_later s other later))
  · exact (clocked_of_crosses s crosses).trans (congrArg _ (byAttempt_earlier s other earlier))
  · exact (clocked_of_crosses s crosses).trans (congrArg _ (byAttempt_current s current runs))
  · exact (clocked_of_crosses s crosses).trans (congrArg _ (byAttempt_later s other later))
  · exact (clocked_of_crosses s crosses).trans (congrArg _ (byAttempt_earlier s other earlier))

end Sys2Proof.Proofs
end

section
/-! PROOFS. The instructions of an update engine that holds a block (R254 to R258): the value that each brings to its
register, or the bytes that it stores. -/

namespace Sys2Proof.Proofs

open Sys2Proof Sys2Proof.Machine Sys2Proof.Laws

/-! ### Reads and writes of a ledger page in sound memory -/

section
variable {s : State} (sound : s.memBad = [])
include sound

theorem hubRead_of_sound (a n : Nat) : s.hubRead a n = (s.load a n, s) := readMem_of_sound sound a n none

theorem pageWrite_of_sound (off : Nat) (bs : List Byte) :
    s.pageWrite off bs = { s with mem := s.mem.writeBytes (s.uncommitted + off) bs } :=
  writeMem_of_sound sound _ bs none

/-- Two writes of the uncommitted page change memory only. -/
theorem pageWrite_pageWrite_of_sound (a₁ a₂ : Nat) (b₁ b₂ : List Byte) : (s.pageWrite a₁ b₁).pageWrite a₂ b₂ =
    { s with mem := (s.mem.writeBytes (s.uncommitted + a₁) b₁).writeBytes (s.uncommitted + a₂) b₂ } := by
  rw [pageWrite_of_sound sound, pageWrite_of_sound (by exact sound)]
  rfl

end

@[simp] theorem eng_modEng (s : State) (e : Nat) (g : Eng → Eng) : (s.modEng e g).eng e = g (s.eng e) := by
  simp [State.eng, State.modEng]

/-! ### One instruction -/

section
variable {s : State} {e : Nat} {b : UBlock} {t : Tensor} (held : (s.eng e).blk = some b) (table : s.tensor b.tensor = some t)
include held table

/-- The block that the engine holds, with its tensor. -/
theorem heldTensor_eq : ((s.eng e).blk.bind fun b => (s.tensor b.tensor).map fun t => (b, t)) = some (b, t) := by
  rw [held, Option.bind_some, table, Option.map_some]

theorem ustep_ldg (f : UpdF) (scaled : b.scale ≠ 255) (unclipped : s.job.controls.clipMode ≠ 1) :
    s.ustep e 0 f = s.modEng e (·.setReg f.dst ((List.range 32).map fun i => dyLane (b.elem i) (s.group t.group).r)) := by
  unfold State.ustep
  dsimp only
  rw [heldTensor_eq held table]
  dsimp only
  rw [if_neg scaled]
  simp only [if_neg unclipped]

theorem ustep_ldw (f : UpdF) (sound : s.memBad = []) :
    s.ustep e 1 f = s.modEng e (·.setReg f.dst ((List.range 32).map fun i =>
      word (fieldAt (s.load (s.committed + t.master + 128 * b.block) 128) (4 * i) 4))) := by
  unfold State.ustep
  dsimp only
  rw [heldTensor_eq held table]
  dsimp only
  rw [hubRead_of_sound sound (s.committed + t.master + 128 * b.block)]
  rfl

theorem ustep_ldm (f : UpdF) (sound : s.memBad = [])
    (scaled : natOf (s.load (s.committed + t.momentScaleAt f.sub b.block) 1) ≠ 255) :
    s.ustep e 2 f = s.modEng e (·.setReg f.dst ((List.range 32).map fun i =>
      dyLane (narrowDecode (momentFmt f.sub) (fieldAt (s.load (s.committed + t.momentAt f.sub b.block) 32) i 1)).toDy
        ((s.group t.group).r - s.momentShift s.committed t.group +
          ((natOf (s.load (s.committed + t.momentScaleAt f.sub b.block) 1) : Int) - 127)))) := by
  unfold State.ustep
  dsimp only
  rw [heldTensor_eq held table]
  dsimp only
  rw [hubRead_of_sound sound (s.committed + t.momentAt f.sub b.block)]
  dsimp only
  rw [hubRead_of_sound sound (s.committed + t.momentScaleAt f.sub b.block)]
  simp only [if_neg scaled]

theorem ustep_stw (f : UpdF) (finite : anyNonFinite ((s.eng e).reg f.a) = false) :
    s.ustep e 10 f =
      s.pageWrite (t.master + 128 * b.block) (((s.eng e).reg f.a).flatMap fun w => bytesOf 4 w.toNat) := by
  unfold State.ustep
  dsimp only
  rw [heldTensor_eq held table]
  dsimp only
  rw [finite]
  rfl

/-- STM counts in the group's statistics, notes the moment as stored, and writes codes and scale. -/
theorem ustep_stm (f : UpdF) (finite : anyNonFinite ((s.eng e).reg f.a) = false) :
    ∃ g, s.ustep e 11 f =
      (((s.groupStat t.group g).modEng e fun x => { x with stored := f.sub :: x.stored }).pageWrite
        (t.momentAt f.sub b.block) ((jitBlock (momentFmt f.sub) ((s.eng e).reg f.a)).1.flatMap (bytesOf 1))).pageWrite
        (t.momentScaleAt f.sub b.block) (bytesOf 1 (jitBlock (momentFmt f.sub) ((s.eng e).reg f.a)).2) := by
  unfold State.ustep
  dsimp only
  rw [heldTensor_eq held table]
  simp only [finite, Bool.false_eq_true, if_false]
  exact ⟨_, rfl⟩

theorem ustep_sti (f : UpdF) : s.ustep e 12 f = s.writeCells s.uncommitted t b.block ((s.eng e).reg f.a) := by
  unfold State.ustep
  dsimp only
  rw [heldTensor_eq held table]
  rfl

theorem ustep_func (f : UpdF) :
    s.ustep e 7 f = s.modEng e (·.setReg f.dst (((s.eng e).reg f.a).map (ufunc f.sub))) := by
  unfold State.ustep
  dsimp only
  rw [heldTensor_eq held table]
  rfl

/-- The function of an element-wise instruction, by its OP (R255). -/
def lanewise : Nat → Option (Word → Word → Word → Word)
  | 3 => some fun a b _ => (fAdd a b).1
  | 4 => some fun a b _ => (fSub a b).1
  | 5 => some fun a b _ => (fMul a b).1
  | 6 => some fun a b c => (fFma a b c).1
  | 8 => some fun a b _ => (fMax a b).1
  | 9 => some fun a b _ => (fMin a b).1
  | _ => none

theorem ustep_lanewise {op : Nat} {g : Word → Word → Word → Word} (f : UpdF) (known : lanewise op = some g) :
    s.ustep e op f = s.modEng e (·.setReg f.dst
      (lanes32 g ((s.eng e).reg f.a) ((s.eng e).opB f) ((s.eng e).opC f))) := by
  unfold State.ustep
  dsimp only
  rw [heldTensor_eq held table]
  dsimp only
  unfold lanewise at known
  split at known <;> cases known <;> rfl

end

/-- Settles O31: past the clock gate each command is its instruction on the block that the engine holds. -/
theorem updateInstructionsComplete : Obligations.UpdateInstructionsComplete := by
  intro s e f b t held table sound
  refine ⟨fun clocks => ⟨fun scaled unclipped => ?_, ?_, fun scaled => ?_, fun finite => ?_, fun finite => ?_, ?_⟩,
    fun clocks => ?_⟩
  · exact (clocked_of_crosses s (i := .ldg e f) clocks).trans (congrArg _ (ustep_ldg held table f scaled unclipped))
  · exact (clocked_of_crosses s (i := .ldw e f) clocks).trans (congrArg _ (ustep_ldw held table f sound))
  · exact (clocked_of_crosses s (i := .ldm e f) clocks).trans (congrArg _ (ustep_ldm held table f sound scaled))
  · exact (clocked_of_crosses s (i := .stw e f) clocks).trans (congrArg _ (ustep_stw held table f finite))
  · obtain ⟨g, h⟩ := ustep_stm held table f finite
    rw [pageWrite_pageWrite_of_sound (by exact sound)] at h
    have engine := eng_modEng (s.groupStat t.group g) e fun x => { x with stored := f.sub :: x.stored }
    refine ⟨_, (clocked_of_crosses s (i := .stm e f) clocks).trans (congrArg _ h), ?_, rfl, rfl,
      (congrArg Eng.v engine :), (congrArg Eng.stored engine :)⟩
    rw [pageWrite_pageWrite_of_sound sound]
    rfl
  · exact (clocked_of_crosses s (i := .sti e f) clocks).trans (congrArg _ (ustep_sti held table f))
  · have lanes {i : Instr} {op : Nat} {g : Word → Word → Word → Word} (known : lanewise op = some g)
        (gate : s.crosses i = true) :
        s.clocked i (.next (s.ustep e op f)) = .next (s.modEng e (·.setReg f.dst
          (lanes32 g ((s.eng e).reg f.a) ((s.eng e).opB f) ((s.eng e).opC f)))) :=
      (clocked_of_crosses s gate).trans (congrArg _ (ustep_lanewise held table f known))
    exact ⟨lanes (i := .updAdd e f) (op := 3) rfl clocks, lanes (i := .updSub e f) (op := 4) rfl clocks,
      lanes (i := .updMul e f) (op := 5) rfl clocks, lanes (i := .updFma e f) (op := 6) rfl clocks,
      lanes (i := .updMax e f) (op := 8) rfl clocks, lanes (i := .updMin e f) (op := 9) rfl clocks,
      (clocked_of_crosses s (i := .updFunc e f) clocks).trans (congrArg _ (ustep_func held table f))⟩

end Sys2Proof.Proofs
end

section
/-! PROOFS. Blocks of the update engines (R251, R252, R265 to R268). What an engine does with a block changes memory, the
engines, registers and the fault record; controls and dictionary are those of the attempt throughout. -/

namespace Sys2Proof.Proofs

open Sys2Proof Sys2Proof.Machine Sys2Proof.Laws

/-! ### What the update engines can change -/

/-- All but memory, update engines, registers, fault record and logbook. -/
def maskU (s : State) : State := { s with mem := [], memBad := [], upd := {}, regs := [], faults := {}, log := {} }

theorem maskU_of {s t : State} (h : maskF s = maskF t) : maskU s = maskU t := by
  have : maskU (maskF s) = maskU (maskF t) := by rw [h]
  exact this

theorem maskU_job_eq {s t : State} (h : maskU s = maskU t) : s.job = t.job := by
  have e := congrArg State.job h; exact e

theorem maskU_dict_eq {s t : State} (h : maskU s = maskU t) : s.dict = t.dict := by
  have e := congrArg State.dict h; exact e

section
variable (s : State)

@[simp] theorem maskU_upd (u : Upd) : maskU { s with upd := u } = maskU s := rfl
@[simp] theorem maskU_modEng (e : Nat) (g : Eng → Eng) : maskU (s.modEng e g) = maskU s := rfl
@[simp] theorem maskU_groupStat (i : Nat) (g : GroupStat → GroupStat) : maskU (s.groupStat i g) = maskU s := rfl
@[simp] theorem maskU_store (a : Nat) (bs : List Byte) : maskU (s.store a bs) = maskU s := rfl
@[simp] theorem maskU_raiseEng (c : Code) (e : Nat) : maskU (s.raiseEng c e) = maskU s := maskU_of (maskF_raiseIn s c none e)

@[simp] theorem maskU_writeMem (a : Nat) (bs : List Byte) (k : Option Nat) : maskU (s.writeMem a bs k) = maskU s :=
  (maskU_of (maskF_raiseBad _ _ _)).trans (maskU_store s a bs)

@[simp] theorem maskU_pageWrite (off : Nat) (bs : List Byte) : maskU (s.pageWrite off bs) = maskU s := maskU_writeMem ..

@[simp] theorem maskU_hubRead (a n : Nat) : maskU (s.hubRead a n).2 = maskU s := maskU_of (maskF_raiseBad _ _ _)

@[simp] theorem maskU_pathCheck (bad : Bool) : maskU (s.pathCheck bad) = maskU s := by
  unfold State.pathCheck
  split
  · exact maskU_of (maskF_raiseIn ..)
  · rfl

@[simp] theorem maskU_pageCopy (off n : Nat) : maskU (s.pageCopy off n) = maskU s :=
  (maskU_pageWrite ..).trans (maskU_hubRead ..)

@[simp] theorem maskU_writePeak (b : UBlock) : maskU (s.writePeak b) = maskU s := maskU_pageWrite ..

@[simp] theorem maskU_writeCells (base : Nat) (t : Tensor) (b : Nat) (ws : List Word) :
    maskU (s.writeCells base t b ws) = maskU s :=
  (maskU_writeMem ..).trans (maskU_writeMem ..)

@[simp] theorem maskU_clearMap : maskU s.clearMap = maskU s := by
  unfold State.clearMap
  split
  · rfl
  · exact maskU_pageWrite ..

/-- The statistics and the dormant watch are the update engines' own. -/
theorem noteFinal_frame (b : UBlock) (t : Tensor) : s.noteFinal b t = { s with upd := (s.noteFinal b t).upd } := by
  unfold State.noteFinal
  dsimp only
  split <;> rfl

@[simp] theorem maskU_noteFinal (b : UBlock) (t : Tensor) : maskU (s.noteFinal b t) = maskU s := by
  rw [noteFinal_frame]
  rfl

/-- One instruction leaves controls and dictionary alone. -/
@[simp] theorem maskU_ustep (e op : Nat) (f : UpdF) : maskU (s.ustep e op f) = maskU s := by
  unfold State.ustep
  dsimp only
  split
  · rfl
  · split <;> (try split) <;> simp

@[simp] theorem maskU_runProgram (e : Nat) (code : List Nat) : maskU (s.runProgram e code) = maskU s :=
  foldl_keeps maskU _ (fun s _ => maskU_ustep s e _ _) code s

@[simp] theorem maskU_zeroMoments (e : Nat) (t : Tensor) (b : Nat) : maskU (s.zeroMoments e t b) = maskU s := by
  refine foldl_keeps maskU _ (fun s m => ?_) _ s
  split
  · rfl
  · simp

theorem maskU_copyAreas (l : List (Nat × Nat)) : maskU (l.foldl (fun u a => u.pageCopy a.1 a.2) s) = maskU s := by
  refine foldl_keeps maskU _ (fun s a => ?_) l s
  exact maskU_pageCopy s a.1 a.2

end

section
variable {s t : State} (h : maskU s = maskU t)
include h

theorem isHeld_congr : s.isHeld = t.isHeld := by rw [State.isHeld, maskU_job_eq h]; rfl

theorem group_congr (g : Nat) : s.group g = t.group g := by rw [State.group, maskU_job_eq h]; rfl

theorem program_congr (p : Nat) : s.program p = t.program p := by rw [State.program, maskU_job_eq h]; rfl

theorem dval_congr (x y d : Nat) : s.dval x y d = t.dval x y d := by rw [State.dval, maskU_dict_eq h]; rfl

end

/-! ### A block for an idle engine (R251, R268) -/

section
variable {s : State} {e : Nat} {b : UBlock} {rest : List UBlock} {t : Tensor} (runs : s.running = true)
  (idle : s.engIdle e = true) (final : s.upd.final = b :: rest) (table : s.tensor b.tensor = some t)

/-- The state without its first final block. -/
def blockTaken (s : State) (rest : List UBlock) : State := { s with upd := { s.upd with final := rest } }

section
variable (stream : s.isHeld = false)
include runs idle final table stream

theorem takeBlock_of_skew (skew : b.skew = true) (run : UBlock → Tensor → State → Option State) :
    s.takeBlock e run = (blockTaken s rest).raiseEng .stepSkew e := by
  simp [State.takeBlock, State.nextBlock, blockTaken, runs, idle, final, table, stream, skew]

theorem takeBlock_of_ready (skew : b.skew = false) (run : UBlock → Tensor → State → Option State) :
    s.takeBlock e run = (run b t (blockTaken s rest)).getD s := by
  simp [State.takeBlock, State.nextBlock, blockTaken, runs, idle, final, table, stream, skew]

/-- An engine with its group's program and constants, and the block in its hands. -/
def blockLoaded (s : State) (e : Nat) (b : UBlock) (t : Tensor) : State :=
  s.modEng e fun x => { v := [], k := s.constants t.group, blk := some b, stored := [], blocks := x.blocks }

theorem exec_updateProgramRun {xfer : Bool} (clocks : s.crosses (.updateProgramRun e false xfer) = true) (skew : b.skew = false)
    (program : (s.group t.group).program ≠ 0) :
    exec (.updateProgramRun e false xfer) s = .next
      ((((((blockLoaded ((blockTaken s rest).noteFinal b t).clearMap e b t).runProgram e
        (progCode (s.program (s.group t.group).program))).zeroMoments e t b.block).pathCheck xfer).writePeak b).blockDone e b) := by
  refine (clocked_of_crosses s clocks).trans (congrArg _ ?_)
  rw [takeBlock_of_ready runs idle final table stream skew]
  have loaded : maskU (blockLoaded ((blockTaken s rest).noteFinal b t).clearMap e b t) = maskU s := by
    simp [blockLoaded, blockTaken]
  have program' := program_congr loaded (s.group t.group).program
  have stream' (u : State) (h : maskU u = maskU s) : u.isHeld = false := (isHeld_congr h).trans stream
  have taken : (blockTaken s rest).isHeld = false := stream
  have group : (blockTaken s rest).group t.group = s.group t.group := rfl
  simp only [blockLoaded] at loaded program'
  simp only [group, if_neg program, taken, Bool.false_eq_true, if_false, program', Option.getD_some, blockLoaded]
  rw [stream' _ (by simp [loaded]), if_neg Bool.false_ne_true]

theorem exec_noneGroupCopy {xfer : Bool} (clocks : s.crosses (.noneGroupCopy e xfer) = true) (skew : b.skew = false)
    (copy : (s.group t.group).program = 0) :
    exec (.noneGroupCopy e xfer) s = .next
      (((((t.areasOf b.block).foldl (fun u a => u.pageCopy a.1 a.2) ((blockTaken s rest).noteFinal b t).clearMap).pathCheck
        xfer).writePeak b).blockDone e b) := by
  refine (clocked_of_crosses s clocks).trans (congrArg _ ?_)
  rw [takeBlock_of_ready runs idle final table stream skew]
  have copied : maskU ((t.areasOf b.block).foldl (fun u a => u.pageCopy a.1 a.2)
      ((blockTaken s rest).noteFinal b t).clearMap) = maskU s := by
    simp [maskU_copyAreas, blockTaken]
  have stream' (u : State) (h : maskU u = maskU s) : u.isHeld = false := (isHeld_congr h).trans stream
  have taken : (blockTaken s rest).isHeld = false := stream
  have group : (blockTaken s rest).group t.group = s.group t.group := rfl
  simp only [group, copy, ne_eq, not_true_eq_false, taken, Bool.false_eq_true, if_false, Option.getD_some]
  rw [stream' _ (by simp [copied]), if_neg Bool.false_ne_true]

end

/-! ### The hold area (R252, R265) -/

include runs idle final table

/-- What a final block adds to the sum of squares (R265), in units of 2^-600. -/
def blockSquare (b : UBlock) (t : Tensor) : Nat :=
  if b.block % t.replicas = t.rank ∧ b.scale ≠ 255 then
    ((b.ints.map fun q => q.natAbs * q.natAbs).foldl (· + ·) 0) * 2 ^ (2 * b.scale + 284) else 0

theorem exec_holdAreaWrite {xfer : Bool} (clocks : s.crosses (.holdAreaWrite e xfer) = true) (held : s.isHeld = true)
    (skew : b.skew = false) :
    exec (.holdAreaWrite e xfer) s = .next
      (let v := ((((blockTaken s rest).pathCheck xfer).noteFinal b t).writePeak b).writeMem
        (s.dval 0x2300 7 0 + 129 * b.xblock) ((b.ints.flatMap fun q => bytesOf 4 (wrap 32 q)) ++ bytesOf 1 b.scale) none
       State.normVote { v with upd := { v.upd with held := v.upd.held + 1, normSum := v.upd.normSum + blockSquare b t } }) := by
  refine (clocked_of_crosses s clocks).trans (congrArg _ ?_)
  have area : ((((blockTaken s rest).pathCheck xfer).noteFinal b t).writePeak b).dval 0x2300 7 0 = s.dval 0x2300 7 0 :=
    dval_congr (by simp [blockTaken]) _ _ _
  simp only [blockTaken] at area
  simp only [held, runs, idle, final, table, skew, Bool.not_true, Bool.or_self, Bool.false_eq_true, if_false, blockTaken, area,
    blockSquare]

end

/-- Settles O32: an engine that is idle takes the first final block, by the mode and the block's bucket. -/
theorem updateBlocksComplete : Obligations.UpdateBlocksComplete := by
  intro s e b rest t xfer clocks runs idle final table
  refine ⟨fun stream skew => ⟨?_, ?_⟩, fun stream skew => ⟨?_, ?_⟩, fun held skew => ?_⟩
  · exact exec_updateProgramRun runs idle final table stream clocks skew
  · exact exec_noneGroupCopy runs idle final table stream clocks skew
  · exact (clocked_of_crosses s (i := .updateProgramRun e false xfer) clocks).trans
      (congrArg _ (takeBlock_of_skew runs idle final table stream skew _))
  · exact (clocked_of_crosses s (i := .noneGroupCopy e xfer) clocks).trans
      (congrArg _ (takeBlock_of_skew runs idle final table stream skew _))
  · exact exec_holdAreaWrite runs idle final table clocks held skew

end Sys2Proof.Proofs
end

section
/-! PROOFS. What the end of an attempt leaves of the step (R270, R271): the step's registers, the attempt, the ledger and
memory stay where only cores, host events and the logbook are concerned. -/

namespace Sys2Proof.Proofs

open Sys2Proof Sys2Proof.Machine Sys2Proof.Laws

/-- The sections of the registers that show the step: COMMIT_STATUS, RECOVERY_STATUS, and the host's. -/
def stepSec : Sec → Bool
  | .update | .recovery | .host => true
  | _ => false

/-- `t` is at the same place of the step as `s`: attempt (but for the cores whose section has not ended), ledger, memory,
latched entries and step registers are those of `s`. -/
structure StepKept (s t : State) : Prop where
  job : t.job = { s.job with epilogue := t.job.epilogue }
  ledger : t.ledger = s.ledger
  mem : t.mem = s.mem
  memBad : t.memBad = s.memBad
  pendingDict : t.pendingDict = s.pendingDict
  fget : ∀ f : Fld, stepSec f.sec = true → ∀ c i j, t.fget f c i j = s.fget f c i j

namespace StepKept

theorem refl (s : State) : StepKept s s := ⟨rfl, rfl, rfl, rfl, rfl, fun _ _ _ _ _ => rfl⟩

theorem trans {s t u : State} (h : StepKept s t) (g : StepKept t u) : StepKept s u where
  job := by rw [g.job, h.job]
  ledger := g.ledger.trans h.ledger
  mem := g.mem.trans h.mem
  memBad := g.memBad.trans h.memBad
  pendingDict := g.pendingDict.trans h.pendingDict
  fget f hf c i j := (g.fget f hf c i j).trans (h.fget f hf c i j)

/-- What changes neither registers nor any of these parts. -/
theorem of_eq {s t : State} (regs : t.regs = s.regs) (job : t.job = s.job) (ledger : t.ledger = s.ledger)
    (mem : t.mem = s.mem) (memBad : t.memBad = s.memBad) (pendingDict : t.pendingDict = s.pendingDict) : StepKept s t where
  job := by rw [job]
  ledger := ledger
  mem := mem
  memBad := memBad
  pendingDict := pendingDict
  fget _ _ _ _ _ := fget_congr regs _ _ _ _

section
variable {s t : State} (h : StepKept s t)
include h

theorem fset {f : Fld} (other : stepSec f.sec = false) (v c i j : Nat) : StepKept s (t.fset f v c i j) where
  job := h.job
  ledger := h.ledger
  mem := h.mem
  memBad := h.memBad
  pendingDict := h.pendingDict
  fget g hg d k l := by
    rw [fget_fset_sec, h.fget g hg]
    intro e
    rw [e, other] at hg
    exact Bool.false_ne_true hg

theorem fsetS {f : Fld} (other : stepSec f.sec = false) (v : Int) (c i j : Nat) : StepKept s (t.fsetS f v c i j) :=
  h.fset other _ c i j

theorem fcount {f : Fld} (other : stepSec f.sec = false) (n c i j : Nat) : StepKept s (t.fcount f n c i j) := by
  unfold State.fcount
  split
  · exact h
  · exact h.fset other _ c i j

theorem logWrite (ty c k l w e : Nat) (d : List Byte) : StepKept s (t.logWrite ty c k l w e d) :=
  h.trans (of_eq (by simp) (by simp) (by simp) (by simp) (by simp) (by simp))

theorem statusRecord (c : Code) (l w ty : Nat) : StepKept s (t.statusRecord c l w ty) :=
  (h.trans (of_eq (t := t.countCode c) rfl rfl rfl rfl rfl rfl)).logWrite ty 5 c.number l w 0xFFFFFFFF []

theorem modCore (c : Nat) (g : Core → Core) : StepKept s (t.modCore c g) :=
  h.trans (of_eq rfl rfl rfl rfl rfl rfl)

end

/-! ### Host events (R412, R414, R461, R462) -/

theorem raiseVector (s : State) (v : Nat) : StepKept s (s.raiseVector v) := by
  have clock : StepKept s (s.setRword .clock 0 8 (s.rword .clock 0 8 ||| 2 ^ 1)) :=
    { StepKept.refl s with
      fget := fun f hf c i j => by
        rw [State.fget, rword_setRword_ne, ← State.fget]
        intro e
        rw [secNo_inj (regKey_inj e).1] at hf
        exact absurd hf (by decide) }
  unfold State.raiseVector State.event
  split
  · dsimp only
    split <;> exact of_eq rfl rfl rfl rfl rfl rfl
  · split
    · exact (clock.fcount (f := .XING_OVERRUN_OVERRUN_COUNT) rfl 1 0 0 0).trans (of_eq rfl rfl rfl rfl rfl rfl)
    · exact of_eq rfl rfl rfl rfl rfl rfl

theorem hostEvent (s : State) (f : Fld) : StepKept (s.fset f 1) (s.hostEvent f) := by
  unfold State.hostEvent State.withEvents
  dsimp only
  split
  · exact raiseVector _ 0
  · exact refl _

/-! ### A trim boundary (R106) -/

/-- The ramp of the trims leaves every section but that of the arrays. -/
theorem rword_ramped_sec (s : State) {sec : Sec} (h : sec ≠ .array) (c o : Nat) :
    (Proofs.ramped s).rword sec c o = s.rword sec c o := by
  have other : isTrimKey (regKey sec c o) = false := by
    have number : regKey sec c o / 65536 / 4096 = secNo sec := by simp only [regKey]; omega
    have ne : secNo sec ≠ secNo .array := fun e => h (secNo_inj e)
    simp [isTrimKey, number, ne]
  have same : ∀ v, rampReg s (regKey sec c o, v) = (regKey sec c o, v) := fun v => if_neg (by simp [other])
  rw [rword_eq_getD, Proofs.ramped, find?_map (rampReg_fst s), rword_eq_getD]
  simp only [same, Option.map_id']

theorem ramp (s : State) : StepKept s (Proofs.ramped s) where
  job := rfl
  ledger := rfl
  mem := rfl
  memBad := rfl
  pendingDict := rfl
  fget f hf c i j := by
    rw [State.fget, rword_ramped_sec s (fun e => by rw [e] at hf; exact absurd hf (by decide)), ← State.fget]

section
variable {s t : State} (h : StepKept s t)
include h

theorem recount (c a : Nat) : StepKept s (t.recount c a) := by
  unfold State.recount
  dsimp only
  have failed {u : State} (hu : StepKept s u) (l w : Nat) : StepKept s
      (((u.setBank c a 4).fset .ARRAY_STATUS_WRITE_FAIL 1 c a).statusRecord .arrayWriteFail l w) :=
    ((hu.fset (f := .ARRAY_STATUS_STATE) rfl 4 c a 0).fset (f := .ARRAY_STATUS_WRITE_FAIL) rfl 1 c a 0).statusRecord ..
  have counted := h.fset (f := .ARRAY_STATUS_MISS_COUNT) rfl (min 65 (t.logged c a).length) c a 0
  split
  · split
    · exact failed h _ _
    · exact h
  · split
    · exact failed counted _ _
    · exact counted

theorem spareConv (c p : Nat) : StepKept s (t.spareConv c p) := by
  unfold State.spareConv
  split
  · exact ((((h.fset (f := .CONV_SPARE_PENDING) rfl 0 c p 0).fset (f := .CONV_SPARE_IN_USE) rfl 1 c p 0).recount c p).recount c
      (p + 4)).logWrite ..
  · exact h

theorem restale (c a : Nat) : StepKept s (t.restale c a) := by
  unfold State.restale
  dsimp only
  split
  · exact h
  · exact h.fset rfl ..

theorem biasMove (c p : Nat) : StepKept s (t.biasMove c p) := by
  unfold State.biasMove
  refine StepKept.modCore (List.foldlRecOn _ _ (h.fsetS rfl ..) fun u hu k _ => ?_) c _
  exact (hu.fsetS (f := .CONV_TRIM_GAIN_TARGET) rfl ..).fsetS (f := .CONV_TRIM_GAIN_NOW) rfl ..

theorem trimBoundary : StepKept s t.trimBoundary := by
  refine List.foldlRecOn _ _ (List.foldlRecOn _ _ (h.trans (ramp t)) fun u hu c _ => ?_) fun u hu c _ => ?_
  · exact List.foldlRecOn _ _ (List.foldlRecOn _ _ hu fun v hv p _ => hv.spareConv c p) fun v hv a _ => hv.restale c a
  · refine List.foldlRecOn _ _ hu fun v hv p _ => ?_
    split
    · exact hv.biasMove c p
    · exact hv

/-! ### Sections of the cores (R226), and the answer of a dictionary write (R422) -/

theorem engineBusy (c : Nat) : StepKept s (t.engineBusy c) := by
  unfold State.engineBusy
  dsimp only
  split
  · exact h
  · exact h.fset rfl ..

theorem withEpilogue (l : List Nat) : StepKept s { t with job := { t.job with epilogue := l } } where
  job := by rw [h.job]
  ledger := h.ledger
  mem := h.mem
  memBad := h.memBad
  pendingDict := h.pendingDict
  fget := h.fget

/-- A core begins a section that is not empty. -/
theorem sectionBegun (st c : Nat) : StepKept s
    { t.fset .SEQ_STATUS_STATE st c with job := { t.job with epilogue := t.job.epilogue ++ [c] } } :=
  (h.fset (f := .SEQ_STATUS_STATE) rfl st c 0 0).withEpilogue _

/-- A core's units are emptied and its registers set for a section. -/
theorem sectionReady (first c : Nat) : StepKept s
    ((((((((t.modCore c Core.idle).fset .SEQ_ENTRY_NEXT first c).fset .SEQ_STATUS_WAITING 0 c).fset
      .ENGINE_STATUS_HALTED 0 c).engineBusy c).fset .ENGINE_STATUS_FIXUP_LEVEL 0 c).fset .WATCH_STATUS_LEVEL 0 c).fset
      .WATCH_STATUS_BUSY 0 c |>.fset .CELLAR_USE_CHUNKS 0 c) :=
  ((((((((h.modCore c Core.idle).fset rfl ..).fset rfl ..).fset rfl ..).engineBusy c).fset rfl ..).fset rfl ..).fset
    rfl ..).fset rfl ..

theorem startSections (st : Nat) : StepKept s (t.startSections st) := by
  refine List.foldlRecOn _ _ (h.withEpilogue []) fun u hu c _ => ?_
  dsimp only
  split
  · exact hu
  · next hdr _ =>
    generalize (if st = 3 then hdr.epilogue else hdr.restore) = first
    generalize (if st = 3 then hdr.restore else hdr.entryCount) = stop
    have ready := hu.sectionReady first c
    split
    · exact ready.sectionBegun st c
    · exact ready.fset rfl ..

theorem okReply (p : DPath) (index sub : Nat) (v : List Byte) (total : Nat) : StepKept s (t.okReply p index sub v total) := by
  cases p with
  | window =>
    rw [State.okReply, State.respond]
    refine StepKept.fcount (f := .WIN_COUNT_REQUESTS) (StepKept.fset (f := .WIN_STATUS_HELD)
      (StepKept.fset (f := .WIN_STATUS_BUSY) (StepKept.fset (f := .WIN_STATUS_DONE) ?_ rfl ..) rfl ..) rfl ..) rfl ..
    exact h.trans (of_eq rfl rfl rfl rfl rfl rfl)
  | fabric src => exact h.trans (of_eq rfl rfl rfl rfl rfl rfl)
  | mctp eid => exact h.trans (of_eq rfl rfl rfl rfl rfl rfl)

end

end StepKept

section
variable {s t : State} (h : StepKept s t)
include h

theorem StepKept.doorbell : t.job.doorbell = s.job.doorbell := by rw [h.job]
theorem StepKept.stepCounter : t.job.stepCounter = s.job.stepCounter := by rw [h.job]
theorem StepKept.attempt : t.job.attempt = s.job.attempt := by rw [h.job]
theorem StepKept.toHold : t.job.toHold = s.job.toHold := by rw [h.job]

end

/-! ### The step's registers -/

section
variable (s : State)

@[simp] theorem stepState_job (st ph : Nat) : (s.stepState st ph).job = s.job := rfl
@[simp] theorem stepState_ledger (st ph : Nat) : (s.stepState st ph).ledger = s.ledger := rfl
@[simp] theorem stepState_mem (st ph : Nat) : (s.stepState st ph).mem = s.mem := rfl
@[simp] theorem stepState_memBad (st ph : Nat) : (s.stepState st ph).memBad = s.memBad := rfl
@[simp] theorem stepState_pendingDict (st ph : Nat) : (s.stepState st ph).pendingDict = s.pendingDict := rfl

/-- The fields of HOST_STATUS that follow the step. -/
def syncFlds : List Fld := [.HOST_STATUS_STEP_STATE, .HOST_STATUS_LATCHED, .HOST_STATUS_IN_PROGRESS]

theorem fget_syncHost {g : Fld} (h : syncFlds.all (fldsApart · 0 0 g 0 0) = true) : s.syncHost.fget g = s.fget g := by
  simp only [syncFlds, List.all_cons, List.all_nil, Bool.and_true, Bool.and_eq_true] at h
  obtain ⟨h₁, h₂, h₃⟩ := h
  rw [State.syncHost, fget_fset_apart _ h₃, fget_fset_apart _ h₂, fget_fset_apart _ h₁]

/-- The fields that `State.stepState` sets. -/
def stateFlds : List Fld := .RECOVERY_STATUS_STATE :: .COMMIT_STATUS_PHASE :: syncFlds

theorem fget_stepState {g : Fld} (h : stateFlds.all (fldsApart · 0 0 g 0 0) = true) (st ph : Nat) :
    (s.stepState st ph).fget g = s.fget g := by
  rw [stateFlds, List.all_cons, List.all_cons, Bool.and_eq_true, Bool.and_eq_true] at h
  obtain ⟨h₁, h₂, h₃⟩ := h
  rw [State.stepState, fget_syncHost _ h₃, fget_fset_apart _ h₂, fget_fset_apart _ h₁]

theorem fget_stepState_phase (st ph : Nat) : (s.stepState st ph).fget .COMMIT_STATUS_PHASE = ph % 8 := by
  rw [State.stepState, fget_syncHost _ (by decide)]
  exact fget_fset _ _ _ _ _ _ (by decide)

theorem fget_stepState_state (st ph : Nat) : (s.stepState st ph).fget .RECOVERY_STATUS_STATE = st % 4 := by
  rw [State.stepState, fget_syncHost _ (by decide), fget_fset_apart _ (by decide)]
  exact fget_fset _ _ _ _ _ _ (by decide)

/-- Hosts' events stand in the step's sections, and the vector that one raises does not. -/
theorem fget_hostEvent (f : Fld) {g : Fld} (h : stepSec g.sec = true) : (s.hostEvent f).fget g = (s.fset f 1).fget g :=
  (StepKept.hostEvent s f).fget g h 0 0 0

/-- A refused doorbell shows its reason and event. -/
theorem fget_doorbellRefused (r : Nat) {g : Fld} (sec : stepSec g.sec = true)
    (h : (.DOORBELL_STATUS_REFUSE_REASON :: .HOST_EVENT_DB_REFUSED :: syncFlds).all (fldsApart · 0 0 g 0 0) = true) :
    ((s.dropDoorbell).refuseDoorbell r).fget g = s.fget g := by
  rw [List.all_cons, Bool.and_eq_true, List.all_cons, Bool.and_eq_true] at h
  obtain ⟨h₁, h₂, h₃⟩ := h
  rw [State.refuseDoorbell, fget_hostEvent _ _ sec, fget_fset_apart _ h₂, fget_fset_apart _ h₁, State.dropDoorbell,
    fget_syncHost _ h₃]
  rfl

end

end Sys2Proof.Proofs
end

section
/-! PROOFS. The votes of a module (R265, R266, R270, R332, R358, R359): what each message and time-out leads to. -/

namespace Sys2Proof.Proofs

open Sys2Proof Sys2Proof.Machine Sys2Proof.Laws

section
variable {s : State}

/-! ### Messages of the vote tree (R331, R332) -/

/-- An UP vote that is not of an earlier attempt is kept among the others. -/
theorem keepUp_of_current {kind child : Nat} {v : VoteMsg} (current : laterKey s.curKey (v.step, v.attempt) = false) :
    ∃ old, s.keepUp kind child v = { s with job := { s.job with ups := old ++ [(kind, child, v)] } } :=
  ⟨_, if_neg (Bool.eq_false_iff.1 current)⟩

theorem toChildren_job (kind : Nat) (v : VoteMsg) : (s.toChildren kind v).job = s.job :=
  foldl_keeps State.job (fun u c => u.post c (.vote kind v)) (fun _ _ => rfl) s.voteChildren s

/-- A DOWN vote of the attempt that waits for it acts. -/
theorem downVote_of_waiting {v : VoteMsg} {waits : Bool} {act : State → State} (runs : s.running = true)
    (current : (v.step, v.attempt) = s.curKey) (waiting : waits = true) : s.downVote v waits act = act s := by
  rw [State.downVote, if_pos current, runs, waiting]
  rfl

/-! ### The commit check (R270, R358) -/

theorem commitCheck_of_ready (runs : s.running = true) (phase : s.fget .COMMIT_STATUS_PHASE = 1) (goes : s.job.stopped = false)
    (ready : s.planCores.all s.atCommit = true) (ended : s.exchangeOver = true) (idle : s.updatesIdle = true) :
    s.commitCheck =
      (let a := ((s.fset .COMMIT_STATUS_PHASE 2).buildScales).stickyCheck
       let b := if a.allWritten then a else a.raiseIn .ledgerIncomplete none
       b.vote b.checksPass) := by
  unfold State.commitCheck
  rw [if_neg (by simp [runs, phase, goes, ready, ended, idle])]

theorem commitUp_of_current {child : Nat} {v : VoteMsg} (runs : s.running = true)
    (current : laterKey s.curKey (v.step, v.attempt) = false) : s.commitUp child v = (s.keepUp 0 child v).tryVote := by
  obtain ⟨old, kept⟩ := keepUp_of_current (kind := 0) (child := child) current
  unfold State.commitUp
  rw [kept]
  exact if_pos runs

/-- Before the module's own vote a child's vote is kept and nothing else happens. -/
theorem tryVote_of_unvoted (unvoted : s.job.voteOwn = none) : s.tryVote = s := by
  rw [State.tryVote, unvoted]

theorem earlyStopVote_of_stopped (runs : s.running = true) (stopped : s.job.stopped = true) (unvoted : s.job.voteOwn = none)
    (limit : s.tokenTimeout ≠ 0) :
    s.earlyStopVote = ((s.fset .COMMIT_STATUS_PHASE 2).stickyCheck).vote false :=
  if_neg (by simp [runs, stopped, unvoted, limit])

/-! ### VOTE_LOST (R272, R364, R399) -/

/-- The state that VOTE_LOST enters, before a latched doorbell is refused. -/
def voteLostEntered (s : State) : State := ((s.raiseIn .voteLost none).stepState 3 3).hostEvent .HOST_EVENT_VOTE_LOST

theorem voteLostEntered_kept (s : State) :
    StepKept (((s.raiseIn .voteLost none).stepState 3 3).fset .HOST_EVENT_VOTE_LOST 1) (voteLostEntered s) :=
  StepKept.hostEvent _ _

theorem voteLost_cases (runs : s.running = true) (sent : s.job.voteSent = true) (limit : s.tokenTimeout ≠ 0) :
    s.voteLost = voteLostEntered s ∧ s.job.doorbell = none ∨
      s.voteLost = ((voteLostEntered s).dropDoorbell).refuseDoorbell 6 := by
  have doorbell : (voteLostEntered s).job.doorbell = s.job.doorbell := by
    rw [(voteLostEntered_kept s).doorbell]
    simp
  have entered : s.voteLost = if (voteLostEntered s).job.doorbell.isSome then
      ((voteLostEntered s).dropDoorbell).refuseDoorbell 6 else voteLostEntered s := by
    unfold State.voteLost
    rw [if_neg (by simp [runs, sent, limit])]
    rfl
  rw [entered, doorbell]
  cases s.job.doorbell with
  | none => exact .inl ⟨rfl, rfl⟩
  | some d => exact .inr rfl

theorem fget_voteLostEntered (s : State) {g : Fld} (sec : stepSec g.sec = true) : (voteLostEntered s).fget g =
    (((s.raiseIn .voteLost none).stepState 3 3).fset .HOST_EVENT_VOTE_LOST 1).fget g :=
  (voteLostEntered_kept s).fget g sec 0 0 0

/-- A field that VOTE_LOST shows stays as a latched doorbell is refused. -/
theorem fget_voteLost (runs : s.running = true) (sent : s.job.voteSent = true) (limit : s.tokenTimeout ≠ 0) {g : Fld}
    (sec : stepSec g.sec = true)
    (apart : (.DOORBELL_STATUS_REFUSE_REASON :: .HOST_EVENT_DB_REFUSED :: syncFlds).all (fldsApart · 0 0 g 0 0) = true) :
    s.voteLost.fget g = (((s.raiseIn .voteLost none).stepState 3 3).fset .HOST_EVENT_VOTE_LOST 1).fget g := by
  rw [← fget_voteLostEntered s sec]
  rcases voteLost_cases runs sent limit with ⟨entered, -⟩ | entered
  · rw [entered]
  · rw [entered, fget_doorbellRefused _ _ sec apart]

/-- A refused doorbell is no longer latched; memory, ledger and step counter are as they were. -/
theorem doorbellRefused_keeps (u : State) (r : Nat) :
    (u.dropDoorbell.refuseDoorbell r).job.doorbell = none ∧ (u.dropDoorbell.refuseDoorbell r).mem = u.mem ∧
      (u.dropDoorbell.refuseDoorbell r).ledger = u.ledger ∧
      (u.dropDoorbell.refuseDoorbell r).job.stepCounter = u.job.stepCounter := by
  have refused := StepKept.hostEvent (u.dropDoorbell.fset .DOORBELL_STATUS_REFUSE_REASON r) .HOST_EVENT_DB_REFUSED
  exact ⟨refused.doorbell, refused.mem, refused.ledger, refused.stepCounter⟩

/-- VOTE_LOST drops a latched doorbell and leaves memory, ledger and step counter. -/
theorem voteLost_keeps (runs : s.running = true) (sent : s.job.voteSent = true) (limit : s.tokenTimeout ≠ 0) :
    s.voteLost.job.doorbell = none ∧ s.voteLost.mem = s.mem ∧ s.voteLost.ledger = s.ledger ∧
      s.voteLost.job.stepCounter = s.job.stepCounter := by
  have kept := voteLostEntered_kept s
  have mem : (voteLostEntered s).mem = s.mem := by rw [kept.mem]; simp
  have ledger : (voteLostEntered s).ledger = s.ledger := by rw [kept.ledger]; simp
  have counter : (voteLostEntered s).job.stepCounter = s.job.stepCounter := by rw [kept.stepCounter]; simp
  rcases voteLost_cases runs sent limit with ⟨entered, none⟩ | entered
  · rw [entered, kept.doorbell]
    exact ⟨by simpa using none, mem, ledger, counter⟩
  · obtain ⟨none, sameMem, sameLedger, sameCounter⟩ := doorbellRefused_keeps (voteLostEntered s) 6
    rw [entered]
    exact ⟨none, sameMem.trans mem, sameLedger.trans ledger, sameCounter.trans counter⟩

end

/-- Settles O34: what each message and time-out of the commit vote leads to. -/
theorem commitVotesComplete : Obligations.CommitVotesComplete := by
  intro s clocks runs
  refine ⟨fun phase goes ready ended idle => ?_, fun child v current => ?_, fun child v current unvoted => ?_,
    fun v current sent => ?_, fun stopped unvoted limit => ?_, fun sent limit => ?_⟩
  · exact (clocked_of_crosses s (i := .commitCheck) clocks).trans
      (congrArg _ (commitCheck_of_ready runs phase goes ready ended idle))
  · exact (clocked_of_crosses s (i := .commitUp child v) clocks).trans (congrArg _ (commitUp_of_current runs current))
  · obtain ⟨old, kept⟩ := keepUp_of_current (kind := 0) (child := child) current
    refine ⟨_, (clocked_of_crosses s (i := .commitUp child v) clocks).trans (congrArg _ (commitUp_of_current runs current)),
      ?_⟩
    rw [kept, tryVote_of_unvoted (by exact unvoted)]
    exact ⟨by simp, rfl, rfl, rfl⟩
  · exact (clocked_of_crosses s (i := .commitDown v) clocks).trans (congrArg _ (downVote_of_waiting runs current sent))
  · exact (clocked_of_crosses s (i := .earlyStopVote) clocks).trans
      (congrArg _ (earlyStopVote_of_stopped runs stopped unvoted limit))
  · obtain ⟨doorbell, mem, ledger, counter⟩ := voteLost_keeps runs sent limit
    have shown {g : Fld} := fget_voteLost runs sent limit (g := g)
    refine ⟨_, clocked_of_crosses s (i := .voteLost) clocks, ?_, ?_, ?_, ?_, doorbell, mem, ledger, counter⟩
    · rw [shown rfl (by decide), fget_fset_apart _ (by decide), fget_stepState_state]
    · rw [shown rfl (by decide), fget_fset_apart _ (by decide), fget_stepState_phase]
    · rw [shown rfl (by decide), fget_fset_apart _ (by decide), fget_stepState _ (by decide),
        fget_congr (raiseIn_regs ..)]
      exact fget_fset _ _ _ _ _ _ (by decide)
    · rw [shown rfl (by decide)]
      exact fget_fset _ _ _ _ _ _ (by decide)

/-! ### The norm vote (R265, R266) -/

/-- Settles O35: the norm vote of a module, and its total. -/
theorem normVotesComplete : Obligations.NormVotesComplete := by
  intro s clocks runs
  refine ⟨fun child v => clocked_of_crosses s (i := .normUp child v) clocks, fun child v current short => ?_,
    fun v current sent unknown total => ?_, fun sent unknown total limit => ?_⟩
  · obtain ⟨old, kept⟩ := keepUp_of_current (kind := 2) (child := child) current
    refine ⟨_, clocked_of_crosses s (i := .normUp child v) clocks, ?_⟩
    rw [State.normUp, kept, State.normVote, if_pos (by simp [short])]
    exact ⟨by simp, rfl, rfl⟩
  · have down : exec (.normDown v) s = .next ((s.toChildren 3 v).takeNorm v.sum) :=
      (clocked_of_crosses s (i := .normDown v) clocks).trans
        (congrArg _ (downVote_of_waiting runs current (by simp [sent, unknown, total])))
    refine ⟨down, fun unclipped => ⟨_, down, ?_⟩⟩
    rw [State.takeNorm, toChildren_job, if_pos unclipped]
  · exact (clocked_of_crosses s (i := .normTotalTimeout) clocks).trans
      (congrArg _ (if_neg (by simp [runs, sent, unknown, total, limit])))

end Sys2Proof.Proofs
end

section
/-! PROOFS. Commit and refusal (R250, R270, R271, R364): either is a chain of bookkeeping, and what it does to the step, the
ledger and the step's registers is done in one place of the chain and kept by the rest. -/

namespace Sys2Proof.Proofs

open Sys2Proof Sys2Proof.Machine Sys2Proof.Laws

/-! ### Commit: what comes before the page flip -/

/-- Ledger, latched entries and uncorrectable words. -/
def pageParts (s : State) : Ledger × List (Nat × List Byte) × List Nat := (s.ledger, s.pendingDict, s.memBad)

section
variable (s : State)

theorem pageParts_logWrite (t c k l w e : Nat) (d : List Byte) : pageParts (s.logWrite t c k l w e d) = pageParts s := by
  simp [pageParts]

theorem pageParts_pageWrite (sound : s.memBad = []) (off : Nat) (bs : List Byte) :
    pageParts (s.pageWrite off bs) = pageParts s := by
  rw [pageWrite_of_sound sound]
  rfl

theorem pageParts_writePageHeader (sound : s.memBad = []) : pageParts s.writePageHeader = pageParts s := by
  have sound' {u : State} (h : pageParts u = pageParts s) : u.memBad = [] := (congrArg (·.2.2) h).trans sound
  have write {u : State} (h : pageParts u = pageParts s) (off : Nat) (bs : List Byte) :
      pageParts (u.pageWrite off bs) = pageParts s := (pageParts_pageWrite u (sound' h) off bs).trans h
  exact write (write (write (write rfl _ _) _ _) _ _) _ _

theorem pageParts_watchDormant : pageParts s.watchDormant = pageParts s := by
  unfold State.watchDormant
  dsimp only
  split
  · rfl
  · refine foldl_keeps pageParts _ (fun s l => ?_) _ s
    split
    · rfl
    · split
      · exact pageParts_logWrite ..
      · rfl

@[simp] theorem watchDormant_ledger : s.watchDormant.ledger = s.ledger := congrArg (·.1) (pageParts_watchDormant s)
@[simp] theorem watchDormant_pendingDict : s.watchDormant.pendingDict = s.pendingDict :=
  congrArg (·.2.1) (pageParts_watchDormant s)
@[simp] theorem watchDormant_memBad : s.watchDormant.memBad = s.memBad := congrArg (·.2.2) (pageParts_watchDormant s)

theorem pageParts_publish : pageParts s.publish = pageParts s := by
  unfold State.publish
  cases s.stats.headroomAt <;> simp [pageParts]

end

/-- The state whose page has flipped (R270, step 5). -/
def flipped (s : State) : State :=
  let u := (s.snapshot.writePageHeader.publish).fset .COMMIT_STATUS_PHASE 4
  { u with
    ledger := { u.ledger with page := 1 - u.ledger.page }
    job := { u.job with
      stepCounter := s.job.stepCounter + 1, protNow := none, afterCommit := true, holdAfterVote := false, toHold := false } }

/-- What a commit shows of the decision. -/
def showCommit (u : State) : State :=
  ((u.setAttempt 0).fset .RECOVERY_STATUS_REFUSALS 0).fset .COMMIT_STATUS_LAST_REFUSED 0

section
variable (u : State)

theorem showCommit_job : (showCommit u).job = { u.job with attempt := 0 } := rfl
theorem showCommit_ledger : (showCommit u).ledger = u.ledger := rfl
theorem showCommit_memBad : (showCommit u).memBad = u.memBad := rfl
theorem showCommit_pendingDict : (showCommit u).pendingDict = u.pendingDict := rfl

theorem fget_showCommit_refusals : (showCommit u).fget .RECOVERY_STATUS_REFUSALS = 0 := by
  rw [showCommit, fget_fset_apart _ (by decide)]
  exact fget_fset _ _ _ _ _ _ (by decide)

theorem fget_showCommit_lastRefused : (showCommit u).fget .COMMIT_STATUS_LAST_REFUSED = 0 :=
  fget_fset _ _ _ _ _ _ (by decide)

end

theorem commit_eq (s : State) : s.commit =
    ((((((showCommit (flipped s)).fset .EXCH_STATUS_PHASE 0).trimBoundary.applyPendingDict).stepState 1 5).resultPage
      (s.job.stepCounter + 1) s.job.attempt).fset .EXCH_STATUS_COLD 0).startSections 3 := rfl

theorem pageParts_flipped {s : State} (sound : s.memBad = []) :
    (flipped s).ledger = { s.ledger with page := 1 - s.ledger.page } ∧ (flipped s).pendingDict = s.pendingDict ∧
      (flipped s).memBad = [] := by
  have same : pageParts (s.snapshot.writePageHeader.publish) = pageParts s :=
    (pageParts_publish _).trans (pageParts_writePageHeader s.snapshot sound)
  obtain ⟨ledger, rest⟩ := Prod.mk.inj same
  obtain ⟨pending, bad⟩ := Prod.mk.inj rest
  unfold flipped
  dsimp only
  rw [fset_ledger, fset_pendingDict, fset_memBad, ledger, pending, bad]
  exact ⟨rfl, rfl, sound⟩

/-! ### Commit: the result page and what follows -/

/-- Without latched entries none takes effect. -/
theorem applyPendingDict_of_none {s : State} (none : s.pendingDict = []) : s.applyPendingDict = s := by
  rw [State.applyPendingDict, none, List.foldl_nil, ← none]

/-- The result page is the host's: the step's registers show it. -/
theorem resultPage_eq {s : State} (sound : s.memBad = []) (n attempt : Nat) : ∃ u, StepKept s u ∧
    s.resultPage n attempt = ((u.fset .RESULT_LATEST_PAGE (n % 4)).fset .RESULT_LATEST_STEP_LOW n).hostEvent .HOST_EVENT_RESULT := by
  unfold State.resultPage
  dsimp only
  refine ⟨_, ?_, rfl⟩
  split
  · exact .of_eq rfl rfl rfl rfl rfl rfl
  · split
    · rw [hubRead_of_sound (by exact sound)]
      exact .of_eq rfl rfl rfl rfl rfl rfl
    · exact .of_eq rfl rfl rfl rfl rfl rfl

section
variable {s : State}

/-- The places of a commit's chain: the decision is shown, phase 5 is entered, the result page is out. -/
theorem commit_chain (sound : s.memBad = []) (none : s.pendingDict = []) : ∃ d u, StepKept (showCommit (flipped s)) d ∧
    StepKept (d.stepState 1 5) u ∧
    StepKept (((u.fset .RESULT_LATEST_PAGE ((s.job.stepCounter + 1) % 4)).fset .RESULT_LATEST_STEP_LOW
      (s.job.stepCounter + 1)).fset .HOST_EVENT_RESULT 1) s.commit := by
  obtain ⟨-, pending, bad⟩ := pageParts_flipped sound
  rw [commit_eq]
  generalize flipped s = v at pending bad ⊢
  have shown : StepKept (showCommit v) ((showCommit v).fset .EXCH_STATUS_PHASE 0).trimBoundary :=
    ((StepKept.refl _).fset (f := .EXCH_STATUS_PHASE) rfl ..).trimBoundary
  have pending' := shown.pendingDict
  have bad' := shown.memBad
  rw [showCommit_pendingDict, pending, none] at pending'
  rw [showCommit_memBad, bad] at bad'
  generalize ((showCommit v).fset .EXCH_STATUS_PHASE 0).trimBoundary = d at shown pending' bad' ⊢
  obtain ⟨u, kept, page⟩ := resultPage_eq (s := d.stepState 1 5) bad' (s.job.stepCounter + 1) s.job.attempt
  refine ⟨d, u, shown, kept, ?_⟩
  rw [applyPendingDict_of_none pending', page]
  exact ((StepKept.hostEvent _ _).fset (f := .EXCH_STATUS_COLD) rfl ..).startSections 3

/-- A commit ends the step with the other page committed (R250, R270). -/
theorem commit_step (sound : s.memBad = []) (none : s.pendingDict = []) :
    s.commit.job.stepCounter = s.job.stepCounter + 1 ∧ s.commit.ledger.page = 1 - s.ledger.page ∧
      s.commit.job.attempt = 0 := by
  obtain ⟨ledger, -, -⟩ := pageParts_flipped sound
  obtain ⟨d, u, shown, entered, out⟩ := commit_chain sound none
  have counter : (flipped s).job.stepCounter = s.job.stepCounter + 1 := rfl
  refine ⟨?_, ?_, ?_⟩
  · rw [out.stepCounter, fset_job, fset_job, fset_job, entered.stepCounter, stepState_job, shown.stepCounter, showCommit_job]
    exact counter
  · rw [out.ledger, fset_ledger, fset_ledger, fset_ledger, entered.ledger, stepState_ledger, shown.ledger, showCommit_ledger,
      ledger]
  · rw [out.attempt, fset_job, fset_job, fset_job, entered.attempt, stepState_job, shown.attempt, showCommit_job]

/-- A step register that the result page leaves shows what it showed as phase 5 was entered. -/
theorem fget_commit (sound : s.memBad = []) (none : s.pendingDict = []) {g : Fld} (sec : stepSec g.sec = true)
    (apart : [.RESULT_LATEST_PAGE, .RESULT_LATEST_STEP_LOW, .HOST_EVENT_RESULT].all (fldsApart · 0 0 g 0 0) = true) :
    ∃ d, StepKept (showCommit (flipped s)) d ∧ s.commit.fget g = (d.stepState 1 5).fget g := by
  obtain ⟨d, u, shown, entered, out⟩ := commit_chain sound none
  simp only [List.all_cons, List.all_nil, Bool.and_true, Bool.and_eq_true] at apart
  obtain ⟨h₁, h₂, h₃⟩ := apart
  refine ⟨d, shown, ?_⟩
  rw [out.fget g sec, fget_fset_apart _ h₃, fget_fset_apart _ h₂, fget_fset_apart _ h₁, entered.fget g sec]

/-- What the registers show after a commit (R250, R270, R401). -/
theorem commit_shows (sound : s.memBad = []) (none : s.pendingDict = []) :
    s.commit.fget .COMMIT_STATUS_PHASE = 5 ∧ s.commit.fget .RECOVERY_STATUS_STATE = 1 ∧
      s.commit.fget .RECOVERY_STATUS_REFUSALS = 0 ∧ s.commit.fget .COMMIT_STATUS_LAST_REFUSED = 0 ∧
      s.commit.fget .HOST_EVENT_RESULT = 1 ∧ s.commit.fget .RESULT_LATEST_PAGE = (s.job.stepCounter + 1) % 4 := by
  refine ⟨?_, ?_, ?_, ?_, ?_, ?_⟩
  · obtain ⟨d, -, h⟩ := fget_commit sound none (g := .COMMIT_STATUS_PHASE) rfl (by decide)
    rw [h, fget_stepState_phase]
  · obtain ⟨d, -, h⟩ := fget_commit sound none (g := .RECOVERY_STATUS_STATE) rfl (by decide)
    rw [h, fget_stepState_state]
  · obtain ⟨d, shown, h⟩ := fget_commit sound none (g := .RECOVERY_STATUS_REFUSALS) rfl (by decide)
    rw [h, fget_stepState _ (by decide), shown.fget _ rfl, fget_showCommit_refusals]
  · obtain ⟨d, shown, h⟩ := fget_commit sound none (g := .COMMIT_STATUS_LAST_REFUSED) rfl (by decide)
    rw [h, fget_stepState _ (by decide), shown.fget _ rfl, fget_showCommit_lastRefused]
  · obtain ⟨_, _, _, _, out⟩ := commit_chain sound none
    rw [out.fget _ rfl]
    exact fget_fset _ _ _ _ _ _ (by decide)
  · obtain ⟨_, u, _, _, out⟩ := commit_chain sound none
    rw [out.fget _ rfl, fget_fset_apart _ (by decide), fget_fset_apart _ (by decide)]
    exact (fget_fset _ _ _ _ _ _ (by decide)).trans (Nat.mod_mod _ 4)

end

/-! ### Refusal (R271, R361) -/

/-- A refused attempt is counted and shown with its first fault (R271). -/
def showRefusal (s : State) (first : Option (Code × Option Nat)) : State :=
  (((s.fset .RECOVERY_STATUS_REFUSALS (min 65535 (s.fget .RECOVERY_STATUS_REFUSALS + 1))).fset
    .COMMIT_STATUS_LAST_REFUSED 1).fset .FIRST_FAULT_CODE (match first with | some f => f.1.number | none => 0)).fset
    .FIRST_FAULT_CORE (match first with | some (_, some c) => c | _ => 0xFFF)

/-- LastRefusal and the log keep the refusal (R379). -/
def recordRefusal (s : State) (first : Option (Code × Option Nat)) (n : Nat) : State :=
  let s := { s with faults := { s.faults with lastRefusal := s.lastRefusal first } }
  s.logWrite recRefusal 0xFF 0 (match first with | some (_, some c) => s.locCore c 0x3F | _ => locHub 0x3F) 0
    (match first with | some (c, k) => s.faultEntry c k | none => 0xFFFFFFFF)
    (List.flatten [bytesOf 4 (match first with | some f => f.1.number | none => 0), bytesOf 4 s.faults.raised.length, bytesOf 4 n])

/-- The attempt is over, and HOLD may follow (R361). -/
def attemptOver (s : State) (toHold : Bool) : State :=
  let s := if toHold then s else s.setAttempt (s.job.attempt + 1)
  { s with job := { s.job with toHold := toHold, holdAfterVote := false, stopped := true } }

/-- Phase 6 is entered and the restore sections begin. -/
def restoring (s : State) : State :=
  ((((s.fset .EXCH_STATUS_PHASE 0).fset .EXCH_STATUS_COLD 0).fset .RECOVERY_STATUS_EARLY_STOP 0).trimBoundary.stepState 1
    6).startSections 4

theorem refuse_eq (s : State) (hold : Bool) : s.refuse hold =
    let n := min 65535 (s.snapshot.fget .RECOVERY_STATUS_REFUSALS + 1)
    let r := recordRefusal (showRefusal s.snapshot s.faults.raised.head?) s.faults.raised.head? n
    restoring (attemptOver r (hold || r.job.holdAfterVote || decide (r.dval 0x3200 1 3 < n) || decide (r.job.attempt = 65535))) :=
  rfl

theorem stepKept_recordRefusal (s : State) (first : Option (Code × Option Nat)) (n : Nat) :
    StepKept s (recordRefusal s first n) := by
  unfold recordRefusal
  dsimp only
  refine StepKept.logWrite ?_ ..
  exact .of_eq rfl rfl rfl rfl rfl rfl

/-- The places of a refusal's chain that goes to HOLD: the refusal is shown, the attempt is over, phase 6 is entered. -/
theorem refuse_chain (s : State) : ∃ u r w d, StepKept s u ∧ StepKept (showRefusal u s.faults.raised.head?) r ∧
    StepKept (attemptOver r true) w ∧ StepKept (w.fset .RECOVERY_STATUS_EARLY_STOP 0) d ∧
    StepKept (d.stepState 1 6) (s.refuse true) := by
  have seen : StepKept s s.snapshot := .of_eq rfl rfl rfl rfl rfl rfl
  rw [refuse_eq]
  dsimp only
  generalize s.snapshot = u at seen ⊢
  have shown := stepKept_recordRefusal (showRefusal u s.faults.raised.head?) s.faults.raised.head?
    (min 65535 (u.fget .RECOVERY_STATUS_REFUSALS + 1))
  generalize recordRefusal _ _ _ = r at shown ⊢
  rw [Bool.true_or, Bool.true_or, Bool.true_or]
  exact ⟨u, r, _, _, seen, shown, ((StepKept.refl _).fset (f := .EXCH_STATUS_PHASE) rfl ..).fset (f := .EXCH_STATUS_COLD) rfl ..,
    (StepKept.refl _).trimBoundary, (StepKept.refl _).startSections 4⟩

section
variable (s : State)

/-- A refusal that goes to HOLD leaves the step and its pages (R250, R271, R361). -/
theorem refuse_step : (s.refuse true).job.stepCounter = s.job.stepCounter ∧ (s.refuse true).ledger = s.ledger ∧
    (s.refuse true).job.attempt = s.job.attempt ∧ (s.refuse true).job.toHold = true ∧ (s.refuse true).mem = s.mem := by
  obtain ⟨u, r, w, d, seen, shown, ended, ready, entered⟩ := refuse_chain s
  have shownJob (u : State) (first : Option (Code × Option Nat)) : (showRefusal u first).job = u.job := rfl
  have shownLedger (u : State) (first : Option (Code × Option Nat)) : (showRefusal u first).ledger = u.ledger := rfl
  have shownMem (u : State) (first : Option (Code × Option Nat)) : (showRefusal u first).mem = u.mem := rfl
  refine ⟨?_, ?_, ?_, ?_, ?_⟩
  · rw [entered.stepCounter, stepState_job, ready.stepCounter, fset_job, ended.stepCounter]
    exact (shown.stepCounter.trans (congrArg _ (shownJob ..))).trans seen.stepCounter
  · rw [entered.ledger, stepState_ledger, ready.ledger, fset_ledger, ended.ledger]
    exact (shown.ledger.trans (shownLedger ..)).trans seen.ledger
  · rw [entered.attempt, stepState_job, ready.attempt, fset_job, ended.attempt]
    exact (shown.attempt.trans (congrArg _ (shownJob ..))).trans seen.attempt
  · rw [entered.toHold, stepState_job, ready.toHold, fset_job, ended.toHold]
    rfl
  · rw [entered.mem, stepState_mem, ready.mem, fset_mem, ended.mem]
    exact (shown.mem.trans (shownMem ..)).trans seen.mem

theorem fget_refuse {g : Fld} (sec : stepSec g.sec = true)
    (apart : (.RECOVERY_STATUS_EARLY_STOP :: stateFlds).all (fldsApart · 0 0 g 0 0) = true) :
    ∃ u, StepKept s u ∧ (s.refuse true).fget g = (showRefusal u s.faults.raised.head?).fget g := by
  obtain ⟨u, r, w, d, seen, shown, ended, ready, entered⟩ := refuse_chain s
  rw [List.all_cons, Bool.and_eq_true] at apart
  obtain ⟨stop, state⟩ := apart
  refine ⟨u, seen, ?_⟩
  rw [entered.fget g sec, fget_stepState _ state, ready.fget g sec, fget_fset_apart _ stop, ended.fget g sec]
  exact shown.fget g sec 0 0 0

/-- What the registers show after a refusal that goes to HOLD (R271, R361). -/
theorem refuse_shows : (s.refuse true).fget .COMMIT_STATUS_PHASE = 6 ∧ (s.refuse true).fget .RECOVERY_STATUS_STATE = 1 ∧
    (s.refuse true).fget .COMMIT_STATUS_LAST_REFUSED = 1 ∧
    (s.refuse true).fget .RECOVERY_STATUS_REFUSALS = min 65535 (s.fget .RECOVERY_STATUS_REFUSALS + 1) := by
  refine ⟨?_, ?_, ?_, ?_⟩
  · obtain ⟨_, _, _, d, _, _, _, _, entered⟩ := refuse_chain s
    rw [entered.fget _ rfl, fget_stepState_phase]
  · obtain ⟨_, _, _, d, _, _, _, _, entered⟩ := refuse_chain s
    rw [entered.fget _ rfl, fget_stepState_state]
  · obtain ⟨u, -, h⟩ := fget_refuse s (g := .COMMIT_STATUS_LAST_REFUSED) rfl (by decide)
    rw [h, showRefusal.eq_def, fget_fset_apart _ (by decide), fget_fset_apart _ (by decide)]
    exact fget_fset _ _ _ _ _ _ (by decide)
  · obtain ⟨u, seen, h⟩ := fget_refuse s (g := .RECOVERY_STATUS_REFUSALS) rfl (by decide)
    rw [h, showRefusal.eq_def, fget_fset_apart _ (by decide), fget_fset_apart _ (by decide), fget_fset_apart _ (by decide),
      ← seen.fget _ rfl]
    exact (fget_fset _ _ _ _ _ _ (by decide)).trans (Nat.mod_eq_of_lt (by show min _ _ < 65536; omega))

end

/-! ### VoteResolve (R364) -/

/-- The entry that takes VoteResolve. -/
def resolveEntry : DEnt := ⟨0x3200, 4, .u8, .wo, 0, .le 1 2⟩

/-- The step goes on from VOTE_LOST, with a record of what was decided. -/
def resolved (s : State) (n : Nat) : State :=
  (s.logWrite recResolve 0xFF 0 (locHub 0x3F) 0 0xFFFFFFFF (bytesOf 4 n)).stepState 1 3

section
variable {s : State} {p : DPath}

theorem voteResolve_eq (lost : s.fget .RECOVERY_STATUS_STATE = 3) (c : Bool) : s.voteResolve c =
    if c then (resolved s (if c then 1 else 2)).commit else (resolved s (if c then 1 else 2)).refuse true :=
  if_neg (not_not.2 lost)

theorem writeEntry_resolve (lost : s.fget .RECOVERY_STATUS_STATE = 3) :
    s.writeEntry resolveEntry [1] = (dOk, (resolved s 1).commit) ∧
      s.writeEntry resolveEntry [2] = (dOk, (resolved s 2).refuse true) := by
  have commits := voteResolve_eq lost true
  have refuses := voteResolve_eq lost false
  rw [if_pos rfl, if_pos rfl] at commits
  rw [if_neg Bool.false_ne_true, if_neg Bool.false_ne_true] at refuses
  constructor
  · calc s.writeEntry resolveEntry [1]
      _ = if s.fget .RECOVERY_STATUS_STATE ≠ 3 then (dState, s) else (dOk, s.voteResolve true) := rfl
      _ = _ := by rw [if_neg (not_not.2 lost), commits]
  · calc s.writeEntry resolveEntry [2]
      _ = if s.fget .RECOVERY_STATUS_STATE ≠ 3 then (dState, s) else (dOk, s.voteResolve false) := rfl
      _ = _ := by rw [if_neg (not_not.2 lost), refuses]

theorem exec_voteResolveCommit (lost : s.fget .RECOVERY_STATUS_STATE = 3) (may : s.pathMay p (.voteResolveCommit p)) :
    exec (.voteResolveCommit p) s = .next ((resolved s 1).commit.okReply p 0x3200 4 [1] 1) :=
  (clocked_of_crosses s (i := .voteResolveCommit p) may.1).trans
    (congrArg _ (pathWrite_of_ok may (e := resolveEntry) (by decide) (by decide) (writeEntry_resolve lost).1))

theorem exec_voteResolveRefuse (lost : s.fget .RECOVERY_STATUS_STATE = 3) (may : s.pathMay p (.voteResolveRefuse p)) :
    exec (.voteResolveRefuse p) s = .next (((resolved s 2).refuse true).okReply p 0x3200 4 [2] 1) :=
  (clocked_of_crosses s (i := .voteResolveRefuse p) may.1).trans
    (congrArg _ (pathWrite_of_ok may (e := resolveEntry) (by decide) (by decide) (writeEntry_resolve lost).2))

theorem resolved_step (n : Nat) : (resolved s n).job = s.job ∧ pageParts (resolved s n) = pageParts s ∧
    (resolved s n).mem = s.mem ∧ (resolved s n).fget .RECOVERY_STATUS_REFUSALS = s.fget .RECOVERY_STATUS_REFUSALS := by
  have kept : StepKept s (s.logWrite recResolve 0xFF 0 (locHub 0x3F) 0 0xFFFFFFFF (bytesOf 4 n)) := (StepKept.refl s).logWrite ..
  refine ⟨?_, ?_, ?_, ?_⟩
  · rw [resolved, stepState_job, logWrite_job]
  · rw [resolved, pageParts, stepState_ledger, stepState_pendingDict, stepState_memBad]
    exact pageParts_logWrite ..
  · rw [resolved, stepState_mem, kept.mem]
  · rw [resolved, fget_stepState _ (by decide), kept.fget _ rfl]

end

/-- Settles O36: the decision of VoteResolve is in the commit, or the refusal, that follows it; the answer comes after. -/
theorem voteResolveDecidesTheStep : Obligations.VoteResolveDecidesTheStep := by
  intro s p lost pending sound _
  refine ⟨fun may => ?_, fun may => ?_⟩
  · obtain ⟨job, parts, -, -⟩ := resolved_step (s := s) 1
    rw [pageParts, pageParts, Prod.mk.injEq, Prod.mk.injEq] at parts
    obtain ⟨ledger, latched, bad⟩ := parts
    obtain ⟨counter, page, attempt⟩ := commit_step (bad.trans sound) (latched.trans pending)
    obtain ⟨phase, state, refusals, refused, result, latest⟩ := commit_shows (bad.trans sound) (latched.trans pending)
    have answer := (StepKept.refl (resolved s 1).commit).okReply p 0x3200 4 [1] 1
    rw [job] at counter latest
    rw [ledger] at page
    exact ⟨_, exec_voteResolveCommit lost may, answer.stepCounter.trans counter, (congrArg _ answer.ledger).trans page,
      answer.attempt.trans attempt, (answer.fget _ rfl ..).trans phase, (answer.fget _ rfl ..).trans state,
      (answer.fget _ rfl ..).trans refusals, (answer.fget _ rfl ..).trans refused, (answer.fget _ rfl ..).trans result,
      (answer.fget _ rfl ..).trans latest⟩
  · obtain ⟨job, parts, mem, refusalsBefore⟩ := resolved_step (s := s) 2
    obtain ⟨counter, ledger, attempt, toHold, mem'⟩ := refuse_step (resolved s 2)
    obtain ⟨phase, state, refused, refusals⟩ := refuse_shows (resolved s 2)
    have answer := (StepKept.refl ((resolved s 2).refuse true)).okReply p 0x3200 4 [2] 1
    rw [job] at counter attempt
    rw [refusalsBefore] at refusals
    exact ⟨_, exec_voteResolveRefuse lost may, answer.stepCounter.trans counter,
      answer.ledger.trans (ledger.trans (congrArg (·.1) parts)), answer.attempt.trans attempt, answer.toHold.trans toHold,
      (answer.fget _ rfl ..).trans phase, (answer.fget _ rfl ..).trans state, (answer.fget _ rfl ..).trans refused,
      (answer.fget _ rfl ..).trans refusals, answer.mem.trans (mem'.trans mem)⟩

end Sys2Proof.Proofs
end

section
/-! PROOFS. Ledger loads (R248): the doorbell's answer, and the end of an AS_IS load, which writes memory before the ledger
is in force. -/

namespace Sys2Proof.Proofs

open Sys2Proof Sys2Proof.Machine Sys2Proof.Laws

/-! ### What changes memory alone -/

/-- `t` is `s` but for the bytes of module memory. -/
def OnlyMem (s t : State) : Prop := t = { s with mem := t.mem }

namespace OnlyMem

theorem refl (s : State) : OnlyMem s s := rfl

theorem trans {s t u : State} (h : OnlyMem s t) (g : OnlyMem t u) : OnlyMem s u := by
  unfold OnlyMem at h g ⊢
  rw [g, h]

theorem foldl {α : Type} (g : State → α → State) {s : State} (l : List α)
    (step : ∀ t x, OnlyMem s t → OnlyMem t (g t x)) : OnlyMem s (l.foldl g s) :=
  List.foldlRecOn l g (refl s) fun t h x _ => h.trans (step t x h)

section
variable {s t : State} (h : OnlyMem s t)
include h

theorem memBad : t.memBad = s.memBad := by rw [h]
theorem cores : t.cores = s.cores := by rw [h]
theorem plan : t.plan = s.plan := by rw [h]

end

section
variable {s : State} (sound : s.memBad = [])
include sound

theorem writeMem (a : Nat) (bs : List Byte) (core : Option Nat) : OnlyMem s (s.writeMem a bs core) := by
  rw [writeMem_of_sound sound]
  rfl

theorem copyArea (src dst off n : Nat) : OnlyMem s (s.copyArea src dst off n) := by
  rw [State.copyArea, hubRead_of_sound sound]
  exact writeMem sound _ _ _

theorem store (a : Nat) (bs : List Byte) : OnlyMem s (s.store a bs) := by
  simp [OnlyMem, State.store, sound]

theorem fillCold (a : Nat) : OnlyMem s (s.fillCold a) := by
  unfold State.fillCold
  split
  · exact refl s
  · exact foldl _ _ fun t _ h => store (h.memBad.trans sound) _ _

end

end OnlyMem

/-! ### The doorbell -/

/-- The entry that takes LedgerLoad. -/
def ledgerEntry : DEnt := ⟨0x2300, 3, .u8, .wo, 0, .le 1 3⟩

section
variable {s : State} {p : DPath}

theorem pathWrite_ledgerLoad {i : Instr} {n : Byte} (may : s.pathMay p i)
    (written : s.writeEntry ledgerEntry [n] = (dOk, s.ledgerLoad n.toNat)) :
    s.pathWrite p 0x2300 3 [n] = (s.ledgerLoad n.toNat).okReply p 0x2300 3 [n] 1 :=
  pathWrite_of_ok may (e := ledgerEntry) (by decide) (by decide) written

/-- The three doorbells write their mode. -/
theorem exec_ledgerLoad {mode : Nat} {i : Instr} (named : (mode = 1 ∧ i = .ledgerLoadAsIs p) ∨
    (mode = 2 ∧ i = .ledgerLoadRebuildCells p) ∨ (mode = 3 ∧ i = .ledgerLoadFresh p)) (may : s.pathMay p i) :
    exec i s = .next ((s.ledgerLoad mode).okReply p 0x2300 3 (bytesOf 1 mode) 1) := by
  obtain ⟨rfl, rfl⟩ | ⟨rfl, rfl⟩ | ⟨rfl, rfl⟩ := named
  · exact (clocked_of_crosses s (i := .ledgerLoadAsIs p) may.1).trans (congrArg _ (pathWrite_ledgerLoad may rfl))
  · exact (clocked_of_crosses s (i := .ledgerLoadRebuildCells p) may.1).trans (congrArg _ (pathWrite_ledgerLoad may rfl))
  · exact (clocked_of_crosses s (i := .ledgerLoadFresh p) may.1).trans (congrArg _ (pathWrite_ledgerLoad may rfl))

theorem ledgerLoad_of_inStep (step : s.inStep = true) (mode : Nat) : s.ledgerLoad mode = s.setDval 0x2300 5 0x14 :=
  if_pos step

theorem ledgerLoad_of_idle (step : s.inStep = false) (mode : Nat) : s.ledgerLoad mode =
    match s.readLedger (s.dval 0x2300 4 0) (s.dval 0x2300 1 0) (s.dval 0x2300 2 0) with
    | .error c => s.setDval 0x2300 5 c
    | .ok _ => { s.setDval 0x2300 5 2 with ledger :=
        { s.ledger with loading := some (mode, s.dval 0x2300 4 0, s.dval 0x2300 1 0, s.dval 0x2300 2 0) } } :=
  if_neg (by rw [step]; exact Bool.false_ne_true)

end

/-! ### The end of an AS_IS load -/

/-- An AS_IS load of the page at `base` writes header, tensor table and STATIC areas into the page at `other`, and cold
records where there is no scale history. -/
def asIsPages (s : State) (l : Ledger) (page base other : Nat) : State :=
  ((((l.tensors.filter Tensor.isStatic).foldl (fun s t => t.areas.foldl (fun s a => s.copyArea base other a.1 a.2) s)
    ((s.writeMem other (setAt (setAt (s.load base 256) 6 (BitVec.ofNat 8 (1 - page))) 7 0) none).copyArea base other l.tableOff
      (64 * l.tensors.length)))).fillCold (base + l.histOff))

theorem onlyMem_asIsPages {s : State} (sound : s.memBad = []) (l : Ledger) (page base other : Nat) :
    OnlyMem s (asIsPages s l page base other) := by
  have header : OnlyMem s (s.writeMem other (setAt (setAt (s.load base 256) 6 (BitVec.ofNat 8 (1 - page))) 7 0) none) :=
    .writeMem sound _ _ _
  have table := header.trans (.copyArea (header.memBad.trans sound) base other l.tableOff (64 * l.tensors.length))
  have static := table.trans (.foldl (fun s (t : Tensor) => t.areas.foldl (fun s a => s.copyArea base other a.1 a.2) s)
    (l.tensors.filter Tensor.isStatic) fun u t h => .foldl _ t.areas fun v a g =>
      .copyArea (g.memBad.trans (h.memBad.trans (table.memBad.trans sound))) base other a.1 a.2)
  exact static.trans (.fillCold (static.memBad.trans sound) _)

/-- The ledger is in force with its step counter, and the status shows it. -/
def ledgerInForce (s : State) (l : Ledger) (n : Nat) : State :=
  let u := (s.setDval 0x2300 5 1).fset .COMMIT_STATUS_ATTEMPT 0
  { u with
    ledger := { l with firstDoorbell := true }
    exch := { u.exch with coldLoad := false }
    job := { u.job with stepCounter := n, attempt := 0, curStep := n, curAttempt := 0 } }

/-- The state whose ledger the end of a load reads. -/
def loadTaken (s : State) : State := { s with ledger := { s.ledger with loading := none } }

section
variable {s : State} {page b0 b1 : Nat} (loading : s.ledger.loading = some (1, page, b0, b1)) (step : s.inStep = false)
  (idle : s.job.epilogue = [])
include loading step idle

theorem ledgerDone_of_error {c : Nat}
    (failed : (loadTaken s).readLedger page b0 b1 = .error c) : s.ledgerDone = (loadTaken s).setDval 0x2300 5 c := by
  unfold State.ledgerDone
  rw [loading]
  dsimp only
  rw [step, idle, ← loadTaken, failed]
  rfl

theorem ledgerDone_of_ok (sound : s.memBad = []) (bare : s.plan.loaded = false) {l : Ledger}
    (read : (loadTaken s).readLedger page b0 b1 = .ok l) : ∃ u, OnlyMem (loadTaken s) u ∧
      s.ledgerDone = ledgerInForce u l (fieldAt (s.load (if page = 0 then b0 else b1) 256) 8 8) := by
  have only := onlyMem_asIsPages (s := loadTaken s) sound l page (if page = 0 then b0 else b1) (if page = 0 then b1 else b0)
  have unplanned : ¬ (asIsPages (loadTaken s) l page (if page = 0 then b0 else b1) (if page = 0 then b1 else b0)).plan.loaded := by
    rw [only.plan]
    exact ne_true_of_eq_false bare
  refine ⟨_, only, ?_⟩
  unfold State.ledgerDone
  rw [loading]
  dsimp only
  rw [step, idle, ← loadTaken, read]
  exact if_neg unplanned

end

/-- Settles O38: the doorbells differ by their mode alone, and what an AS_IS load copies is memory only. -/
theorem ledgerLoadsComplete : Obligations.LedgerLoadsComplete := by
  intro s p mode i named
  refine ⟨fun may => ⟨fun step => ?_, fun step => ?_⟩, ?_⟩
  · rw [exec_ledgerLoad named may, ledgerLoad_of_inStep step]
  · rw [exec_ledgerLoad named may, ledgerLoad_of_idle step]
    cases s.readLedger (s.dval 0x2300 4 0) (s.dval 0x2300 1 0) (s.dval 0x2300 2 0) <;> rfl
  · rintro page b0 b1 clocks loading step idle rfl sound bare
    have ends : exec .ledgerLoadComplete s = .next s.ledgerDone := clocked_of_crosses s (i := .ledgerLoadComplete) clocks
    rw [← loadTaken]
    cases read : (loadTaken s).readLedger page b0 b1 with
    | error c => exact ends.trans (congrArg _ (ledgerDone_of_error loading step idle read))
    | ok l =>
      obtain ⟨u, only, done⟩ := ledgerDone_of_ok loading step idle sound bare read
      exact ⟨_, ends.trans (congrArg _ done), rfl, dval_setDval u 0x2300 5 1 0, rfl, rfl, rfl, only.cores⟩

end Sys2Proof.Proofs
end

section
/-! PROOFS. Accesses of the host (R247, R273, R393 to R395, R413): who is let through, what a read answers, and that a write
stores the bytes that nothing protects and no others. -/

namespace Sys2Proof.Proofs

open Sys2Proof Sys2Proof.Machine Sys2Proof.Laws

/-! ### Who is let through (R393, R413) -/

section
variable {s : State} (f : State → State)

theorem hostAccess_of_open (isOpen : s.barOpen) : s.hostAccess f = f { s with unsupported := false } := by
  obtain ⟨d3, secure⟩ := isOpen
  rw [State.hostAccess, if_neg secure, d3]
  rfl

theorem hostAccess_of_d3 (secure : linkStream ∉ s.host.insecure) (d3 : s.host.d3 = true) :
    s.hostAccess f = { s with unsupported := true } := by
  rw [State.hostAccess, if_neg secure, d3]
  rfl

theorem hostAccess_of_insecure (insecure : linkStream ∈ s.host.insecure) : s.hostAccess f = s := if_pos insecure

end

/-! ### Reads of module memory (R395) -/

/-- What a read at a module address does once it is let through. -/
def bar2Load (a len : Nat) (s : State) : State :=
  (State.raiseBad { s with reply := s.hostLoad a len } ((s.badIn a len).filter fun w => mapped (w * 32)) none).fcount
    .HOST_COUNT_UNMAPPED_ACCESS (b2n ((List.range len).any fun i => !mapped (a + i)))

/-- While the link stream is out of the secure state a read is dropped, whatever its size. -/
theorem exec_bar2Read_of_insecure {s : State} {off len : Nat} (clocks : s.crosses (.bar2Read off len) = true)
    (insecure : linkStream ∈ s.host.insecure) : exec (.bar2Read off len) s = .next s := by
  refine (clocked_of_crosses s (i := .bar2Read off len) clocks).trans (congrArg _ ?_)
  rw [hostAccess_of_insecure _ insecure, ite_self]

theorem exec_bar2Read {s : State} {off len : Nat} (clocks : s.crosses (.bar2Read off len) = true)
    (fits : off + len ≤ bar2Size) :
    exec (.bar2Read off len) s = .next (s.hostAccess fun u => bar2Load (u.aperture + off) len u) :=
  (clocked_of_crosses s (i := .bar2Read off len) clocks).trans (congrArg _ (if_neg (Nat.not_lt.2 fits)))

theorem bar2Load_of_sound {s : State} (sound : s.memBad = []) (a len : Nat) : bar2Load a len s =
    State.fcount { s with reply := s.hostLoad a len } .HOST_COUNT_UNMAPPED_ACCESS
      (b2n ((List.range len).any fun i => !mapped (a + i))) := by
  rw [bar2Load, badIn_of_memBad sound]
  rfl

section
variable {a len : Nat}

theorem hostLoad_of_mapped (s : State) (all : ∀ i, i < len → mapped (a + i) = true) :
    s.hostLoad a len = s.mem.readBytes a len := by
  refine List.ext_getElem (by simp [State.hostLoad]) fun i _ h => ?_
  rw [readBytes_length] at h
  rw [readBytes_getElem _ _ _ _ h]
  simp [State.hostLoad, all i h]

theorem anyUnmapped_eq_false (all : ∀ i, i < len → mapped (a + i) = true) :
    ((List.range len).any fun i => !mapped (a + i)) = false := by
  simpa using all

theorem anyUnmapped_eq_true (some : ∃ i, i < len ∧ mapped (a + i) = false) :
    ((List.range len).any fun i => !mapped (a + i)) = true := by
  simpa using some

theorem hostLoad_unmapped (s : State) {i : Nat} (h : i < len) (unmapped : mapped (a + i) = false) :
    (s.hostLoad a len)[i]? = some 0xFF := by
  simp [State.hostLoad, h, unmapped]

end

/-! ### What a write stores -/

/-- A store leaves every byte beyond it: an uncorrectable word that it touches in part gets its own bytes back. -/
theorem read_store_of_beyond (s : State) {a x : Nat} {bs : List Byte} (beyond : x < a ∨ a + bs.length ≤ x) :
    (s.store a bs).mem.read x = s.mem.read x := by
  refine List.foldlRecOn (motive := fun m : Mem => m.read x = s.mem.read x) _ _ (read_writeBytes_ne _ _ _ _ beyond)
    fun m same w _ => ?_
  by_cases inside : w * 32 ≤ x ∧ x < w * 32 + 32
  · obtain ⟨low, high⟩ := inside
    obtain ⟨i, rfl⟩ := Nat.exists_eq_add_of_le low
    have small : i < 32 := by omega
    rw [read_writeBytes _ _ _ _ (by rw [readBytes_length]; exact small), readBytes_getElem _ _ _ _ small]
  · rw [read_writeBytes_ne _ _ _ _ (by rw [readBytes_length]; omega), same]

theorem read_writeMem_of_beyond (s : State) {a x : Nat} {bs : List Byte} (core : Option Nat)
    (beyond : x < a ∨ a + bs.length ≤ x) : (s.writeMem a bs core).mem.read x = s.mem.read x := by
  rw [State.writeMem, raiseBad_mem]
  exact read_store_of_beyond s beyond

section
variable {a : Nat} {b : Byte} {r : List (Bool × Byte)}

theorem keptRuns_of_dropped : keptRuns a ((false, b) :: r) = keptRuns (a + 1) r := by
  rw [keptRuns]

theorem keptRuns_of_last (rest : keptRuns (a + 1) r = []) : keptRuns a ((true, b) :: r) = [(a, [b])] := by
  unfold keptRuns
  rw [rest]

theorem keptRuns_of_kept {c : Nat} {bs : List Byte} {t : List (Nat × List Byte)} (rest : keptRuns (a + 1) r = (c, bs) :: t) :
    keptRuns a ((true, b) :: r) = if c = a + 1 then (a, b :: bs) :: t else (a, [b]) :: (c, bs) :: t := by
  unfold keptRuns
  rw [rest]

end

/-- The byte at `x` is kept, where the first byte stands at `a`. -/
def keptAt (l : List (Bool × Byte)) (a x : Nat) : Prop := a ≤ x ∧ ∃ b, l[x - a]? = some (true, b)

theorem keptAt_first (a : Nat) (b : Byte) (r : List (Bool × Byte)) : keptAt ((true, b) :: r) a a :=
  ⟨Nat.le_refl a, b, by rw [Nat.sub_self]; rfl⟩

theorem keptAt_cons {a x : Nat} {r : List (Bool × Byte)} (h : keptAt r (a + 1) x) (y : Bool × Byte) : keptAt (y :: r) a x := by
  obtain ⟨low, b, at_⟩ := h
  refine ⟨Nat.le_of_succ_le low, b, ?_⟩
  rw [show x - a = x - (a + 1) + 1 by omega, List.getElem?_cons_succ, at_]

/-- The runs hold kept bytes only. -/
theorem keptAt_of_mem_keptRuns {l : List (Bool × Byte)} {a x : Nat} {run : Nat × List Byte} (h : run ∈ keptRuns a l)
    (low : run.1 ≤ x) (high : x < run.1 + run.2.length) : keptAt l a x := by
  induction l generalizing a run with
  | nil => cases h
  | cons y r ih =>
    obtain ⟨k, b⟩ := y
    have single (e : run = (a, [b])) : x = a := by
      subst e
      exact Nat.le_antisymm (Nat.le_of_lt_succ high) low
    cases k with
    | false =>
      rw [keptRuns_of_dropped] at h
      exact keptAt_cons (ih h low high) _
    | true =>
      cases rest : keptRuns (a + 1) r with
      | nil =>
        rw [keptRuns_of_last rest, List.mem_singleton] at h
        exact single h ▸ keptAt_first ..
      | cons first t =>
        obtain ⟨c, bs⟩ := first
        have later {run : Nat × List Byte} (h : run ∈ (c, bs) :: t) (low : run.1 ≤ x) (high : x < run.1 + run.2.length) :
            keptAt ((true, b) :: r) a x := keptAt_cons (ih (rest ▸ h) low high) _
        rw [keptRuns_of_kept rest] at h
        split at h
        · next joined =>
          obtain rfl | h := List.mem_cons.1 h
          · obtain rfl | above := Nat.eq_or_lt_of_le low
            · exact keptAt_first ..
            · refine later (List.mem_cons_self ..) (joined ▸ above) ?_
              simp only [List.length_cons] at high ⊢
              omega
          · exact later (List.mem_cons_of_mem _ h) low high
        · obtain e | h := List.mem_cons.1 h
          · exact single e ▸ keptAt_first ..
          · exact later h low high

/-- Bytes that are all kept are one run. -/
theorem keptRuns_of_all (a : Nat) (b : Byte) (bs : List Byte) :
    keptRuns a ((b :: bs).map fun x => (true, x)) = [(a, b :: bs)] := by
  induction bs generalizing a b with
  | nil => rfl
  | cons c r ih => exact (keptRuns_of_kept (ih (a + 1) c)).trans (if_pos rfl)

/-! ### Writes of module memory (R247, R273, R395) -/

/-- A host write is let through to the byte at `x`. -/
def hostMay (s : State) (x : Nat) : Bool := mapped x && !(mapped x && s.pageProtects x) && !(mapped x && s.slotProtects x)

/-- The bytes of a write at `a`, with the ones that are let through. -/
def hostMask (s : State) (a : Nat) (data : List Byte) : List (Bool × Byte) :=
  (((List.range data.length).map (· + a)).map (hostMay s)).zip data

/-- The bytes of a write that are let through are in memory. -/
def hostBytes (s : State) (a : Nat) (data : List Byte) : State :=
  (keptRuns a (hostMask s a data)).foldl (fun s r => s.writeMem r.1 r.2 none) s

/-- Some address of a write is of the kind. -/
def anyAt (p : Nat → Bool) (a : Nat) (data : List Byte) : Bool := ((List.range data.length).map (· + a)).any p

/-- What a write at a module address does once it is let through. -/
def bar2Store (a : Nat) (data : List Byte) (s : State) : State :=
  (((hostBytes s a data).countD 0x2300 9 (b2n (anyAt (fun x => mapped x && s.pageProtects x) a data))).countD 0x3300 6
    (b2n (anyAt (fun x => mapped x && s.slotProtects x) a data))).fcount .HOST_COUNT_UNMAPPED_ACCESS
      (b2n (anyAt (fun x => !mapped x) a data))

theorem exec_bar2Write {s : State} {off : Nat} {data : List Byte} (clocks : s.crosses (.bar2Write off data) = true)
    (fits : off + data.length ≤ bar2Size) :
    exec (.bar2Write off data) s = .next (s.hostAccess fun u => bar2Store (u.aperture + off) data u) :=
  (clocked_of_crosses s (i := .bar2Write off data) clocks).trans (congrArg _ (if_neg (Nat.not_lt.2 fits)))

theorem hostMay_of_protected {s : State} {x : Nat} (there : mapped x = true)
    (held : s.pageProtects x = true ∨ s.slotProtects x = true) : hostMay s x = false := by
  rcases held with h | h <;> simp [hostMay, there, h]

theorem hostMay_of_kept {s : State} {a x : Nat} {data : List Byte} (h : keptAt (hostMask s a data) a x) :
    hostMay s x = true := by
  obtain ⟨low, b, at_⟩ := h
  obtain ⟨i, rfl⟩ := Nat.exists_eq_add_of_le low
  rw [hostMask, Nat.add_sub_cancel_left, List.getElem?_zip_eq_some] at at_
  obtain ⟨may, -⟩ := at_
  obtain ⟨small, place⟩ := List.getElem?_eq_some_iff.1 may
  simpa [Nat.add_comm i a] using place

theorem read_bar2Store_of_protected {s : State} {x : Nat} (held : hostMay s x = false) (a : Nat) (data : List Byte) :
    (bar2Store a data s).mem.read x = s.mem.read x := by
  rw [bar2Store, fcount_mem, countD_mem, countD_mem]
  refine List.foldlRecOn (motive := fun u : State => u.mem.read x = s.mem.read x) _ _ rfl fun u same run mem => ?_
  refine (read_writeMem_of_beyond u none ?_).trans same
  by_contra within
  have kept := hostMay_of_kept (keptAt_of_mem_keptRuns mem (x := x) (by omega) (by omega))
  rw [held] at kept
  exact Bool.false_ne_true kept

section
variable {s : State} {a : Nat} {data : List Byte} (free : ∀ i, i < data.length → mapped (a + i) = true ∧
  s.pageProtects (a + i) = false ∧ s.slotProtects (a + i) = false)
include free

theorem anyAt_eq_false {p : Nat → Bool} (h : ∀ x, mapped x = true → s.pageProtects x = false → s.slotProtects x = false →
    p x = false) : anyAt p a data = false := by
  simp only [anyAt, List.any_map, List.any_eq_false, List.mem_range, Function.comp_apply]
  intro i small
  obtain ⟨m, page, slot⟩ := free i small
  rw [Nat.add_comm i a, h _ m page slot]
  exact Bool.false_ne_true

theorem hostMask_of_free : hostMask s a data = data.map fun b => (true, b) := by
  refine List.ext_getElem (by simp [hostMask]) fun i _ h => ?_
  rw [List.length_map] at h
  obtain ⟨m, page, slot⟩ := free i h
  simp [hostMask, hostMay, Nat.add_comm i a, m, page, slot]

theorem hostBytes_of_free (sound : s.memBad = []) : hostBytes s a data = { s with mem := s.mem.writeBytes a data } := by
  rw [hostBytes, hostMask_of_free free]
  cases data with
  | nil => rfl
  | cons b r =>
    rw [keptRuns_of_all, List.foldl_cons, List.foldl_nil]
    exact writeMem_of_sound sound a (b :: r) none

theorem bar2Store_of_free (sound : s.memBad = []) : bar2Store a data s = { s with mem := s.mem.writeBytes a data } := by
  rw [bar2Store, hostBytes_of_free free sound,
    anyAt_eq_false free (p := fun x => mapped x && s.pageProtects x) fun x _ page _ => by rw [page, Bool.and_false],
    anyAt_eq_false free (p := fun x => mapped x && s.slotProtects x) fun x _ _ slot => by rw [slot, Bool.and_false],
    anyAt_eq_false free (p := fun x => !mapped x) fun x m _ _ => by rw [m]; rfl]
  rfl

end

/-! ### BAR0 (R394) -/

section
variable {s : State} {off size : Nat} {w : Option Nat}

theorem exec_bar0Unsupported (clocks : s.crosses (.bar0Unsupported off size w) = true) (isOpen : s.barOpen) :
    exec (.bar0Unsupported off size w) s = .next (if bar0Takes off size w.isSome
      then State.bar0Access { s with unsupported := false } off size w else s.turnedAway) := by
  have access : exec (.bar0Unsupported off size w) s = .next (s.hostAccess fun u =>
      if bar0Takes off size w.isSome then u.bar0Access off size w else u.turnedAway) :=
    clocked_of_crosses s (i := .bar0Unsupported off size w) clocks
  rw [access, hostAccess_of_open _ isOpen]
  rfl

/-- BAR0 takes a 64-bit read of a result page. -/
theorem bar0Takes_page (aligned : off % 8 = 0) (low : 0x4000 ≤ off) (high : off < 0x8000) : bar0Takes off 8 false = true := by
  simp [bar0Takes, aligned, low, high]

theorem bar0Read_page (low : 0x4000 ≤ off) (high : off < 0x8000) : s.bar0Read off = { s with
    reply := bytesOf 4 (fieldAt (s.host.pages.get ((off - 0x4000) / 4096) []) (off % 4096) 4) } := by
  have place : bar0Sec off = some (.host, 0, off) := by
    rw [bar0Sec, if_neg (by omega), if_neg (by omega), if_pos ⟨low, high⟩]
  have value : s.hostRead off = (fieldAt (s.host.pages.get ((off - 0x4000) / 4096) []) (off % 4096) 4, s) :=
    if_pos ⟨low, high⟩
  rw [State.bar0Read, place]
  show State.replyWord (s.hostRead off) = _
  rw [value]
  rfl

/-- Both dwords of an aligned 64-bit access lie in one result page. -/
theorem page_of_second (aligned : off % 8 = 0) (low : 0x4000 ≤ off) :
    (off + 4 - 0x4000) / 4096 = (off - 0x4000) / 4096 ∧ (off + 4) % 4096 = off % 4096 + 4 := by
  omega

theorem bar0Access_page (aligned : off % 8 = 0) (low : 0x4000 ≤ off) (high : off < 0x8000) :
    s.bar0Access off 8 none = { s with
      reply := bytesOf 4 (fieldAt (s.host.pages.get ((off - 0x4000) / 4096) []) (off % 4096) 4) ++
        bytesOf 4 (fieldAt (s.host.pages.get ((off - 0x4000) / 4096) []) (off % 4096 + 4) 4) } := by
  obtain ⟨page, place⟩ := page_of_second aligned low
  rw [State.bar0Access]
  dsimp only
  rw [if_pos rfl, bar0Read_page low high, bar0Read_page (by omega) (by omega), page, place]

end

/-- Settles O47: each access is the host's, let through or not, around a read, a write of the kept runs, or BAR0. -/
theorem hostAccessesComplete : Obligations.HostAccessesComplete := by
  intro s
  refine ⟨fun off len clocks fits isOpen sound => ?_, fun off data clocks fits isOpen => ?_,
    fun secure d3 off len clocks fits => ?_, fun insecure off len clocks => ?_, fun off size w clocks isOpen => ?_⟩
  · have answer : exec (.bar2Read off len) s = .next (bar2Load (s.aperture + off) len { s with unsupported := false }) := by
      rw [exec_bar2Read clocks fits, hostAccess_of_open _ isOpen]
      rfl
    rw [bar2Load_of_sound (by exact sound)] at answer
    refine ⟨fun all => ?_, fun some => ⟨_, answer, ?_, fun i small unmapped => ?_⟩⟩
    · rw [answer, anyUnmapped_eq_false all, hostLoad_of_mapped _ all]
      rfl
    · rw [anyUnmapped_eq_true some]
      exact fget_fcount _ _ _ _ _ _ (by decide)
    · rw [fcount_reply]
      exact hostLoad_unmapped _ small unmapped
  · have answer : exec (.bar2Write off data) s =
        .next (bar2Store (s.aperture + off) data { s with unsupported := false }) := by
      rw [exec_bar2Write clocks fits, hostAccess_of_open _ isOpen]
      rfl
    refine ⟨fun sound free => ?_, _, answer, fun x there held => ?_⟩
    · rw [bar2Store_of_free (by exact free) (by exact sound)] at answer
      refine ⟨_, answer, rfl, rfl, fun i small => ?_, fun x beyond => ?_⟩
      · rw [List.getElem?_eq_getElem small]
        exact read_writeBytes _ _ _ _ small
      · exact read_writeBytes_ne _ _ _ _ beyond
    · exact read_bar2Store_of_protected (s := { s with unsupported := false }) (hostMay_of_protected there held) _ _
  · rw [exec_bar2Read clocks fits, hostAccess_of_d3 _ secure d3]
  · exact exec_bar2Read_of_insecure clocks insecure
  · have answer := exec_bar0Unsupported clocks isOpen
    refine ⟨fun refused => ?_, fun taken => ?_, ?_⟩
    · rw [answer, if_neg (ne_true_of_eq_false refused)]
      rfl
    · rw [answer, if_pos taken]
    · rintro rfl rfl aligned low high
      rw [answer, if_pos (by exact bar0Takes_page aligned low high), bar0Access_page aligned low high]

end Sys2Proof.Proofs
end

section
/-! PROOFS. The exact gradient exchange (R284, R285, R296): bodies combine in any order, and the integers that the members
of a group convert sum within 32 bits. -/

namespace Sys2Proof.Proofs

open Sys2Proof Sys2Proof.Machine Sys2Proof.Laws

/-! ### Combined bodies (R296) -/

theorem peakMax_comm (a b : Nat) : peakMax a b = peakMax b a := by
  unfold peakMax
  split_ifs <;> omega

/-- A combined peak is 0xFF only where both are, so 0xFF stays the identity when a third byte joins. -/
theorem peakMax_assoc (a b c : Nat) : peakMax (peakMax a b) c = peakMax a (peakMax b c) := by
  unfold peakMax
  split_ifs <;> omega

/-- One block of a combined body. -/
def addBlk (x y : XBlk) : XBlk :=
  ⟨List.zipWith (· + ·) x.ints y.ints, peakMax x.peak y.peak, x.recross || y.recross⟩

theorem addBlk_comm (x y : XBlk) : addBlk x y = addBlk y x := by
  rw [addBlk, addBlk, List.zipWith_comm_of_comm Int.add_comm, peakMax_comm, Bool.or_comm]

theorem addBlk_assoc (x y z : XBlk) : addBlk (addBlk x y) z = addBlk x (addBlk y z) := by
  simp only [addBlk, List.zipWith_zipWith_left, List.zipWith_zipWith_right, Int.add_assoc, peakMax_assoc, Bool.or_assoc]

theorem addBody_eq_zipWith (a b : List XBlk) : addBody a b = List.zipWith addBlk a b := by
  simp only [addBody, List.map_zip_eq_zipWith]
  rfl

theorem addBody_comm (a b : List XBlk) : addBody a b = addBody b a := by
  rw [addBody_eq_zipWith, addBody_eq_zipWith, List.zipWith_comm_of_comm addBlk_comm]

theorem addBody_assoc (a b c : List XBlk) : addBody (addBody a b) c = addBody a (addBody b c) := by
  simp only [addBody_eq_zipWith, List.zipWith_zipWith_left, List.zipWith_zipWith_right, addBlk_assoc]

theorem getElem?_addBody {a b : List XBlk} {i : Nat} {x y : XBlk} (inA : a[i]? = some x) (inB : b[i]? = some y) :
    (addBody a b)[i]? = some (addBlk x y) := by
  rw [addBody_eq_zipWith, List.getElem?_zipWith, inA, inB]

/-! ### Converted elements (R285) -/

/-- The largest magnitude of a converted element. -/
def exchBound (c : Nat) : Nat := 2 ^ (31 - c) - 1

theorem cast_exchBound (c : Nat) : (exchBound c : Int) = 2 ^ (31 - c) - 1 := by
  rw [exchBound, Nat.cast_sub Nat.one_le_two_pow, Nat.cast_pow, Nat.cast_ofNat, Nat.cast_one]

/-- An integer held between the bounds of either sign. -/
def clampInt (bound : Nat) (q : Int) : Int :=
  if bound < q then bound else if q < -bound then -bound else q

theorem natAbs_clampInt_le (bound : Nat) (q : Int) : (clampInt bound q).natAbs ≤ bound := by
  unfold clampInt
  split_ifs <;> omega

theorem natAbs_clampInt_of_ne {bound : Nat} {q : Int} (clamped : clampInt bound q ≠ q) :
    (clampInt bound q).natAbs = bound := by
  unfold clampInt at clamped ⊢
  split_ifs at clamped ⊢ with above below
  · exact Int.natAbs_natCast bound
  · rw [Int.natAbs_neg, Int.natAbs_natCast]
  · exact absurd rfl clamped

section
variable (c scale : Nat) {e : CElem}

theorem convertElem_of_tag (tag : e.tag = true) :
    convertElem c scale e = (if e.raw < 0 then -(exchBound c : Int) else exchBound c, false, 0, 1) := by
  rw [convertElem, if_pos tag, cast_exchBound]

theorem convertElem_of_zero (tag : e.tag = false) (zero : e.raw = 0) : convertElem c scale e = (0, false, 0, 0) := by
  rw [convertElem, if_neg (ne_true_of_eq_false tag), if_pos zero]

/-- An element that is neither tagged nor zero is rounded to an integer, which is then clamped. -/
theorem exists_convertElem_eq_clampInt (tag : e.tag = false) (nonzero : e.raw ≠ 0) :
    ∃ q, convertElem c scale e = (clampInt (exchBound c) q, clampInt (exchBound c) q != q, b2n (q = 0), 0) := by
  refine ⟨(rneInt e.raw.natAbs (e.w - ((scale : Int) - 158)) (e.raw < 0)).1, ?_⟩
  rw [convertElem, if_neg (ne_true_of_eq_false tag), if_neg nonzero, clampInt, cast_exchBound]

end

theorem natAbs_convertElem_le (c scale : Nat) (e : CElem) : (convertElem c scale e).1.natAbs ≤ exchBound c := by
  cases tag : e.tag with
  | true =>
    rw [convertElem_of_tag c scale tag]
    dsimp only
    split_ifs <;> omega
  | false =>
    by_cases zero : e.raw = 0
    · rw [convertElem_of_zero c scale tag zero]
      exact Nat.zero_le _
    · obtain ⟨q, value⟩ := exists_convertElem_eq_clampInt c scale tag zero
      rw [value]
      exact natAbs_clampInt_le _ q

theorem natAbs_convertElem_of_recross {c scale : Nat} {e : CElem} (recross : (convertElem c scale e).2.1 = true) :
    (convertElem c scale e).1.natAbs = exchBound c := by
  cases tag : e.tag with
  | true =>
    rw [convertElem_of_tag c scale tag] at recross
    exact absurd recross Bool.false_ne_true
  | false =>
    by_cases zero : e.raw = 0
    · rw [convertElem_of_zero c scale tag zero] at recross
      exact absurd recross Bool.false_ne_true
    · obtain ⟨q, value⟩ := exists_convertElem_eq_clampInt c scale tag zero
      rw [value] at recross ⊢
      exact natAbs_clampInt_of_ne (bne_iff_ne.mp recross)

/-! ### Sums over a group (R284) -/

theorem self_le_two_pow_ceilLog2 (n : Nat) : n ≤ 2 ^ ceilLog2 n := by
  unfold ceilLog2
  split_ifs with small
  · rwa [Nat.pow_zero]
  · exact Nat.le_of_pred_lt Nat.lt_log2_self

theorem ceilLog2_le {n k : Nat} (fits : n ≤ 2 ^ k) : ceilLog2 n ≤ k := by
  unfold ceilLog2
  split_ifs with small
  · exact Nat.zero_le k
  · exact Nat.succ_le_of_lt ((Nat.log2_lt (by omega)).mpr (by omega))

theorem natAbs_sum_le {bound : Nat} {l : List Int} (bounded : ∀ x ∈ l, x.natAbs ≤ bound) :
    l.sum.natAbs ≤ l.length * bound := by
  calc l.sum.natAbs ≤ (l.map Int.natAbs).sum := List.le_sum_of_subadditive Int.natAbs le_rfl Int.natAbs_add_le l
    _ ≤ (l.map Int.natAbs).length • bound := List.sum_le_card_nsmul _ _ (List.forall_mem_map.mpr bounded)
    _ = l.length * bound := by rw [List.length_map, smul_eq_mul]

/-- N elements of at most 2^(31 - c) - 1 each stay below 2^31, since N is at most 2^c. -/
theorem mul_exchBound_lt {n c : Nat} (fits : n ≤ 2 ^ c) (small : c ≤ 31) : n * exchBound c < 2 ^ 31 := by
  calc n * exchBound c ≤ 2 ^ c * exchBound c := Nat.mul_le_mul_right _ fits
    _ < 2 ^ c * 2 ^ (31 - c) := Nat.mul_lt_mul_of_pos_left (Nat.sub_one_lt (by positivity)) (by positivity)
    _ = 2 ^ 31 := by rw [← Nat.pow_add, Nat.add_sub_cancel' small]

theorem natAbs_sum_convertElem_lt {g : RGroup} (scale : Nat) {es : List CElem} (small : g.members ≤ 2 ^ 31)
    (fits : es.length ≤ g.members) : (es.map fun e => (convertElem g.c scale e).1).sum.natAbs < 2 ^ 31 := by
  have bounded : ∀ x ∈ es.map fun e => (convertElem g.c scale e).1, x.natAbs ≤ exchBound g.c :=
    List.forall_mem_map.mpr fun e _ => natAbs_convertElem_le g.c scale e
  refine (natAbs_sum_le bounded).trans_lt ?_
  rw [List.length_map]
  exact mul_exchBound_lt (fits.trans (self_le_two_pow_ceilLog2 g.members)) (ceilLog2_le small)

/-- Settles O30: bodies combine by commutative and associative operations, and N clamped integers stay within 32 bits. -/
theorem exchangeSumsAreExact : Obligations.ExchangeSumsAreExact := by
  refine ⟨addBody_assoc, addBody_comm, fun a b i x y inA inB => ⟨_, getElem?_addBody inA inB, ?_, rfl, rfl⟩,
    natAbs_convertElem_le, fun g scale es _ small fits => ?_, fun c scale e => convertElem_of_zero c scale,
    fun c scale e => natAbs_convertElem_of_recross⟩
  · rw [List.map_zip_eq_zipWith]
    rfl
  · rw [← List.sum_eq_foldl]
    exact natAbs_sum_convertElem_lt scale (small.trans (by decide)) fits

end Sys2Proof.Proofs
end

section
/-! PROOFS. Acceptance of a round (R337, R338): insertion by key keeps a list in order, and the decisions of a round fall apart
by expert, each within its copies' room. -/

namespace Sys2Proof.Proofs

open Sys2Proof Sys2Proof.Machine Sys2Proof.Laws

/-! ### Order by key (R337) -/

/-- A key as an element of the lexicographic order. -/
def lexKey (a : Nat × Nat × Nat) : Nat ×ₗ Nat ×ₗ Nat := toLex (a.1, toLex a.2)

theorem keyLt_iff (a b : Nat × Nat × Nat) : keyLt a b = true ↔ lexKey a < lexKey b := by
  simp [keyLt, lexKey, Prod.Lex.toLex_lt_toLex]

theorem keyLt_eq_false_iff (a b : Nat × Nat × Nat) : keyLt a b = false ↔ lexKey b ≤ lexKey a := by
  rw [← Bool.not_eq_true, keyLt_iff, not_lt]

section
variable {α : Type} (s : State) (f : α → Traveller)

/-- In order by key: no element's key is above that of a later one. -/
def KeyOrdered : List α → Prop := List.Pairwise fun a b => lexKey (s.travKey (f a)) ≤ lexKey (s.travKey (f b))

theorem insertKey_perm (x : α) : ∀ l : List α, (s.insertKey f x l).Perm (x :: l)
  | [] => List.Perm.refl _
  | y :: r => by
    unfold State.insertKey
    split
    · exact List.Perm.refl _
    · exact ((insertKey_perm x r).cons y).trans (List.Perm.swap x y r)

theorem keyOrdered_insertKey (x : α) {l : List α} (h : KeyOrdered s f l) : KeyOrdered s f (s.insertKey f x l) := by
  induction l with
  | nil => exact List.pairwise_singleton _ _
  | cons y r ih =>
    obtain ⟨first, rest⟩ := List.pairwise_cons.1 h
    unfold State.insertKey
    split
    · next lt =>
      have below : lexKey (s.travKey (f x)) ≤ lexKey (s.travKey (f y)) := ((keyLt_iff _ _).1 lt).le
      exact List.pairwise_cons.2 ⟨List.forall_mem_cons.2 ⟨below, fun z hz => below.trans (first z hz)⟩, h⟩
    · next ge =>
      have above := (keyLt_eq_false_iff _ _).1 (eq_false_of_ne_true ge)
      refine List.pairwise_cons.2 ⟨fun z hz => ?_, ih rest⟩
      obtain rfl | hz := List.mem_cons.1 ((insertKey_perm s f x r).mem_iff.1 hz)
      · exact above
      · exact first z hz

/-- Insertion one by one keeps every element of either list, and the order. -/
theorem foldl_insertKey (xs : List α) : ∀ l, KeyOrdered s f l →
    (xs.foldl (fun l x => s.insertKey f x l) l).Perm (xs ++ l) ∧
      KeyOrdered s f (xs.foldl (fun l x => s.insertKey f x l) l) := by
  induction xs with
  | nil => exact fun l h => ⟨List.Perm.refl l, h⟩
  | cons x r ih =>
    intro l h
    obtain ⟨perm, ordered⟩ := ih _ (keyOrdered_insertKey s f x h)
    exact ⟨perm.trans (((insertKey_perm s f x l).append_left r).trans List.perm_middle), ordered⟩

theorem sortKey_perm (xs : List α) : (s.sortKey f xs).Perm xs := by
  simpa [State.sortKey] using (foldl_insertKey s f xs [] List.Pairwise.nil).1

theorem keyOrdered_sortKey (xs : List α) : KeyOrdered s f (s.sortKey f xs) := (foldl_insertKey s f xs [] List.Pairwise.nil).2

end

/-! ### The decisions of a round, expert by expert (R338) -/

section
variable (s : State) (l j : Nat)

/-- The travellers that try an expert in the round, smallest key first. -/
def triers (e : Nat) : List Traveller :=
  s.sortKey id ((((s.tlayer l).pool).filter (·.round = j)).filter fun t => expertAt t (s.ilayer l).rounds j = some e)

/-- Places that an expert's copies still have. -/
def roomOf (x : Expert) (e : Nat) : Nat := x.cores.length * x.capacity - ((s.tlayer l).accepted.filter (·.expert = e)).length

/-- The travellers that an expert accepts in the round. -/
def takenBy (y : Expert × Nat) : List Accepted :=
  ((triers s l j y.2).take (roomOf s l y.1 y.2)).map fun t => { t := t, expert := y.2, live := some t }

/-- The experts of this module with their numbers. -/
def ownExperts : List (Expert × Nat) := (s.ilayer l).experts.zipIdx.filter fun e => e.1.owner = s.address

theorem decideRound_eq : s.decideRound l j = ((ownExperts s l).flatMap (takenBy s l j),
    (ownExperts s l).flatMap fun y => (triers s l j y.2).drop (roomOf s l y.1 y.2)) := by
  have fold : ∀ (es : List (Expert × Nat)) (acc : List Accepted × List Traveller),
      es.foldl (fun acc y => (acc.1 ++ takenBy s l j y, acc.2 ++ (triers s l j y.2).drop (roomOf s l y.1 y.2))) acc =
        (acc.1 ++ es.flatMap (takenBy s l j), acc.2 ++ es.flatMap fun y => (triers s l j y.2).drop (roomOf s l y.1 y.2)) := by
    intro es
    induction es with
    | nil => simp
    | cons y r ih => intro acc; simp [ih]
  exact fold _ ([], [])

theorem takenBy_expert {y : Expert × Nat} {a : Accepted} (h : a ∈ takenBy s l j y) : a.expert = y.2 := by
  obtain ⟨t, -, rfl⟩ := List.mem_map.1 h
  rfl

variable {s l} {e : Nat} {x : Expert} (found : (s.ilayer l).experts[e]? = some x) (own : x.owner = s.address)
include found own

theorem mem_ownExperts : (x, e) ∈ ownExperts s l :=
  List.mem_filter.2 ⟨List.mem_zipIdx_iff_getElem?.2 found, decide_eq_true own⟩

/-- An expert stands once in the list. -/
theorem ownExperts_filter : (ownExperts s l).filter (·.2 = e) = [(x, e)] := by
  have once : ((ownExperts s l).filter (·.2 = e)).Nodup :=
    ((List.nodup_zipIdx_map_snd _).of_map.filter _).filter _
  refine List.perm_singleton.1 ((List.perm_ext_iff_of_nodup once (List.nodup_singleton _)).2 fun y => ?_)
  obtain ⟨z, i⟩ := y
  simp only [List.mem_filter, ownExperts, List.mem_zipIdx_iff_getElem?, List.mem_singleton, Prod.mk.injEq, decide_eq_true_eq]
  constructor
  · rintro ⟨⟨there, -⟩, rfl⟩
    exact ⟨Option.some.inj (there.symm.trans found), rfl⟩
  · rintro ⟨rfl, rfl⟩
    exact ⟨⟨found, own⟩, rfl⟩

theorem decideRound_accepted : (s.decideRound l j).1.filter (·.expert = e) = takenBy s l j (x, e) := by
  have split : ∀ y, (takenBy s l j y).filter (·.expert = e) = if y.2 = e then takenBy s l j y else [] := fun y => by
    split
    · next same => exact List.filter_eq_self.2 fun a ha => decide_eq_true ((takenBy_expert s l j ha).trans same)
    · next other => exact List.filter_eq_nil_iff.2 fun a ha => by simp [takenBy_expert s l j ha, other]
  have only : ∀ L : List (Expert × Nat), (L.flatMap fun y => if y.2 = e then takenBy s l j y else []) =
      (L.filter (·.2 = e)).flatMap (takenBy s l j) := fun L => by
    induction L with
    | nil => rfl
    | cons y r ih => by_cases h : y.2 = e <;> simp [h, ih]
  rw [decideRound_eq, List.filter_flatMap]
  simp only [split, only, ownExperts_filter found own, List.flatMap_cons, List.flatMap_nil, List.append_nil]

end

/-- Settles O41: sorting is by insertion, and each expert of the module takes from its own travellers. -/
theorem acceptanceKeepsKeysAndCapacity : Obligations.AcceptanceKeepsKeysAndCapacity := by
  refine ⟨fun s ts => ⟨(sortKey_perm s id ts).length_eq, fun t => (sortKey_perm s id ts).mem_iff, ?_⟩,
    fun s l j e x found own => ?_⟩
  · exact (keyOrdered_sortKey s id ts).imp fun h => (keyLt_eq_false_iff _ _).2 h
  · have accepted := decideRound_accepted (j := j) found own
    refine ⟨?_, ?_, fun t ht => ?_⟩
    · rw [accepted, takenBy, List.map_map]
      exact List.map_id _
    · rw [accepted, takenBy, List.length_map]
      exact List.length_take_le _ _
    · rw [decideRound_eq]
      exact List.mem_flatMap.2 ⟨(x, e), mem_ownExperts found own, ht⟩

end Sys2Proof.Proofs
end

section
/-! PROOFS. Connections and their credits (R325, R327): what each message and timer does by the state of the context, what a
grant lists, and that a closed context stays away. -/

namespace Sys2Proof.Proofs

open Sys2Proof Sys2Proof.Machine Sys2Proof.Laws

/-- A command whose clocks run, nothing waiting before it, has its meaning. -/
theorem exec_of_gate {s t u : State} {i : Instr} (crosses : s.crosses i = true) (gate : exec i s = s.clocked i (.next t))
    (meaning : t = u) : exec i s = .next u :=
  (gate.trans (clocked_of_crosses s crosses)).trans (congrArg _ meaning)

/-! ### Grants (R327) -/

section
variable (s : State) (n : Nat) {c : Ctx}

theorem find?_setCtx (c : Ctx) : (s.setCtx n c).fab.ctxs.find? n = some c := find?_put_same _ n c

/-- Buffers of a class that are granted now, and what a full window would be: four of a class that no pool holds. -/
def windowOf (k : Nat) : Nat := if k < 6 then 4 else s.dval 0x6009 1 32
def grantedNow (k : Nat) : Nat := if k < 6 then windowOf s k else max 1 (min (windowOf s k) s.poolFree)

theorem one_le_grantedNow (k : Nat) : 1 ≤ grantedNow s k := by
  unfold grantedNow windowOf
  split <;> omega

/-- The grant of one class. -/
def grantClass (acc : List (Nat × Nat) × State) (k : Nat) : List (Nat × Nat) × State :=
  match acc.2.fab.ctxs.find? n with
  | none => acc
  | some c => (acc.1 ++ [(k, grantedNow acc.2 k)], acc.2.setCtx n { c with
      granted := c.granted.put k (grantedNow acc.2 k), owed := c.owed.put k (windowOf acc.2 k - grantedNow acc.2 k) })

theorem grant_eq : s.grant n = creditClasses.foldl (grantClass n) ([], s) := rfl

/-- The classes `ks` of context `n`, which was `c`, have been granted, at least one buffer each. -/
structure Granted (c : Ctx) (ks : List Nat) (acc : List (Nat × Nat) × State) : Prop where
  classes : acc.1.map Prod.fst = ks
  atLeastOne : ∀ g ∈ acc.1, 1 ≤ g.2
  ctx : ∃ d, acc.2.fab.ctxs.find? n = some d ∧ d.peer = c.peer ∧ d.theirs = c.theirs ∧ d.state = c.state ∧
    ∀ g ∈ acc.1, d.granted.get g.1 0 = g.2

theorem Granted.grantClass {ks : List Nat} {acc : List (Nat × Nat) × State} (h : Granted n c ks acc) {k : Nat}
    (new : k ∉ ks) :
    Granted n c (ks ++ [k]) (grantClass n acc k) := by
  obtain ⟨classes, atLeastOne, d, found, peer, theirs, state, granted⟩ := h
  have other : ∀ g ∈ acc.1, g.1 ≠ k := fun g hg same => new (same ▸ classes ▸ List.mem_map_of_mem hg)
  simp only [Proofs.grantClass, found]
  refine ⟨by simp [classes], ?_, _, find?_setCtx .., peer, theirs, state, ?_⟩
  · simpa [or_imp, forall_and, one_le_grantedNow] using fun a b => atLeastOne (a, b)
  · intro g hg
    obtain old | rfl := List.mem_append.1 hg |>.imp_right List.mem_singleton.1
    · exact (get_put_ne _ _ _ _ _ (other g old)).trans (granted g old)
    · exact get_put_same ..

theorem Granted.foldl (ks : List Nat) : ∀ {old acc}, (old ++ ks).Nodup → Granted n c old acc →
    Granted n c (old ++ ks) (ks.foldl (Proofs.grantClass n) acc) := by
  induction ks with
  | nil => exact fun _ h => by simpa using h
  | cons k r ih =>
    intro old acc once h
    have new : k ∉ old := fun hk => List.disjoint_of_nodup_append once hk (List.mem_cons_self ..)
    rw [List.append_cons] at once ⊢
    exact ih once (h.grantClass n new)

/-- A grant lists the six classes with credits, and the context holds what it lists. -/
theorem granted_grant (found : s.fab.ctxs.find? n = some c) : Granted n c [3, 4, 5, 6, 7, 8] (s.grant n) :=
  Granted.foldl n creditClasses (old := []) (by decide) 
    ⟨rfl, fun _ h => (List.not_mem_nil h).elim, c, found, rfl, rfl, rfl, fun _ h => (List.not_mem_nil h).elim⟩

/-- Context `n` is free. -/
def NoCtx (t : State) : Prop := t.fab.ctxs.find? n = none

/-- Credits that are granted later open no context (R327). -/
theorem find?_grantOwed (closed : NoCtx n s) : NoCtx n s.grantOwed := by
  refine List.foldlRecOn (motive := NoCtx n) _ _ closed fun t ht x _ =>
    List.foldlRecOn (motive := NoCtx n) _ _ ht fun u hu k _ => ?_
  dsimp only
  split
  · exact hu
  · next c found =>
    have other : n ≠ x.1 := fun same => by simp [← same, show u.fab.ctxs.find? n = none from hu] at found
    split
    · exact hu
    · exact (find?_put_ne _ _ _ _ other).trans hu

theorem find?_closeCtx : (s.closeCtx n).fab.ctxs.find? n = none := find?_grantOwed _ n (find?_del_same _ n)

end

/-! ### Messages of a peer with a context, and of one without (R325) -/

section
variable {s : State} {peer n : Nat} {c : Ctx}

theorem connOpen_of_none (none : s.ctxOf peer = none) (free : s.freeCtx = some n) (theirs : Nat) :
    s.connOpen peer theirs = ((s.setCtx n { peer := peer, theirs := theirs, state := 2 }).grant n).2.post peer
      (.connect kOpenAck n ((s.setCtx n { peer := peer, theirs := theirs, state := 2 }).grant n).1) := by
  simp only [State.connOpen, none, free]

theorem connOpen_of_full (none : s.ctxOf peer = none) (full : s.freeCtx = .none) (theirs : Nat) :
    s.connOpen peer theirs = (s.raiseS .contextFull).post peer (.connect kRefused theirs []) := by
  simp only [State.connOpen, none, full]

section
variable (found : s.ctxOf peer = some (n, c))
include found

theorem connOpen_of_ctx (theirs : Nat) : s.connOpen peer theirs =
    ((s.setCtx n (if c.state = 3 then { peer := peer, theirs := theirs, state := 2 } else { c with theirs := theirs })).grant
      n).2.post peer (.connect kOpenAck n
    ((s.setCtx n (if c.state = 3 then { peer := peer, theirs := theirs, state := 2 } else { c with theirs := theirs })).grant
      n).1) := by
  simp only [State.connOpen, found]
  split <;> rfl

/-- An OPENING context as OPEN_ACK opens it. -/
def openedCtx (c : Ctx) (theirs : Nat) (credits : List (Nat × Nat)) : Ctx :=
  { c with theirs := theirs, state := 2, credits := credits.foldl (fun m k => m.put k.1 k.2) c.credits }

theorem connOpenAck_of_opening (opening : c.state = 1) (theirs : Nat) (cr : List (Nat × Nat)) :
    s.connOpenAck peer theirs cr = if c.granted ≠ [] then s.setCtx n (openedCtx c theirs cr) else
      ((s.setCtx n (openedCtx c theirs cr)).grant n).2.post peer
        (.connect kCredit n ((s.setCtx n (openedCtx c theirs cr)).grant n).1) := by
  simp only [State.connOpenAck, found, opening, ne_eq, not_true_eq_false, if_false]
  rfl

theorem connOpenAck_of_other (other : c.state ≠ 1) (theirs : Nat) (cr : List (Nat × Nat)) :
    s.connOpenAck peer theirs cr = s := by
  simp only [State.connOpenAck, found, ne_eq, other, not_false_eq_true, if_true]

theorem connRefused_of_ctx : s.connRefused peer = if c.state = 1 then s.setCtx n { c with theirs := 0xFFFF } else s := by
  simp only [State.connRefused, found]

theorem connClose_of_ctx : s.connClose peer = (s.closeCtx n).post peer (.connect kCloseAck c.theirs []) := by
  simp only [State.connClose, found]

theorem connCloseAck_of_ctx : s.connCloseAck peer = if c.state = 3 then s.closeCtx n else s := by
  simp only [State.connCloseAck, found]

theorem connCredit_of_ctx (cls k : Nat) : s.connCredit peer cls k = s.setCtx n { c with
    credits := c.credits.put cls (c.credits.get cls 0 + k), used := c.used.put cls (c.used.get cls 0 - k) } := by
  simp only [State.connCredit, found]

end

/-- Of a peer without a context a CLOSE is acknowledged, and no other message changes anything. -/
theorem messages_of_none (none : s.ctxOf peer = none) :
    s.connClose peer = s.post peer (.connect kCloseAck 0xFFFF []) ∧ (∀ theirs cr, s.connOpenAck peer theirs cr = s) ∧
    s.connRefused peer = s ∧ s.connCloseAck peer = s ∧ ∀ cls k, s.connCredit peer cls k = s := by
  simp only [State.connClose, State.connOpenAck, State.connRefused, State.connCloseAck, State.connCredit, none, implies_true,
    and_self]

end

theorem all_zero_iff (m : SMap Nat) : List.all m (fun x => decide (x.2 = 0)) = true ↔ ∀ x ∈ m, x.2 = 0 :=
  List.all_eq_true.trans (forall₂_congr fun _ _ => decide_eq_true_iff)

/-- Settles O44: each message by the peer's context, each timer by its own, and the two facts about a grant and a close. -/
theorem connectionCommandsComplete : Obligations.ConnectionCommandsComplete := by
  refine ⟨fun s peer n => ⟨fun flows theirs none free => ?_, fun flows theirs none full => ?_, fun flows c found => ?_,
    fun flows none => ?_, fun flows c found => ?_, fun flows none => ?_⟩,
    fun s n => ⟨find?_closeCtx s n, fun c found => ?_⟩⟩
  · exact exec_of_gate flows rfl (connOpen_of_none none free theirs)
  · exact exec_of_gate flows rfl (connOpen_of_full none full theirs)
  · refine ⟨fun theirs => ?_, fun theirs cr opening => ⟨fun held => ?_, fun bare => ?_⟩,
      fun theirs cr other => ?_, ?_, ?_, ?_,
      fun cls k => ?_⟩
    · exact exec_of_gate flows rfl (connOpen_of_ctx found theirs)
    · exact exec_of_gate flows rfl ((connOpenAck_of_opening found opening theirs _).trans (if_pos held))
    · exact exec_of_gate flows rfl ((connOpenAck_of_opening found opening theirs _).trans (if_neg (not_not.2 bare)))
    · exact exec_of_gate flows rfl (connOpenAck_of_other found other theirs _)
    · exact exec_of_gate flows rfl (connRefused_of_ctx found)
    · exact exec_of_gate flows rfl (connClose_of_ctx found)
    · exact exec_of_gate flows rfl (connCloseAck_of_ctx found)
    · exact exec_of_gate flows rfl (connCredit_of_ctx found cls k)
  · obtain ⟨close, openAck, refused, closeAck, credit⟩ := messages_of_none none
    exact ⟨exec_of_gate flows rfl close,
      fun theirs cr => exec_of_gate flows rfl (openAck theirs _),
      exec_of_gate flows rfl refused, exec_of_gate flows rfl closeAck,
      fun cls k => exec_of_gate flows rfl (credit cls k)⟩
  · refine ⟨exec_of_gate flows rfl ?_, exec_of_gate flows rfl ?_, exec_of_gate flows rfl ?_,
      fun cls => exec_of_gate flows rfl ?_⟩
    · simp only [found]
    · simp only [found, all_zero_iff, Bool.not_eq_true']
    · simp only [found]
    · simp only [State.returnCredits, found]
  · refine ⟨exec_of_gate flows rfl ?_, exec_of_gate flows rfl ?_, exec_of_gate flows rfl ?_,
      fun cls => exec_of_gate flows rfl ?_⟩
    · simp only [none]
    · simp only [none]
    · simp only [none]
    · simp only [State.returnCredits, none]
  · obtain ⟨classes, atLeastOne, ctx⟩ := granted_grant s n found
    exact ⟨classes, atLeastOne, ctx⟩

end Sys2Proof.Proofs
end

section
/-! PROOFS. Rows of registers (R9, R10): the same row of two field maps with one stride, and what an interrupt leaves. -/

namespace Sys2Proof.Proofs

open Sys2Proof Sys2Proof.Machine Sys2Proof.Laws

/-! ### Fields of one row -/

/-- The two fields stand in registers of one row, or in another section, and share no bit. -/
def rowApart (f g : Fld) : Bool :=
  g.sec ≠ f.sec || (g.stride = f.stride && decide (f.off < 65536) && decide (g.off < 65536) && decide (g.lo + g.w ≤ 32) &&
    (g.off ≠ f.off || decide (g.lo + g.w ≤ f.lo) || decide (f.lo + f.w ≤ g.lo)))

section
variable (s : State) {f g : Fld} (h : rowApart f g = true) (c i : Nat)
include h

theorem fget_fset_row (v : Nat) : (s.fset f v c i).fget g c i = s.fget g c i := by
  simp only [rowApart, Bool.or_eq_true, Bool.and_eq_true, decide_eq_true_eq] at h
  obtain sec | ⟨⟨⟨⟨stride, low⟩, low'⟩, word⟩, place⟩ := h
  · exact fget_fset_sec _ _ _ _ _ _ _ _ _ _ sec
  · by_cases off : g.off = f.off
    · have bits : g.lo + g.w ≤ f.lo ∨ f.lo + f.w ≤ g.lo := by simpa [off] using place
      by_cases sec : g.sec = f.sec
      · exact fget_fset_bits _ _ _ _ _ _ _ _ _ bits sec (by simp [Fld.addr, stride, off]) word
      · exact fget_fset_sec _ _ _ _ _ _ _ _ _ _ sec
    · refine fget_fset_off _ _ _ _ _ _ _ _ _ _ ?_
      simp only [Fld.addr, stride, Nat.mul_zero]
      omega

theorem fget_fcount_row (n : Nat) : (s.fcount f n c i).fget g c i = s.fget g c i := by
  unfold State.fcount
  split
  · rfl
  · exact fget_fset_row s h c i _

end

/-! ### Interrupts (R412, R461, R462) -/

/-- `t` is `s` with an interrupt under way: mailboxes, messages, the reply and every register but the clocks' are as they
were. -/
structure IrqOnly (s t : State) : Prop where
  mbs : t.mbs = s.mbs
  fmbs : t.fmbs = s.fmbs
  netOut : t.netOut = s.netOut
  reply : t.reply = s.reply
  fget : ∀ (f : Fld) (c i j : Nat), f.sec ≠ .clock → t.fget f c i j = s.fget f c i j

namespace IrqOnly

theorem refl (s : State) : IrqOnly s s := ⟨rfl, rfl, rfl, rfl, fun _ _ _ _ _ => rfl⟩

/-- A further event counts in the clocks' registers (R462). -/
theorem merge (s : State) (x n : Nat) : IrqOnly s (s.merge x n) := by
  refine ⟨?_, ?_, ?_, ?_, fun f c i j sec => ?_⟩
  · simp [State.merge]
  · simp [State.merge]
  · simp [State.merge]
  · simp [State.merge]
  have counted : (s.merge x n).fget f c i j =
      (s.setRword .clock 0 8 (s.rword .clock 0 8 ||| 2 ^ x)).fget f c i j := by
    show State.fget (State.fcount _ _ _) f c i j = _
    unfold State.fcount
    split
    · rfl
    · exact fget_fset_sec _ _ _ _ _ _ _ _ _ _ sec
  rw [counted, State.fget, State.fget, rword_setRword_ne]
  exact fun same => sec (secNo_inj (regKey_inj same).1)

theorem event {s : State} {f : State → State} (now : IrqOnly s (f s)) (p x src : Nat) : IrqOnly s (s.event p x src f) := by
  unfold State.event
  split
  · exact now
  · split
    · exact merge s x 1
    · exact ⟨rfl, rfl, rfl, rfl, fun _ _ _ _ _ => rfl⟩

theorem fwIrq (s : State) (src : Nat) : IrqOnly s (s.fwIrq src) :=
  event ⟨rfl, rfl, rfl, rfl, fun _ _ _ _ _ => rfl⟩ 26 2 src

theorem raiseVector (s : State) (v : Nat) : IrqOnly s (s.raiseVector v) := by
  refine event ?_ 25 1 v
  dsimp only
  split <;> exact ⟨rfl, rfl, rfl, rfl, fun _ _ _ _ _ => rfl⟩

end IrqOnly

end Sys2Proof.Proofs
end

section
/-! PROOFS. Fabric mailboxes (R344 to R346): what each register access and each message does to a mailbox and to its row of
registers. -/

namespace Sys2Proof.Proofs

open Sys2Proof Sys2Proof.Machine Sys2Proof.Laws

/-! ### A mailbox and its row of registers -/

section
variable (s : State) (m : Nat) (f : Fmb → Fmb)

@[simp] theorem fmb_modFmb : (s.modFmb m f).fmb m = f (s.fmb m) := get_put_same ..

@[simp] theorem fmb_fset (g : Fld) (v c i j k : Nat) : (s.fset g v c i j).fmb k = s.fmb k := rfl

theorem fmb_reply (r : List Byte) (k : Nat) : State.fmb { s with reply := r } k = s.fmb k := rfl

theorem fget_reply (r : List Byte) (g : Fld) (c i j : Nat) : State.fget { s with reply := r } g c i j = s.fget g c i j := rfl

theorem fmb_fmbTaken (k j : Nat) : (s.fmbTaken m k).fmb j = s.fmb j := rfl

theorem netOut_fmbTaken (k : Nat) : (s.fmbTaken m k).netOut = s.netOut ++
    [(s.fget .FMB_CFG_REMOTE_ADDR 0 m, .taken m (s.fget .FMB_CFG_REMOTE_BOX 0 m) k)] := rfl

theorem txLevel_modFmb (room : (f (s.fmb m)).tx.length ≤ 16) :
    (s.modFmb m f).fget .FMB_TX_STATUS_TX_LEVEL 0 m = (f (s.fmb m)).tx.length := by
  rw [State.modFmb, fget_fset_row _ (by decide), fget_fset _ _ _ _ _ _ (by decide)]
  exact Nat.mod_eq_of_lt (Nat.lt_of_le_of_lt room (by decide))

/-- A change of a mailbox shows in its two levels only. -/
theorem fget_modFmb {g : Fld} (tx : rowApart .FMB_TX_STATUS_TX_LEVEL g = true)
    (rx : rowApart .FMB_RX_STATUS_RX_LEVEL g = true) : (s.modFmb m f).fget g 0 m = s.fget g 0 m := by
  rw [State.modFmb, fget_fset_row _ rx, fget_fset_row _ tx]
  rfl

end

section
variable {s : State} {m : Nat}

section
variable (hm : m < 16)
include hm

theorem fmbOn_of_enabled (on : s.fon .FMB_CFG_ENABLE 0 m = true) : s.fmbOn m = true := by
  rw [State.fmbOn, on, decide_eq_true hm]
  rfl

/-! ### Sending (R345, R346) -/

theorem fmbPush_of_room (on : s.fon .FMB_CFG_ENABLE 0 m = true) (idle : s.fon .FMB_TX_STATUS_BUSY 0 m = false)
    (room : (s.fmb m).tx.length < 16) (w : Word) : s.fmbPush m w = s.modFmb m fun q => { q with tx := q.tx ++ [w] } := by
  rw [State.fmbPush, fmbOn_of_enabled hm on, if_neg (by decide), if_neg (by simp [idle, room])]

theorem fmbPush_of_overrun (on : s.fon .FMB_CFG_ENABLE 0 m = true)
    (full : s.fon .FMB_TX_STATUS_BUSY 0 m = true ∨ 16 ≤ (s.fmb m).tx.length) (w : Word) :
    s.fmbPush m w = s.fset .FMB_TX_STATUS_TX_OVERRUN 1 0 m := by
  rw [State.fmbPush, fmbOn_of_enabled hm on, if_neg (by decide), if_pos full]

/-- The queued words have left as a message, which is BUSY. -/
def fmbSent (s : State) (m : Nat) : State :=
  (s.modFmb m fun q => { q with tx := [], sent := (s.fmb m).sent + 1 }).fset .FMB_TX_STATUS_BUSY 1 0 m

theorem fmbBell_of_idle (on : s.fon .FMB_CFG_ENABLE 0 m = true) (idle : s.fon .FMB_TX_STATUS_BUSY 0 m = false) (b : Word) :
    s.fmbBell m b = (fmbSent s m).post (s.fget .FMB_CFG_REMOTE_ADDR 0 m)
      (.mail m (s.fget .FMB_CFG_REMOTE_BOX 0 m) ((s.fmb m).sent + 1) b (s.fmb m).tx) := by
  rw [State.fmbBell, fmbOn_of_enabled hm on, if_neg (by decide), idle, if_neg Bool.false_ne_true]
  dsimp only
  rw [fget_fset_row _ (by decide), fget_modFmb _ _ _ (by decide) (by decide), fget_fset_row _ (by decide),
    fget_modFmb _ _ _ (by decide) (by decide)]
  rfl

theorem fmbBell_of_busy (on : s.fon .FMB_CFG_ENABLE 0 m = true) (busy : s.fon .FMB_TX_STATUS_BUSY 0 m = true) (b : Word) :
    s.fmbBell m b = s.fset .FMB_TX_STATUS_TX_OVERRUN 1 0 m := by
  rw [State.fmbBell, fmbOn_of_enabled hm on, if_neg (by decide), if_pos busy]

theorem fmbAbort_eq : s.fmbAbort m = (s.modFmb m fun q => { q with tx := [] }).fset .FMB_TX_STATUS_BUSY 0 0 m :=
  if_neg (by omega)

/-- TAKEN of the message that is BUSY ends it. -/
theorem takenIn_of_busy (busy : s.fon .FMB_TX_STATUS_BUSY 0 m = true) :
    s.takenIn m (s.fmb m).sent = ((s.fset .FMB_TX_STATUS_BUSY 0 0 m).fset .FMB_TX_STATUS_TAKEN 1 0 m).fwIrq m := by
  rw [State.takenIn, if_neg (by omega), if_neg (by simp [busy])]

theorem takenIn_of_other {k : Nat} (other : s.fon .FMB_TX_STATUS_BUSY 0 m = false ∨ k ≠ (s.fmb m).sent) :
    s.takenIn m k = s := by
  rw [State.takenIn, if_neg (by omega), if_pos (by simpa using other)]

/-! ### Receiving (R344, R345) -/

/-- A message whose words fit has entered the queue. -/
def fmbQueued (s : State) (m num : Nat) (ws : List Word) : State := s.modFmb m fun q => q.take ws num false

/-- Its bells have rung. -/
def fmbRung (s : State) (m : Nat) (b : Word) : State :=
  s.fset .FMB_RX_BELL_BELLS (s.fget .FMB_RX_BELL_BELLS 0 m ||| b.toNat) 0 m

theorem mailIn_of_bound (on : s.fon .FMB_CFG_ENABLE 0 m = true) {ws : List Word} (some : ws ≠ [])
    (fits : ws.length ≤ 16) (room : (s.fmb m).rx.length + ws.length ≤ 16) (k : Nat) (b : Word) :
    IrqOnly (fmbRung (fmbQueued s m k ws) m b)
      (s.mailIn (s.fget .FMB_CFG_REMOTE_ADDR 0 m) (s.fget .FMB_CFG_REMOTE_BOX 0 m) m k b ws) := by
  rw [State.mailIn, fmbOn_of_enabled hm on, if_neg (by simp), List.take_of_length_le fits, State.fmbEnter,
    if_neg (by omega)]
  simp only [some, decide_false, if_false]
  split
  · exact IrqOnly.fwIrq _ m
  · exact IrqOnly.refl _

omit hm in
theorem mailIn_of_stranger {src box : Nat} (other : s.fon .FMB_CFG_ENABLE 0 m = false ∨
    src ≠ s.fget .FMB_CFG_REMOTE_ADDR 0 m ∨ box ≠ s.fget .FMB_CFG_REMOTE_BOX 0 m) (k : Nat) (b : Word) (ws : List Word) :
    s.mailIn src box m k b ws = s.fcount .TRAVEL_COUNT_REJECTS 1 := by
  refine if_pos (other.imp (fun off => ?_) (·.imp Ne.symm Ne.symm))
  rw [State.fmbOn, off, Bool.and_false]
  rfl

theorem fmbPop_of_empty (empty : (s.fmb m).rx = []) :
    s.fmbPop m = { s.fset .FMB_RX_STATUS_RX_UNDERRUN 1 0 m with reply := bytesOf 4 0 } := by
  rw [State.fmbPop, if_neg (by omega), empty]

/-- A mailbox from which the oldest word, one of `n` of message `k`, has been read. -/
def fmbRead (q : Fmb) (n k : Nat) (os : List (Nat × Nat)) : Fmb :=
  { q with rx := q.rx.drop 1, owes := if n ≤ 1 then os else (n - 1, k) :: os }

/-- A read has returned the oldest word. -/
def fmbPopped (s : State) (m n k : Nat) (os : List (Nat × Nat)) (w : Word) : State :=
  { s.modFmb m fun q => fmbRead q n k os with reply := bytesOf 4 w.toNat }

omit hm in
theorem fmb_fmbPopped (n k : Nat) (os : List (Nat × Nat)) (w : Word) :
    (fmbPopped s m n k os w).fmb m = fmbRead (s.fmb m) n k os := by
  rw [fmbPopped, fmb_reply, fmb_modFmb]

theorem fmbPop_of_word {w : Word} {ws : List Word} {n k : Nat} {os : List (Nat × Nat)} (head : (s.fmb m).rx = w :: ws)
    (owes : (s.fmb m).owes = (n, k) :: os) (none : (s.fmb m).inbox = []) :
    s.fmbPop m = if n ≤ 1 then (fmbPopped s m n k os w).fmbTaken m k else fmbPopped s m n k os w := by
  have inbox : ((fmbPopped s m n k os w).fmb m).inbox = [] := by rw [fmb_fmbPopped]; exact none
  have read : ∀ q, q = fmbRead (s.fmb m) n k os →
      ({ s.modFmb m fun _ => q with reply := bytesOf 4 w.toNat } : State) = fmbPopped s m n k os w := fun q h => by
    rw [fmbPopped, h]
    rfl
  rw [State.fmbPop, if_neg (by omega), head]
  dsimp only
  by_cases last : n ≤ 1
  · have pop : (s.fmb m).pop = ({ s.fmb m with rx := (s.fmb m).rx.drop 1, owes := (0, k) :: os }, true) := by
      simp only [Fmb.pop, owes, last, if_true]
    simp only [pop, if_true]
    rw [read _ (by simp [Fmb.ack, fmbRead, last]), if_pos last]
    rw [fmb_fmbTaken, inbox]
  · have pop : (s.fmb m).pop = ({ s.fmb m with rx := (s.fmb m).rx.drop 1, owes := (n - 1, k) :: os }, false) := by
      simp only [Fmb.pop, owes, last, if_false]
    simp only [pop, Bool.false_eq_true, if_false]
    rw [read _ (by simp [fmbRead, last]), if_neg last, inbox]

end

/-! ### What these leave -/

section
variable (s m)

theorem fmb_fmbSent : (fmbSent s m).fmb m = { s.fmb m with tx := [], sent := (s.fmb m).sent + 1 } := by
  rw [fmbSent, fmb_fset, fmb_modFmb]

theorem busy_fmbSent : (fmbSent s m).fget .FMB_TX_STATUS_BUSY 0 m = 1 := fget_fset _ _ _ _ _ _ (by decide)

theorem txLevel_fmbSent : (fmbSent s m).fget .FMB_TX_STATUS_TX_LEVEL 0 m = 0 := by
  rw [fmbSent, fget_fset_row _ (by decide), txLevel_modFmb _ _ _ (Nat.zero_le _)]
  rfl

theorem fmb_fmbQueued (k : Nat) (ws : List Word) : (fmbQueued s m k ws).fmb m = (s.fmb m).take ws k false := by
  rw [fmbQueued, fmb_modFmb]

theorem bells_fmbQueued (k : Nat) (ws : List Word) :
    (fmbQueued s m k ws).fget .FMB_RX_BELL_BELLS 0 m = s.fget .FMB_RX_BELL_BELLS 0 m :=
  fget_modFmb s m _ (by decide) (by decide)

theorem bells_fmbRung (b : Word) : (fmbRung s m b).fget .FMB_RX_BELL_BELLS 0 m = s.fget .FMB_RX_BELL_BELLS 0 m ||| b.toNat := by
  have old : s.fget .FMB_RX_BELL_BELLS 0 m < 2 ^ 32 := fget_lt s .FMB_RX_BELL_BELLS 0 m 0
  rw [fmbRung, fget_fset _ _ _ _ _ _ (by decide)]
  exact Nat.mod_eq_of_lt (Nat.or_lt_two_pow old b.isLt)

theorem netOut_fmbTaken_fmbPopped (n k : Nat) (os : List (Nat × Nat)) (w : Word) :
    ((fmbPopped s m n k os w).fmbTaken m k).netOut = s.netOut ++
      [(s.fget .FMB_CFG_REMOTE_ADDR 0 m, .taken m (s.fget .FMB_CFG_REMOTE_BOX 0 m) k)] := by
  have kept : ∀ g : Fld, rowApart .FMB_TX_STATUS_TX_LEVEL g = true → rowApart .FMB_RX_STATUS_RX_LEVEL g = true →
      (fmbPopped s m n k os w).fget g 0 m = s.fget g 0 m := fun g tx rx => by
    rw [fmbPopped, fget_reply, fget_modFmb _ _ _ tx rx]
  rw [netOut_fmbTaken, kept _ (by decide) (by decide), kept _ (by decide) (by decide)]
  rfl

end

end

end Sys2Proof.Proofs
end

section
/-! PROOFS. Host mailboxes (R408 to R411), from either side: what each register access does to the two sides of a mailbox and
to their registers. -/

namespace Sys2Proof.Proofs

open Sys2Proof Sys2Proof.Machine Sys2Proof.Laws

/-! ### The two sides (R408) -/

/-- A field of one side. -/
def sideFld (fw : Bool) (f : Fld) : Fld := { f with sec := if fw then .mbFw else .mbHost }

section
variable (s : State) (fw : Bool) (m : Nat) {f g : Fld}

theorem mget_mset (v : Nat) (word : f.lo + f.w ≤ 32) : (s.mset fw f v m).mget fw f m = v % 2 ^ f.w :=
  fget_fset s (sideFld fw f) v m 0 0 word

theorem mget_mset_apart (v : Nat) (h : fldsApart (sideFld false f) 0 0 (sideFld false g) 0 0 = true) :
    (s.mset fw f v m).mget fw g m = s.mget fw g m := by
  cases fw
  · exact fget_fset_apart s h m v
  · exact fget_fset_apart s (f := sideFld true f) (g := sideFld true g) h m v

theorem mget_mset_other (v : Nat) : (s.mset fw f v m).mget (!fw) g m = s.mget (!fw) g m := by
  refine fget_fset_sec s (sideFld fw f) (sideFld (!fw) g) v m 0 0 m 0 0 ?_
  cases fw <;> simp [sideFld]

@[simp] theorem mb_mset (f : Fld) (v k : Nat) (side : Bool) : (s.mset fw f v m).mb side k = s.mb side k := rfl

theorem mb_reply (r : List Byte) (k : Nat) : State.mb { s with reply := r } fw k = s.mb fw k := rfl

theorem mget_reply (r : List Byte) (g : Fld) (k : Nat) : State.mget { s with reply := r } fw g k = s.mget fw g k := rfl

section
variable (h : Fmb → Fmb)

theorem mb_modMb : (s.modMb fw m h).mb fw m = h (s.mb fw m) := by
  show SMap.get (SMap.put _ _ _) _ _ = _
  exact get_put_same ..

theorem mb_modMb_other : (s.modMb fw m h).mb (!fw) m = s.mb (!fw) m := by
  show SMap.get (SMap.put _ _ _) _ _ = _
  refine get_put_ne _ _ _ _ _ ?_
  cases fw <;> simp [mbKey]

/-- A change of a side shows in its levels and its head word only. -/
def levelsApart (g : Fld) : Bool :=
  [Fld.MB_TX_STATUS_TX_LEVEL, .MB_RX_STATUS_RX_LEVEL, .MB_RX_PEEK_WORD].all fun f =>
    fldsApart (sideFld false f) 0 0 (sideFld false g) 0 0

theorem mget_modMb (apart : levelsApart g = true) : (s.modMb fw m h).mget fw g m = s.mget fw g m := by
  simp only [levelsApart, List.all_cons, List.all_nil, Bool.and_true, Bool.and_eq_true] at apart
  obtain ⟨tx, rx, peek⟩ := apart
  rw [State.modMb, mget_mset_apart _ _ _ _ peek, mget_mset_apart _ _ _ _ rx, mget_mset_apart _ _ _ _ tx]
  rfl

theorem mget_modMb_other : (s.modMb fw m h).mget (!fw) g m = s.mget (!fw) g m := by
  rw [State.modMb, mget_mset_other, mget_mset_other, mget_mset_other]
  rfl

theorem txLevel_modMb (room : (h (s.mb fw m)).tx.length ≤ 16) :
    (s.modMb fw m h).mget fw .MB_TX_STATUS_TX_LEVEL m = (h (s.mb fw m)).tx.length := by
  rw [State.modMb, mget_mset_apart _ _ _ _ (by decide), mget_mset_apart _ _ _ _ (by decide), mget_mset _ _ _ _ (by decide)]
  exact Nat.mod_eq_of_lt (Nat.lt_of_le_of_lt room (by decide))

end

/-- Seen from the other side. -/
theorem mb_modMb_not (h : Fmb → Fmb) : (s.modMb (!fw) m h).mb fw m = s.mb fw m := by
  simpa only [Bool.not_not] using mb_modMb_other s (!fw) m h

theorem mget_modMb_not (h : Fmb → Fmb) : (s.modMb (!fw) m h).mget fw g m = s.mget fw g m := by
  simpa only [Bool.not_not] using mget_modMb_other s (!fw) m h

theorem mget_mset_not (v : Nat) : (s.mset (!fw) f v m).mget fw g m = s.mget fw g m := by
  simpa only [Bool.not_not] using mget_mset_other s (!fw) m v

/-- Beyond the change itself only an interrupt can follow (R412). -/
theorem irqOnly_withMb (change : State → State) : IrqOnly (change s) (s.withMb fw m change) := by
  unfold State.withMb
  dsimp only
  split
  · cases fw
    · exact IrqOnly.raiseVector _ _
    · exact IrqOnly.fwIrq _ _
  · exact IrqOnly.refl _

end

section
variable {s t : State} (h : IrqOnly s t)
include h

theorem IrqOnly.mb (fw : Bool) (m : Nat) : t.mb fw m = s.mb fw m := by rw [State.mb, h.mbs]; rfl

theorem IrqOnly.fmb (m : Nat) : t.fmb m = s.fmb m := by rw [State.fmb, h.fmbs]; rfl

theorem IrqOnly.mget (fw : Bool) (f : Fld) (m : Nat) : t.mget fw f m = s.mget fw f m :=
  h.fget (sideFld fw f) m 0 0 (by cases fw <;> simp [sideFld])

end

/-! ### Register accesses of a side (R409 to R411) -/

section
variable {s : State} {fw : Bool} {m : Nat}

theorem mbPush_of_room (on : s.mbOn fw m = true) (idle : s.mget fw .MB_TX_STATUS_BUSY m = 0)
    (room : (s.mb fw m).tx.length < 16) (w : Word) :
    s.mbPush fw m w = s.modMb fw m fun q => { q with tx := q.tx ++ [w] } := by
  rw [State.mbPush, on, if_neg (by decide), if_neg (by omega)]

/-- A message whose words fit has entered the queue of side `fw`. -/
def mbQueued (s : State) (fw : Bool) (m : Nat) (ws : List Word) : State := s.modMb fw m fun q => q.take ws 0 false

/-- Its bells have rung. -/
def mbRung (s : State) (fw : Bool) (m : Nat) (b : Word) : State :=
  s.mset fw .MB_RX_BELL_BELLS (s.mget fw .MB_RX_BELL_BELLS m ||| b.toNat) m

theorem mb_mbRung (b : Word) (side : Bool) : (mbRung s fw m b).mb side m = s.mb side m := rfl

theorem bells_mbRung (b : Word) :
    (mbRung s fw m b).mget fw .MB_RX_BELL_BELLS m = s.mget fw .MB_RX_BELL_BELLS m ||| b.toNat := by
  have old : s.mget fw .MB_RX_BELL_BELLS m < 2 ^ 32 := fget_lt s (sideFld fw .MB_RX_BELL_BELLS) m 0 0
  rw [mbRung, mget_mset _ _ _ _ (by decide)]
  exact Nat.mod_eq_of_lt (Nat.or_lt_two_pow old b.isLt)

theorem mbEnter_of_room (on : s.mbOn fw m = true) {ws : List Word} (some : ws ≠ [])
    (room : (s.mb fw m).rx.length + ws.length ≤ 16) (b : Word) :
    IrqOnly (mbRung (mbQueued s fw m ws) fw m b) (s.mbEnter fw m b ws) := by
  rw [State.mbEnter, on, if_neg (by simpa using room)]
  simp only [some, decide_false, Bool.false_and, Bool.false_eq_true, if_false]
  exact irqOnly_withMb (mbQueued s fw m ws) fw m fun s => mbRung s fw m b

/-- The words pushed have left side `fw`, and their message is BUSY. -/
def mbSent (s : State) (fw : Bool) (m : Nat) : State := (s.modMb fw m fun q => { q with tx := [] }).mset fw .MB_TX_STATUS_BUSY 1 m

theorem mbBell_of_idle (on : s.mbOn fw m = true) (idle : s.mget fw .MB_TX_STATUS_BUSY m = 0) (queue : s.notice m = false)
    (b : Word) : s.mbBell fw m b = (mbSent s fw m).mbEnter (!fw) m b (s.mb fw m).tx := by
  rw [State.mbBell, on, if_neg (by decide), if_neg (by omega)]
  simp only [queue, Bool.false_eq_true, false_and, if_false]
  rfl

theorem mbOn_mbSent (other : s.mbOn (!fw) m = true) : (mbSent s fw m).mbOn (!fw) m = true := by
  rw [← other, State.mbOn, mbSent, mget_mset_other, mget_modMb_other]
  rfl

theorem mb_mbSent : (mbSent s fw m).mb fw m = { s.mb fw m with tx := [] } := by
  rw [mbSent, mb_mset, mb_modMb]

theorem mb_mbSent_other : (mbSent s fw m).mb (!fw) m = s.mb (!fw) m := by
  rw [mbSent, mb_mset, mb_modMb_other]

/-- TAKEN ends the message of side `fw` that is BUSY. -/
theorem mbTakenTo_of_busy (valid : (s.mb fw m).aborted = 0) (busy : s.mget fw .MB_TX_STATUS_BUSY m ≠ 0) :
    IrqOnly ((s.mset fw .MB_TX_STATUS_BUSY 0 m).mset fw .MB_TX_STATUS_TAKEN 1 m) (s.mbTakenTo fw m) := by
  rw [State.mbTakenTo, if_neg (by omega), if_neg busy]
  exact irqOnly_withMb s fw m fun s => (s.mset fw .MB_TX_STATUS_BUSY 0 m).mset fw .MB_TX_STATUS_TAKEN 1 m

theorem mbNext_of_none (none : (s.mb fw m).inbox = []) : s.mbNext fw m = s := by
  rw [State.mbNext, none]

end

end Sys2Proof.Proofs
end

section
/-! PROOFS. Reads, acknowledgements and aborts of host mailboxes (R409 to R411), and the statement about both kinds. -/

namespace Sys2Proof.Proofs

open Sys2Proof Sys2Proof.Machine Sys2Proof.Laws

section
variable {s : State} {fw : Bool} {m : Nat}

/-- The state with what is known of the host's last access. -/
def accessed (s : State) (x : Bool) : State := { s with unsupported := x }

/-- A side's access to its registers is made of the state as it is, but for what the host's last access was. -/
theorem mbSide_eq (isOpen : fw = false → s.barOpen) (f : State → State) : ∃ x, s.mbSide fw f = f (accessed s x) := by
  cases fw with
  | false => exact ⟨false, hostAccess_of_open f (isOpen rfl)⟩
  | true => exact ⟨s.unsupported, rfl⟩

section
variable (hm : m < 8)
include hm

theorem mbPop_of_empty (empty : (s.mb fw m).rx = []) :
    s.mbPop fw m = { s.mset fw .MB_RX_STATUS_RX_UNDERRUN 1 m with reply := bytesOf 4 0 } := by
  rw [State.mbPop, if_neg (by omega), empty]

/-- A read has returned the oldest word. -/
def mbPopped (s : State) (fw : Bool) (m n k : Nat) (os : List (Nat × Nat)) (w : Word) : State :=
  { s.modMb fw m fun q => fmbRead q n k os with reply := bytesOf 4 w.toNat }

omit hm in
theorem mb_mbPopped (n k : Nat) (os : List (Nat × Nat)) (w : Word) :
    (mbPopped s fw m n k os w).mb fw m = fmbRead (s.mb fw m) n k os := by
  rw [mbPopped, mb_reply, mb_modMb]

omit hm in
theorem mb_mbPopped_other (n k : Nat) (os : List (Nat × Nat)) (w : Word) :
    (mbPopped s fw m n k os w).mb (!fw) m = s.mb (!fw) m := by
  rw [mbPopped, mb_reply, mb_modMb_other]

omit hm in
theorem mget_mbPopped_other (n k : Nat) (os : List (Nat × Nat)) (w : Word) (g : Fld) :
    (mbPopped s fw m n k os w).mget (!fw) g m = s.mget (!fw) g m := by
  rw [mbPopped, mget_reply, mget_modMb_other]

section
variable {w : Word} {ws : List Word} {n k : Nat} {os : List (Nat × Nat)} (head : (s.mb fw m).rx = w :: ws)
  (owes : (s.mb fw m).owes = (n, k) :: os) (none : (s.mb fw m).inbox = [])
include head owes none

theorem mbPop_of_more (more : 2 ≤ n) : s.mbPop fw m = mbPopped s fw m n k os w := by
  have pop : (s.mb fw m).pop = (fmbRead (s.mb fw m) n k os, false) := by
    simp only [Fmb.pop, owes, fmbRead, show ¬ n ≤ 1 by omega, if_false]
  have inbox : ((mbPopped s fw m n k os w).mb fw m).inbox = [] := by rw [mb_mbPopped]; exact none
  rw [State.mbPop, if_neg (by omega), head]
  simp only [pop, Bool.false_and, Bool.false_eq_true, if_false]
  exact mbNext_of_none inbox

/-- The last word of a message, which TAKEN ends at the sender. -/
theorem mbPop_of_last (last : n ≤ 1) (queue : s.notice m = false) (valid : (s.mb (!fw) m).aborted = 0)
    (busy : s.mget (!fw) .MB_TX_STATUS_BUSY m ≠ 0) :
    IrqOnly (((mbPopped s fw m n k os w).mset (!fw) .MB_TX_STATUS_BUSY 0 m).mset (!fw) .MB_TX_STATUS_TAKEN 1 m)
      (s.mbPop fw m) := by
  have pop : (s.mb fw m).pop = ({ s.mb fw m with rx := (s.mb fw m).rx.drop 1, owes := (0, k) :: os }, true) := by
    simp only [Fmb.pop, owes, last, if_true]
  have read : Fmb.ack { s.mb fw m with rx := (s.mb fw m).rx.drop 1, owes := (0, k) :: os } = fmbRead (s.mb fw m) n k os := by
    simp [Fmb.ack, fmbRead, last]
  have taken := mbTakenTo_of_busy (s := mbPopped s fw m n k os w) (fw := !fw) (m := m)
    (by rw [mb_mbPopped_other]; exact valid) (by rw [mget_mbPopped_other]; exact busy)
  have inbox : (((mbPopped s fw m n k os w).mbTakenTo (!fw) m).mb fw m).inbox = [] := by
    rw [taken.mb, mb_mset, mb_mset, mb_mbPopped]
    exact none
  rw [State.mbPop, if_neg (by omega), head]
  simp only [pop, queue, Bool.not_false, Bool.true_and, if_true, read]
  exact (mbNext_of_none inbox).symm ▸ taken

end

theorem mbAck_of_notice {n k : Nat} {os : List (Nat × Nat)} (notice : s.notice m = true)
    (owes : (s.mb fw m).owes = (n, k) :: os) (none : (s.mb fw m).inbox = []) (valid : (s.mb (!fw) m).aborted = 0)
    (busy : s.mget (!fw) .MB_TX_STATUS_BUSY m ≠ 0) :
    IrqOnly (((s.modMb fw m Fmb.ack).mset (!fw) .MB_TX_STATUS_BUSY 0 m).mset (!fw) .MB_TX_STATUS_TAKEN 1 m)
      (s.mbAck fw m) := by
  have taken := mbTakenTo_of_busy (s := s.modMb fw m Fmb.ack) (fw := !fw) (m := m)
    (by rw [mb_modMb_other]; exact valid) (by rw [mget_modMb_other]; exact busy)
  have inbox : (((s.modMb fw m Fmb.ack).mbTakenTo (!fw) m).mb fw m).inbox = [] := by
    rw [taken.mb, mb_mset, mb_mset, mb_modMb, Fmb.ack, owes]
    exact none
  rw [State.mbAck, if_neg (by simp [owes, notice, hm])]
  exact (mbNext_of_none inbox).symm ▸ taken

theorem mbAbort_eq : s.mbAbort fw m =
    (s.modMb fw m fun q => { q with tx := [], aborted := s.mbOut (!fw) m }).mset fw .MB_TX_STATUS_BUSY 0 m :=
  if_neg (by omega)

end

end

/-! ### Both kinds of mailbox -/

/-- Settles O46: each access and message, by the lemma that says what it leaves. -/
theorem mailboxesComplete : Obligations.MailboxesComplete := by
  refine ⟨fun s m hm => ⟨fun on => ⟨fun w crosses idle room => ?_, fun w crosses full => ?_, fun b crosses idle => ?_,
    fun b crosses busy => ?_, ?_⟩, fun src box k b ws crosses other => ?_,
    fun crosses => ⟨fun empty => ?_, fun w ws n k os head owes none => ?_⟩,
    fun k crosses => ⟨fun busy same => ?_, fun other => ?_⟩, fun crosses => ?_⟩,
    fun s fw m hm isOpen => ⟨fun w crosses on idle room => ?_,
    fun b w ws crosses on other idle queue words room => ?_, fun crosses => ⟨fun empty => ?_,
    fun w ws n k os head owes more none => ?_, fun w ws n k os head owes last none queue valid busy => ?_⟩,
    fun n k os crosses notice owes none valid busy => ?_, fun crosses => ?_⟩⟩
  · refine ⟨_, exec_of_gate crosses rfl (fmbPush_of_room hm on idle room w), ?_, ?_, ?_, rfl⟩
    · rw [fmb_modFmb]
    · rw [fmb_modFmb]
    · rw [txLevel_modFmb _ _ _ (by simpa using room), List.length_append]
      rfl
  · exact exec_of_gate crosses rfl (fmbPush_of_overrun hm on full w)
  · refine ⟨_, exec_of_gate crosses rfl (fmbBell_of_idle hm on idle b), rfl, busy_fmbSent s m, ?_, ?_, txLevel_fmbSent s m⟩
    · exact congrArg Fmb.tx (fmb_fmbSent s m)
    · exact congrArg Fmb.sent (fmb_fmbSent s m)
  · exact exec_of_gate crosses rfl (fmbBell_of_busy hm on busy b)
  · rintro _ _ k b w ws crosses rfl rfl fits room
    have irq := mailIn_of_bound hm on (List.cons_ne_nil w ws) fits room k b
    refine ⟨_, exec_of_gate crosses rfl rfl, ?_, ?_, ?_, irq.netOut⟩
    · rw [irq.fmb, fmbRung, fmb_fset, fmb_fmbQueued]
      rfl
    · rw [irq.fmb, fmbRung, fmb_fset, fmb_fmbQueued]
      rfl
    · rw [irq.fget _ _ _ _ (by decide), bells_fmbRung, bells_fmbQueued]
  · exact exec_of_gate crosses rfl (mailIn_of_stranger other k b ws)
  · exact exec_of_gate crosses rfl (fmbPop_of_empty hm empty)
  · refine ⟨_, exec_of_gate crosses rfl (fmbPop_of_word hm head owes none), ?_⟩
    by_cases last : n ≤ 1
    · rw [if_pos last]
      refine ⟨rfl, ?_, fun more => by omega, fun _ => ⟨?_, netOut_fmbTaken_fmbPopped ..⟩⟩
      · exact (congrArg Fmb.rx (fmb_fmbPopped n k os w)).trans (by rw [fmbRead, head]; rfl)
      · exact (congrArg Fmb.owes (fmb_fmbPopped n k os w)).trans (if_pos last)
    · rw [if_neg last, fmb_fmbPopped, fmbRead, if_neg last, head]
      exact ⟨rfl, rfl, fun _ => ⟨rfl, rfl⟩, fun h => absurd h last⟩
  · subst same
    refine ⟨_, exec_of_gate crosses rfl (takenIn_of_busy hm busy), ?_⟩
    have irq := IrqOnly.fwIrq ((s.fset .FMB_TX_STATUS_BUSY 0 0 m).fset .FMB_TX_STATUS_TAKEN 1 0 m) m
    refine ⟨?_, ?_, irq.fmbs⟩
    · rw [irq.fget _ _ _ _ (by decide), fget_fset_row _ (by decide), fget_fset _ _ _ _ _ _ (by decide)]
      rfl
    · rw [irq.fget _ _ _ _ (by decide), fget_fset _ _ _ _ _ _ (by decide)]
      rfl
  · exact exec_of_gate crosses rfl (takenIn_of_other hm other)
  · refine ⟨_, exec_of_gate crosses rfl (fmbAbort_eq hm), ?_, fget_fset _ _ _ _ _ _ (by decide), ?_, ?_⟩
    · rw [fmb_fset, fmb_modFmb]
    · rw [fmb_fset, fmb_modFmb]
    · rw [fmb_fset, fmb_modFmb]
  · obtain ⟨x, access⟩ := mbSide_eq isOpen fun s => s.mbPush fw m w
    refine ⟨_, exec_of_gate crosses rfl (access.trans (mbPush_of_room (s := accessed s x) on idle room w)), ?_,
      mb_modMb_other (accessed s x) fw m _, ?_⟩
    · rw [mb_modMb]
      rfl
    · rw [txLevel_modMb _ _ _ _ (by rw [List.length_append]; exact room), List.length_append]
      rfl
  · obtain ⟨x, access⟩ := mbSide_eq isOpen fun s => s.mbBell fw m b
    have bell := mbBell_of_idle (s := accessed s x) on idle queue b
    have irq := mbEnter_of_room (mbOn_mbSent (s := accessed s x) other) (List.cons_ne_nil w ws)
      (by rw [mb_mbSent_other]; exact room) b
    rw [show ((accessed s x).mb fw m).tx = w :: ws from words] at bell
    refine ⟨_, exec_of_gate crosses rfl (access.trans bell), ?_, ?_, ?_, ?_⟩
    · rw [irq.mb, mb_mbRung, mbQueued, mb_modMb, mb_mbSent_other]
      rfl
    · rw [irq.mb, mb_mbRung, mbQueued, mb_modMb_not, mb_mbSent]
    · rw [irq.mget, mbRung, mget_mset_not, mbQueued, mget_modMb_not, mbSent, mget_mset _ _ _ _ (by decide)]
      rfl
    · rw [irq.mget, bells_mbRung, mbQueued, mget_modMb _ _ _ _ (by decide), mbSent, mget_mset_other, mget_modMb_other]
      rfl
  · obtain ⟨x, access⟩ := mbSide_eq isOpen fun s => s.mbPop fw m
    exact ⟨_, exec_of_gate crosses rfl (access.trans (mbPop_of_empty (s := accessed s x) hm empty)), rfl,
      mget_mset (accessed s x) fw m 1 (by decide), rfl⟩
  · obtain ⟨x, access⟩ := mbSide_eq isOpen fun s => s.mbPop fw m
    refine ⟨_, exec_of_gate crosses rfl (access.trans (mbPop_of_more (s := accessed s x) hm head owes none more)), rfl, ?_, ?_,
      mb_mbPopped_other n k os w⟩
    · rw [mb_mbPopped, fmbRead, show ((accessed s x).mb fw m).rx = w :: ws from head]
      rfl
    · rw [mb_mbPopped, fmbRead, if_neg (by omega)]
  · obtain ⟨x, access⟩ := mbSide_eq isOpen fun s => s.mbPop fw m
    have irq := mbPop_of_last (s := accessed s x) hm head owes none last queue valid busy
    refine ⟨_, exec_of_gate crosses rfl access, irq.reply, ?_, ?_, ?_, ?_⟩
    · rw [irq.mb, mb_mset, mb_mset, mb_mbPopped, fmbRead, show ((accessed s x).mb fw m).rx = w :: ws from head]
      rfl
    · rw [irq.mb, mb_mset, mb_mset, mb_mbPopped, fmbRead, if_pos last]
    · rw [irq.mget, mget_mset_apart _ _ _ _ (by decide), mget_mset _ _ _ _ (by decide)]
      rfl
    · rw [irq.mget, mget_mset _ _ _ _ (by decide)]
      rfl
  · obtain ⟨x, access⟩ := mbSide_eq isOpen fun s => s.mbAck fw m
    have irq := mbAck_of_notice (s := accessed s x) hm notice owes none valid busy
    have acked : Fmb.ack ((accessed s x).mb fw m) = { s.mb fw m with rx := (s.mb fw m).rx.drop n, owes := os } := by
      rw [Fmb.ack, show ((accessed s x).mb fw m).owes = (n, k) :: os from owes]
      rfl
    refine ⟨_, exec_of_gate crosses rfl access, ?_, ?_, ?_, ?_⟩
    · rw [irq.mb, mb_mset, mb_mset, mb_modMb, acked]
    · rw [irq.mb, mb_mset, mb_mset, mb_modMb, acked]
    · rw [irq.mget, mget_mset_apart _ _ _ _ (by decide), mget_mset _ _ _ _ (by decide)]
      rfl
    · rw [irq.mget, mget_mset _ _ _ _ (by decide)]
      rfl
  · obtain ⟨x, access⟩ := mbSide_eq isOpen fun s => s.mbAbort fw m
    refine ⟨_, exec_of_gate crosses rfl (access.trans (mbAbort_eq (s := accessed s x) hm)), ?_,
      mget_mset _ fw m 0 (by decide), ?_, ?_⟩
    · rw [mb_mset, mb_modMb]
    · rw [mb_mset, mb_modMb]
      rfl
    · rw [mb_mset, mb_modMb_other]
      rfl

end Sys2Proof.Proofs
end

section
/-! PROOFS. Lanes (R310 to R313): the record of a lane beside its registers, what a lane leaves unchanged that takes a state,
and the rows of the port registers. -/

namespace Sys2Proof.Proofs

open Sys2Proof Sys2Proof.Machine Sys2Proof.Laws

/-! ### The record of a lane -/

section
variable (s : State) (l k : Nat) (f : Lane → Lane)

@[simp] theorem lane_modLane : (s.modLane l f).lane l = f (s.lane l) := get_put_same ..

theorem lane_modLane_ne (h : k ≠ l) : (s.modLane l f).lane k = s.lane k := get_put_ne _ _ _ _ _ h

/-- What the change of a lane keeps is kept of every lane. -/
theorem modLane_keeps {α : Type} (p : Lane → α) (h : ∀ x, p (f x) = p x) :
    p ((s.modLane l f).lane k) = p (s.lane k) := by
  by_cases e : k = l
  · rw [e, lane_modLane, h]
  · rw [lane_modLane_ne _ _ _ _ e]

@[simp] theorem fget_modLane (g : Fld) (c i j : Nat) : (s.modLane l f).fget g c i j = s.fget g c i j := rfl
@[simp] theorem laneState_modLane : (s.modLane l f).laneState k = s.laneState k := rfl

end

/-! ### What a change of lanes leaves (R323, R347, R463) -/

/-- `t` is `s` but for the records of lanes, the transit buffer, the usable ports and the trainings a doorbell waits for. -/
def LanesOnly (s t : State) : Prop := ∃ lanes transit ups retraining,
  t = { s with fab := { s.fab with lanes := lanes, transit := transit, ups := ups, retraining := retraining } }

namespace LanesOnly

theorem refl (s : State) : LanesOnly s s := ⟨_, _, _, _, rfl⟩

theorem trans {s t u : State} (h : LanesOnly s t) (h' : LanesOnly t u) : LanesOnly s u := by
  obtain ⟨_, _, _, _, rfl⟩ := h
  obtain ⟨_, _, _, _, rfl⟩ := h'
  exact ⟨_, _, _, _, rfl⟩

theorem modLane (s : State) (l : Nat) (f : Lane → Lane) : LanesOnly s (s.modLane l f) := ⟨_, _, _, _, rfl⟩

theorem foldl {α : Type} (g : State → α → State) (h : ∀ s a, LanesOnly s (g s a)) (as : List α) (s : State) :
    LanesOnly s (as.foldl g s) :=
  List.foldlRecOn (motive := LanesOnly s) as g (refl s) fun _ now _ _ => now.trans (h ..)

theorem loseTransit (s : State) (lost : Transit → Bool) : LanesOnly s (s.loseTransit lost) :=
  trans ⟨_, _, _, _, rfl⟩ (foldl _ (fun s _ => modLane s _ _) _ _)

theorem withPorts (s : State) (f : State → State) : LanesOnly (f s) (s.withPorts f) := by
  unfold State.withPorts
  dsimp only
  split
  · exact refl _
  · exact trans ⟨_, _, _, _, rfl⟩ (loseTransit _ _)

variable {s t : State} (h : LanesOnly s t)
include h

theorem regs : t.regs = s.regs := by obtain ⟨_, _, _, _, rfl⟩ := h; rfl
theorem mem : t.mem = s.mem := by obtain ⟨_, _, _, _, rfl⟩ := h; rfl
theorem dict : t.dict = s.dict := by obtain ⟨_, _, _, _, rfl⟩ := h; rfl
theorem log : t.log = s.log := by obtain ⟨_, _, _, _, rfl⟩ := h; rfl
theorem faults : t.faults = s.faults := by obtain ⟨_, _, _, _, rfl⟩ := h; rfl
theorem spareReq : t.fab.spareReq = s.fab.spareReq := by obtain ⟨_, _, _, _, rfl⟩ := h; rfl

end LanesOnly

/-! ### Records of lanes through a change of lanes -/

section
variable {α : Type} (p : Lane → α) (s : State) (k : Nat)

section
variable (owed : ∀ x o, p { x with owed := o } = p x)
include owed

theorem owe_keeps (l c : Nat) : p ((s.owe l c).lane k) = p (s.lane k) := modLane_keeps s _ k _ p fun _ => owed ..

theorem loseTransit_keeps (lost : Transit → Bool) : p ((s.loseTransit lost).lane k) = p (s.lane k) :=
  List.foldlRecOn (motive := fun t : State => p (t.lane k) = p (s.lane k)) _ _ rfl
    fun t now _ _ => (owe_keeps p t k owed ..).trans now

theorem withPorts_keeps (f : State → State) : p ((s.withPorts f).lane k) = p ((f s).lane k) := by
  unfold State.withPorts
  dsimp only
  split
  · rfl
  · exact loseTransit_keeps p _ k owed _

end

/-- A lane that takes a state keeps all of every lane's record but what comes in and is owed. -/
theorem setLane_keeps (h : ∀ x u r b o, p { x with unc := u, rx := r, started := b, owed := o } = p x) (l st : Nat) :
    p ((s.setLane l st).lane k) = p (s.lane k) := by
  refine (withPorts_keeps p _ _ (fun x o => h x x.unc x.rx x.started o) _).trans ?_
  have taken := (modLane_keeps _ (s.joined l) k _ p fun x => h x x.unc [] false []).trans
    (modLane_keeps (s.fset .PORT_STATUS_STATE st 0 l) l k (fun x => { x with unc := 0 }) p fun x => h x 0 x.rx x.started x.owed)
  dsimp only
  split <;> exact taken

end

section
variable (s : State) (l st k : Nat)

theorem lanesOnly_setLane : LanesOnly (s.fset .PORT_STATUS_STATE st 0 l) (s.setLane l st) := by
  refine .trans ?_ (LanesOnly.withPorts _ _)
  dsimp only
  split <;> exact ⟨_, _, _, _, rfl⟩

@[simp] theorem mem_setLane : (s.setLane l st).mem = s.mem := (lanesOnly_setLane ..).mem
@[simp] theorem dict_setLane : (s.setLane l st).dict = s.dict := (lanesOnly_setLane ..).dict
@[simp] theorem log_setLane : (s.setLane l st).log = s.log := (lanesOnly_setLane ..).log
@[simp] theorem faults_setLane : (s.setLane l st).faults = s.faults := (lanesOnly_setLane ..).faults
@[simp] theorem spareReq_setLane : (s.setLane l st).fab.spareReq = s.fab.spareReq := (lanesOnly_setLane ..).spareReq
@[simp] theorem far_setLane : ((s.setLane l st).lane k).far = (s.lane k).far :=
  setLane_keeps Lane.far s k (fun _ _ _ _ _ => rfl) ..
@[simp] theorem fails_setLane : ((s.setLane l st).lane k).fails = (s.lane k).fails :=
  setLane_keeps Lane.fails s k (fun _ _ _ _ _ => rfl) ..

@[simp] theorem dval_setLane (x y d : Nat) : (s.setLane l st).dval x y d = s.dval x y d := by
  unfold State.dval
  rw [dict_setLane]

theorem fget_setLane (f : Fld) (c i j : Nat) :
    (s.setLane l st).fget f c i j = (s.fset .PORT_STATUS_STATE st 0 l).fget f c i j := fget_congr (lanesOnly_setLane ..).regs ..

/-- The frame that came in by the lane is lost (R463). -/
theorem rx_setLane : ((s.setLane l st).lane (s.joined l)).rx = [] := by
  refine (withPorts_keeps Lane.rx _ _ (fun _ _ => rfl) _).trans ?_
  have cut (t : State) : ((t.modLane (s.joined l) fun x => { x with rx := [], started := false, owed := [] }).lane
      (s.joined l)).rx = [] := congrArg Lane.rx (lane_modLane ..)
  dsimp only
  split <;> exact cut ((s.fset .PORT_STATUS_STATE st 0 l).modLane l fun x => { x with unc := 0 })

end

/-! ### The port registers -/

/-- A field of PORT_STATUS. -/
def inPortStatus (f : Fld) : Bool := f.sec = .fabric && f.off = 0x10 && f.stride = 4

section
variable (s : State) {f g : Fld} {l k : Nat} (hl : l < 12) (hk : k < 12)

section
variable (hf : inPortStatus f = true) (hg : inPortStatus g = true)
include hf hg hl hk

theorem fget_fset_lane_ne (h : k ≠ l) (v : Nat) : (s.fset f v 0 l).fget g 0 k = s.fget g 0 k := by
  simp only [inPortStatus, Bool.and_eq_true, decide_eq_true_eq] at hf hg
  obtain ⟨⟨-, off⟩, stride⟩ := hf
  obtain ⟨⟨-, off'⟩, stride'⟩ := hg
  refine fget_fset_off _ _ _ _ _ _ _ _ _ _ ?_
  simp only [Fld.addr, off, off', stride, stride', Nat.mul_zero]
  omega

/-- Fields of PORT_STATUS that share no bit, of any two lanes. -/
theorem fget_fset_lane (apart : rowApart f g = true) (v : Nat) : (s.fset f v 0 l).fget g 0 k = s.fget g 0 k := by
  by_cases h : k = l
  · rw [h, fget_fset_row s apart]
  · exact fget_fset_lane_ne s hl hk hf hg h v

end

section
variable {st : Nat}

theorem laneState_setLane (h : st < 8) : (s.setLane l st).laneState l = st := by
  rw [State.laneState, fget_setLane, fget_fset _ _ _ _ _ _ (by decide)]
  exact Nat.mod_eq_of_lt h

theorem fget_setLane_row (apart : rowApart .PORT_STATUS_STATE g = true) :
    (s.setLane l st).fget g 0 l = s.fget g 0 l := by
  rw [fget_setLane, fget_fset_row s apart]

include hl hk

theorem laneState_setLane_ne (h : k ≠ l) : (s.setLane l st).laneState k = s.laneState k := by
  rw [State.laneState, fget_setLane, fget_fset_lane_ne s hl hk (by decide) (by decide) h]
  rfl

theorem fget_setLane_lane (hg : inPortStatus g = true) (apart : rowApart .PORT_STATUS_STATE g = true) :
    (s.setLane l st).fget g 0 k = s.fget g 0 k := by
  rw [fget_setLane, fget_fset_lane s hl hk (by decide) hg apart]

end

end

/-! ### The lane whose record a port uses -/

/-- A lane that no bonding joins to another has its own record. -/
theorem joined_of_unbonded {s : State} {l : Nat} (hl : l < 10) (alone : s.fon .PORT_STATUS_BONDED 0 l = false) :
    s.joined l = l := by
  have port : s.portOf l = l := by simp [State.portOf, State.oddBond, alone, Nat.not_le.2 hl]
  unfold State.joined
  rw [port]
  split
  · rfl
  · next h => exact not_not.1 fun ne => h (.inr ⟨hl, ne⟩)

section
variable (s : State) (l k : Nat)

@[simp] theorem laneState_freshLane : (s.freshLane l).laneState k = s.laneState k := rfl

/-- What neither scramblers nor credits touch is kept of every lane that another starts afresh. -/
theorem freshLane_keeps {α : Type} (p : Lane → α)
    (h : ∀ x a b c d e, p { x with rxPos := a, txPos := b, rxScr := c, txScr := d, credits := e } = p x) :
    p ((s.freshLane l).lane k) = p (s.lane k) :=
  (modLane_keeps _ (s.joined l) k _ p fun x => h x x.rxPos x.txPos x.rxScr x.txScr _).trans
    (modLane_keeps s l k _ p fun x => h x _ _ _ _ x.credits)

theorem credits_freshLane : ((s.freshLane l).lane (s.joined l)).credits = freshCredits := congrArg Lane.credits (lane_modLane ..)

@[simp] theorem far_laneComesUp : ((s.laneComesUp l).lane k).far = (s.lane k).far :=
  (freshLane_keeps _ _ _ Lane.far fun _ _ _ _ _ _ => rfl).trans (far_setLane ..)

@[simp] theorem fails_laneComesUp : ((s.laneComesUp l).lane k).fails = (s.lane k).fails :=
  (freshLane_keeps _ _ _ Lane.fails fun _ _ _ _ _ _ => rfl).trans (fails_setLane ..)

theorem laneState_laneComesUp : (s.laneComesUp l).laneState l = 2 := laneState_setLane s (by decide)

theorem laneState_laneComesUp_ne (hl : l < 12) (hk : k < 12) (h : k ≠ l) :
    (s.laneComesUp l).laneState k = s.laneState k := laneState_setLane_ne s hl hk h

end

end Sys2Proof.Proofs
end

section
/-! PROOFS. Training of lanes (R310 to R313): its start, the far end it identifies, and what each lane does when it ends. -/

namespace Sys2Proof.Proofs

open Sys2Proof Sys2Proof.Machine Sys2Proof.Laws

section
variable (s : State) (l : Nat)

/-! ### The start (R310, R311) -/

/-- FabricBonding has acted on the lane's row. -/
def bondSet : State := (s.fset .PORT_STATUS_BOND_MISMATCH 0 0 l).fset .PORT_STATUS_BONDED
  (b2n (l < 10 && bit (s.dval 0x6001 1 0) (l / 2))) 0 l

/-- The lane trains and the training is counted. -/
def trainingCounted : State := ((bondSet s l).setLane l 1).fcount .PORT_ERR_RETRAINS 1 0 l

theorem startTraining_of_mayTrain (may : s.mayTrain l = true) : s.startTraining l = (trainingCounted s l).modLane l fun x =>
    { x with ready := false, totals := (x.totals.1, x.totals.2.1, satAdd 0xFFFFFFFF x.totals.2.2 1) } := by
  rw [State.startTraining, may]
  rfl

theorem mem_trainingCounted : (trainingCounted s l).mem = s.mem := by
  unfold trainingCounted
  rw [fcount_mem, mem_setLane]
  rfl

theorem retrains_trainingCounted :
    (trainingCounted s l).fget .PORT_ERR_RETRAINS 0 l = min 15 (s.fget .PORT_ERR_RETRAINS 0 l + 1) := by
  rw [trainingCounted, fget_fcount _ _ _ _ _ _ (by decide), fget_setLane_row _ (by decide), bondSet,
    fget_fset_row _ (by decide), fget_fset_row _ (by decide)]
  rfl

theorem mismatch_trainingCounted : (trainingCounted s l).fget .PORT_STATUS_BOND_MISMATCH 0 l = 0 := by
  rw [trainingCounted, fget_fcount_row _ (by decide), fget_setLane_row _ (by decide), bondSet, fget_fset_row _ (by decide),
    fget_fset _ _ _ _ _ _ (by decide)]
  rfl

theorem bonded_trainingCounted : (trainingCounted s l).fget .PORT_STATUS_BONDED 0 l =
    b2n (l < 10 && bit (s.dval 0x6001 1 0) (l / 2)) := by
  rw [trainingCounted, fget_fcount_row _ (by decide), fget_setLane_row _ (by decide), bondSet,
    fget_fset _ _ _ _ _ _ (by decide)]
  exact Nat.mod_eq_of_lt (by unfold b2n; split <;> decide)

theorem laneState_trainingCounted : (trainingCounted s l).laneState l = 1 := by
  rw [State.laneState, trainingCounted, fget_fcount_row _ (by decide)]
  exact laneState_setLane _ (by decide)

theorem laneState_fcount_err {f : Fld} {k : Nat} (hl : l < 12) (hk : k < 12) (place : f.off = 0x40 ∧ f.stride = 4 := by decide)
    (n : Nat) : (s.fcount f n 0 l).laneState k = s.laneState k := by
  obtain ⟨off, stride⟩ := place
  unfold State.fcount
  split
  · rfl
  · refine fget_fset_off _ _ _ _ _ _ _ _ _ _ ?_
    simp only [Fld.addr, off, stride, Fld.PORT_STATUS_STATE, Nat.mul_zero]
    omega

theorem laneState_trainingCounted_ne {k : Nat} (hl : l < 12) (hk : k < 12) (h : k ≠ l) :
    (trainingCounted s l).laneState k = s.laneState k := by
  rw [trainingCounted, laneState_fcount_err _ _ hl hk, laneState_setLane_ne _ hl hk h, bondSet, State.laneState,
    fget_fset_lane _ hl hk (by decide) (by decide) (by decide), fget_fset_lane _ hl hk (by decide) (by decide) (by decide)]
  rfl

end

/-! ### The far end (R312) -/

section
variable (s : State) (l : Nat) (n : Neighbour)

@[simp] theorem lane_setNeighbour : (s.setNeighbour l n).lane l = { s.lane l with far := some n, ready := true, fails := 0 } :=
  lane_modLane ..

theorem lane_setNeighbour_ne {k : Nat} (h : k ≠ l) : (s.setNeighbour l n).lane k = s.lane k := lane_modLane_ne _ _ _ _ h

theorem valid_setNeighbour : (s.setNeighbour l n).fget .PORT_STATUS_NEIGHBOUR_VALID 0 l = 1 := by
  rw [State.setNeighbour, fget_modLane, fget_fset_row _ (by decide), fget_fset_row _ (by decide),
    fget_fset _ _ _ _ _ _ (by decide)]
  rfl

theorem port_setNeighbour : (s.setNeighbour l n).fget .PORT_STATUS_NEIGHBOUR_PORT 0 l = n.lane % 16 := by
  rw [State.setNeighbour, fget_modLane, fget_fset_row _ (by decide), fget_fset _ _ _ _ _ _ (by decide)]
  rfl

theorem addr_setNeighbour : (s.setNeighbour l n).fget .PORT_STATUS_NEIGHBOUR_ADDR 0 l = n.addr % 65536 := by
  rw [State.setNeighbour, fget_modLane, fget_fset _ _ _ _ _ _ (by decide)]
  rfl

/-- A field of PORT_STATUS that tells nothing of the far end. -/
theorem fget_setNeighbour {g : Fld} {k : Nat} (hl : l < 12) (hk : k < 12) (hg : inPortStatus g = true)
    (valid : rowApart .PORT_STATUS_NEIGHBOUR_VALID g = true) (port : rowApart .PORT_STATUS_NEIGHBOUR_PORT g = true)
    (addr : rowApart .PORT_STATUS_NEIGHBOUR_ADDR g = true) : (s.setNeighbour l n).fget g 0 k = s.fget g 0 k := by
  rw [State.setNeighbour, fget_modLane, fget_fset_lane _ hl hk (by decide) hg addr, fget_fset_lane _ hl hk (by decide) hg port,
    fget_fset_lane _ hl hk (by decide) hg valid]

theorem laneState_setNeighbour {k : Nat} (hl : l < 12) (hk : k < 12) :
    (s.setNeighbour l n).laneState k = s.laneState k :=
  fget_setNeighbour s l n hl hk (by decide) (by decide) (by decide) (by decide)

theorem matching_setNeighbour {p : Nat} (h : p ≠ l) (m : Neighbour) :
    (s.setNeighbour l n).matching p m = s.matching p m := by
  unfold State.matching
  rw [lane_setNeighbour_ne _ _ _ h]

/-! ### The end (R310 to R313) -/

/-- The other lane of a bonded pair. -/
def partner (l : Nat) : Nat := if l % 2 = 0 then l + 1 else l - 1

/-- The lanes of a pair that reach no pair of one neighbour go DOWN. -/
def mismatched (s : State) (l o : Nat) : State :=
  (((s.setLane l 0).setLane o 0).fset .PORT_STATUS_BOND_MISMATCH 1 0 l).fset .PORT_STATUS_BOND_MISMATCH 1 0 o

variable {s l n}

theorem trained_of_idle_spare (hl : 10 ≤ l) (hl' : l < 12) (idle : s.fget .PORT_STATUS_STANDS_FOR 0 l = 15) :
    s.trained l n = (s.setNeighbour l n).setLane l 5 := by
  unfold State.trained
  dsimp only
  rw [if_pos hl, fget_setNeighbour s l n hl' hl' (by decide) (by decide) (by decide) (by decide), if_pos idle]

theorem trained_of_spare (hl : 10 ≤ l) (hl' : l < 12) (port : s.fget .PORT_STATUS_STANDS_FOR 0 l < 10) :
    s.trained l n = if s.matching (s.fget .PORT_STATUS_STANDS_FOR 0 l) n then (s.setNeighbour l n).laneComesUp l
      else (s.setNeighbour l n).setLane l 0 := by
  unfold State.trained
  dsimp only
  rw [if_pos hl, fget_setNeighbour s l n hl' hl' (by decide) (by decide) (by decide) (by decide), if_neg (by omega),
    matching_setNeighbour _ _ _ (by omega)]

theorem bonded_setNeighbour (hl : l < 12) : (s.setNeighbour l n).fon .PORT_STATUS_BONDED 0 l = s.fon .PORT_STATUS_BONDED 0 l := by
  unfold State.fon
  rw [fget_setNeighbour s l n hl hl (by decide) (by decide) (by decide) (by decide)]

theorem trained_of_unbonded (hl : l < 10) (alone : s.fon .PORT_STATUS_BONDED 0 l = false) :
    s.trained l n = (s.setNeighbour l n).laneComesUp l := by
  unfold State.trained
  dsimp only
  rw [if_neg (by omega), bonded_setNeighbour (by omega), alone]
  rfl

section
variable (hl : l < 10) (bonded : s.fon .PORT_STATUS_BONDED 0 l = true)

include hl in
theorem partner_lt : partner l < 12 := by
  unfold partner
  split <;> omega

theorem partner_ne : partner l ≠ l := by
  unfold partner
  split <;> omega

include hl bonded

/-- The first lane of a pair waits. -/
theorem trained_of_first (waits : (s.lane (partner l)).ready = false) : s.trained l n = s.setNeighbour l n := by
  unfold State.trained
  dsimp only
  rw [if_neg (by omega), bonded_setNeighbour (by omega), bonded, if_neg (by decide), ← partner,
    lane_setNeighbour_ne _ _ _ partner_ne, waits]
  simp only [Bool.false_eq_true, false_and, if_false]
  split <;> rfl

/-- The second lane of a pair decides. -/
theorem trained_of_second {m : Neighbour} (far : (s.lane (partner l)).far = some m) (ready : (s.lane (partner l)).ready = true)
    (low : 1 ≤ s.laneState (partner l)) (high : s.laneState (partner l) ≤ 3) :
    s.trained l n = if sameBond n m then ((s.setNeighbour l n).laneComesUp l).laneComesUp (partner l)
      else (mismatched (s.setNeighbour l n) l (partner l)).statusRecord .bondMismatch (locHub l)
        (((((s.setNeighbour l n).setLane l 0).setLane (partner l) 0).fset .PORT_STATUS_BOND_MISMATCH 1 0 l).rword .fabric 0
          (0x10 + 4 * l)) := by
  unfold State.trained
  dsimp only
  rw [if_neg (by omega), bonded_setNeighbour (by omega), bonded, if_neg (by decide), ← partner,
    lane_setNeighbour_ne _ _ _ partner_ne, laneState_setNeighbour _ _ _ (by omega) (partner_lt hl), far]
  dsimp only
  rw [if_pos ⟨ready, by omega⟩]
  rfl

end

/-- What no state of a lane, no BOND_MISMATCH and no record changes, the end of a training leaves as the far end was
published. -/
theorem trained_keeps {α : Type} (q : State → α) (hl : l < 12) (set : ∀ t k st, k < 12 → q (t.setLane k st) = q t)
    (up : ∀ t k, k < 12 → q (t.laneComesUp k) = q t)
    (mismatch : ∀ t k, k < 12 → q (t.fset .PORT_STATUS_BOND_MISMATCH 1 0 k) = q t)
    (recorded : ∀ t c x w, q (State.statusRecord t c x w) = q t) : q (s.trained l n) = q (s.setNeighbour l n) := by
  unfold State.trained
  dsimp only
  split
  · split
    · exact set _ _ _ hl
    · split
      · exact up _ _ hl
      · exact set _ _ _ hl
  · next low =>
    have other : partner l < 12 := partner_lt (Nat.not_le.1 low)
    split
    · exact up _ _ hl
    · rw [← partner]
      split
      · split
        · split
          · exact (up _ _ other).trans (up _ _ hl)
          · exact (recorded ..).trans ((mismatch _ _ other).trans ((mismatch _ _ hl).trans
              ((set _ _ _ other).trans (set _ _ _ hl))))
        · rfl
      · rfl

@[simp] theorem lane_statusRecord (t : State) (c : Code) (x w ty k : Nat) : (t.statusRecord c x w ty).lane k = t.lane k := by
  unfold State.statusRecord State.lane
  rw [logWrite_fab]
  rfl

@[simp] theorem fget_statusRecord (t : State) (c : Code) (x w ty : Nat) (f : Fld) (a i j : Nat) :
    (t.statusRecord c x w ty).fget f a i j = t.fget f a i j := by
  unfold State.statusRecord
  rw [fget_logWrite, fget_countCode]

/-- The lane's own row tells of the far end still. -/
theorem fget_trained {f : Fld} (hl : l < 12) (hf : inPortStatus f = true) (apart : rowApart .PORT_STATUS_STATE f = true)
    (apart' : rowApart .PORT_STATUS_BOND_MISMATCH f = true) :
    (s.trained l n).fget f 0 l = (s.setNeighbour l n).fget f 0 l :=
  trained_keeps (fun t => t.fget f 0 l) hl (fun t _ _ hk => fget_setLane_lane t hk hl hf apart)
    (fun t _ hk => fget_setLane_lane t hk hl hf apart) (fun t _ hk => fget_fset_lane t hk hl (by decide) hf apart' 1)
    fun t _ _ _ => fget_statusRecord t ..

theorem far_trained (hl : l < 12) : ((s.trained l n).lane l).far = some n :=
  (trained_keeps (fun t => (t.lane l).far) hl (fun _ _ _ _ => far_setLane ..) (fun _ _ _ => far_laneComesUp ..) (fun _ _ _ => rfl)
    fun t _ _ _ => congrArg Lane.far (lane_statusRecord t ..)).trans (congrArg Lane.far (lane_setNeighbour ..))

theorem fails_trained (hl : l < 12) : ((s.trained l n).lane l).fails = 0 :=
  (trained_keeps (fun t => (t.lane l).fails) hl (fun _ _ _ _ => fails_setLane ..) (fun _ _ _ => fails_laneComesUp ..)
    (fun _ _ _ => rfl) fun t _ _ _ => congrArg Lane.fails (lane_statusRecord t ..)).trans
      (congrArg Lane.fails (lane_setNeighbour ..))

end

/-! ### The commands -/

section
variable {s : State} {l : Nat} (hl : l < 12)

/-- No doorbell waits for the lane any more. -/
def trainingOver (s : State) (l : Nat) : State :=
  { s with fab := { s.fab with retraining := s.fab.retraining.filter (· ≠ l) } }

theorem sequence_statusRecord (t : State) (c : Code) (x w ty : Nat) :
    (t.statusRecord c x w ty).log.sequence = (t.log.sequence + 1) % 2 ^ 32 := by
  unfold State.statusRecord State.logWrite
  dsimp only
  split <;> rfl

theorem counts_statusRecord (t : State) (c : Code) (x w ty : Nat) :
    (t.statusRecord c x w ty).faults.counts.get c.number 0 = min 0xFFFFFFFF (t.faults.counts.get c.number 0 + 1) := by
  unfold State.statusRecord
  rw [logWrite_faults]
  exact get_put_same ..

variable (flows : s.flows hubClk = true)

section
include hl flows

theorem laneTrainingStart_of_down (down : s.laneState l = 0) (ref : s.fon .CLK_STATUS_FABRIC_REF = true)
    (enabled : bit (s.dval 0x6001 2 0x0FFF) l = true) :
    ∃ t, exec (.laneTrainingStart l) s = .next t ∧ t.laneState l = 1 ∧ t.fget .PORT_STATUS_BOND_MISMATCH 0 l = 0 ∧
      t.fget .PORT_STATUS_BONDED 0 l = b2n (l < 10 && bit (s.dval 0x6001 1 0) (l / 2)) ∧
      t.fget .PORT_ERR_RETRAINS 0 l = min 15 (s.fget .PORT_ERR_RETRAINS 0 l + 1) ∧
      (∀ k, k < 12 → k ≠ l → t.laneState k = s.laneState k) ∧ t.mem = s.mem := by
  have may : s.mayTrain l = true := by simp [State.mayTrain, hl, down, ref, enabled]
  refine ⟨_, exec_of_gate flows rfl (startTraining_of_mayTrain s l may), ?_⟩
  exact ⟨laneState_trainingCounted s l, mismatch_trainingCounted s l, bonded_trainingCounted s l, retrains_trainingCounted s l,
    fun k hk h => laneState_trainingCounted_ne s l hl hk h, mem_trainingCounted s l⟩

theorem laneTrainingEnd_eq (trains : s.laneState l = 1) (n : Neighbour) :
    exec (.laneTrainingEnd l (some n)) s = .next ((trainingOver s l).trained l n) :=
  exec_of_gate flows rfl (if_neg (by omega))

theorem laneTrainingEnd_of_fail (trains : s.laneState l = 1) (few : (s.lane l).fails < 2) :
    ∃ t, exec (.laneTrainingEnd l none) s = .next t ∧ t.laneState l = 0 ∧ (t.lane l).fails = (s.lane l).fails + 1 := by
  refine ⟨_, exec_of_gate flows rfl ((if_neg (by omega)).trans (if_pos (Nat.succ_lt_succ few))), ?_⟩
  exact ⟨laneState_setLane _ (by decide), (fails_setLane ..).trans (congrArg Lane.fails (lane_modLane ..))⟩

theorem laneTrainingEnd_of_third_fail (trains : s.laneState l = 1) (many : 2 ≤ (s.lane l).fails) :
    ∃ t, exec (.laneTrainingEnd l none) s = .next t ∧ t.laneState l = 4 ∧ t.log.sequence = (s.log.sequence + 1) % 2 ^ 32 ∧
      t.faults.counts.get Code.laneFailed.number 0 = min 0xFFFFFFFF (s.faults.counts.get Code.laneFailed.number 0 + 1) := by
  have third : ¬(s.lane l).fails + 1 < 3 := by omega
  refine ⟨_, exec_of_gate flows rfl ((if_neg (by omega)).trans (if_neg third)), ?_⟩
  refine ⟨(fget_statusRecord ..).trans (laneState_setLane _ (by decide)), ?_, ?_⟩
  · rw [sequence_statusRecord, log_setLane]
    rfl
  · rw [counts_statusRecord, faults_setLane]
    rfl

end

end

end Sys2Proof.Proofs
end

section
/-! PROOFS. Codewords and losses of lanes (R310, R314, R315, R457), and the lane commands together. -/

namespace Sys2Proof.Proofs

open Sys2Proof Sys2Proof.Machine Sys2Proof.Laws

/-! ### Codewords (R314, R315) -/

theorem joined_congr {s t : State} (h : t.regs = s.regs) (l : Nat) : t.joined l = s.joined l := by
  have regsOnly : t.joined l = State.joined { s with regs := t.regs } l := rfl
  rw [regsOnly, h]

/-- `t` is `s` after words between frames: no register and no waiting frame has changed, nor the credits of the lane whose
record is `j`, by which no frame comes in. -/
structure Between (j : Nat) (s t : State) : Prop where
  regs : t.regs = s.regs
  transit : t.fab.transit = s.fab.transit
  credits : (t.lane j).credits = (s.lane j).credits
  between : (t.lane j).started = false

section
variable {s : State} {l : Nat}

/-- An IDLE word between frames (R314). -/
theorem Between.rxWord {t : State} (h : Between (s.joined l) s t) {w : Nat × List Byte} (idle : w.1 = 0) :
    Between (s.joined l) s (t.rxWord l w) := by
  have same : t.joined l = s.joined l := joined_congr h.regs l
  have word : t.rxWord l w = t.modLane (s.joined l) fun x => { x with rx := [], started := false } := by
    simp [State.rxWord, State.endFrame, idle, same, h.between]
  rw [word]
  refine ⟨h.regs, h.transit, ?_, ?_⟩
  · rw [lane_modLane]
    exact h.credits
  · rw [lane_modLane]

/-- The link credits of a codeword have been added (R326). -/
def creditsTaken (s : State) (l : Nat) (d : LineData) : State :=
  s.modLane (s.joined l) fun x => { x with credits := d.credits.foldl (fun m c => m.put c.1 (m.get c.1 0 + c.2)) x.credits }

/-- A codeword of IDLE words brings its link credits and nothing else (R326). -/
theorem takeLine_of_idle {d : LineData} (idle : ∀ w ∈ d.words, w.1 = 0) (between : (s.lane (s.joined l)).started = false) :
    (s.takeLine l d).regs = s.regs ∧ (s.takeLine l d).fab.transit = s.fab.transit ∧
      ((s.takeLine l d).lane (s.joined l)).credits =
        d.credits.foldl (fun m c => m.put c.1 (m.get c.1 0 + c.2)) (s.lane (s.joined l)).credits := by
  have words : Between (s.joined l) (creditsTaken s l d) (s.takeLine l d) :=
    List.foldlRecOn (motive := Between ((creditsTaken s l d).joined l) (creditsTaken s l d)) _ _
      ⟨rfl, rfl, rfl, (congrArg Lane.started (lane_modLane ..)).trans between⟩ fun _ now w hw => now.rxWord (idle w hw)
  exact ⟨words.regs, words.transit, words.credits.trans (congrArg Lane.credits (lane_modLane ..))⟩

/-- What the place in the alignment group and the scrambler do not touch. -/
theorem rxAdvance_keeps {α : Type} (p : Lane → α) (h : ∀ x a b, p { x with rxPos := a, rxScr := b } = p x) (k : Nat) :
    p ((s.rxAdvance l).lane k) = p (s.lane k) := modLane_keeps s l k _ p fun _ => h ..

/-- The event of a lane is merged into one in flight, or acts. -/
theorem laneEvent_eq (s : State) (f : State → State) :
    s.laneEvent f = (s.draw 1).2.merge 3 1 ∨ s.laneEvent f = f (s.draw 1).2 := by
  unfold State.laneEvent
  dsimp only
  split
  · exact .inl rfl
  · exact .inr rfl

/-- An uncorrectable codeword is counted, unless its event is merged into one in flight (R315). -/
def lossCounted (s : State) (l : Nat) : State :=
  s.laneEvent fun s => (s.fcount .PORT_ERR_UNCORRECTED 1 0 l).modLane l fun x => { x with
    totals := (x.totals.1, satAdd 0xFFFFFFFF x.totals.2.1 1, x.totals.2.2) }

theorem lossCounted_eq (s : State) (l : Nat) : lossCounted s l = (s.draw 1).2.merge 3 1 ∨
    lossCounted s l = ((s.draw 1).2.fcount .PORT_ERR_UNCORRECTED 1 0 l).modLane l fun x => { x with
      totals := (x.totals.1, satAdd 0xFFFFFFFF x.totals.2.1 1, x.totals.2.2) } := laneEvent_eq ..

/-- The lane has lost `unc` codewords since it came UP, and no frame comes in by it. -/
def lossTaken (s : State) (l unc : Nat) : State :=
  (s.modLane l fun x => { x with unc := unc }).modLane (s.joined l) fun x => { x with rx := [], started := false }

theorem unc_lossTaken (s : State) (l unc : Nat) : ((lossTaken s l unc).lane l).unc = unc :=
  (modLane_keeps (s.modLane l fun x => { x with unc := unc }) (s.joined l) l (fun x => { x with rx := [], started := false })
    Lane.unc fun _ => rfl).trans (congrArg Lane.unc (lane_modLane ..))

/-- An uncorrectable codeword between frames, while few have come, adds to the lane's count alone. -/
theorem lostCodeword_of_between (between : (s.lane (s.joined l)).started = false) (few : (s.lane l).unc < 16) :
    s.lostCodeword l = ((lossTaken (lossCounted s l) l ((s.lane l).unc + 1)).draw 2).2 := by
  unfold State.lostCodeword
  dsimp only
  rw [between, Bool.not_false, if_pos rfl, if_neg fun h => by omega]
  rfl

theorem laneState_lossCounted (hl : l < 12) : (lossCounted s l).laneState l = s.laneState l := by
  obtain merged | acts := lossCounted_eq s l
  · rw [merged]
    exact (IrqOnly.merge _ 3 1).fget _ _ _ _ (by decide)
  · rw [acts]
    exact laneState_fcount_err (s.draw 1).2 l hl hl (by decide) 1

theorem uncorrected_lossCounted :
    (lossCounted s l).fget .PORT_ERR_UNCORRECTED 0 l = min 255 (s.fget .PORT_ERR_UNCORRECTED 0 l + 1) ∨
      (lossCounted s l).fget .PORT_ERR_UNCORRECTED 0 l = s.fget .PORT_ERR_UNCORRECTED 0 l := by
  obtain merged | acts := lossCounted_eq s l
  · rw [merged]
    exact .inr ((IrqOnly.merge _ 3 1).fget _ _ _ _ (by decide))
  · rw [acts]
    exact .inl (fget_fcount (s.draw 1).2 _ _ _ _ _ (by decide))

end

/-! ### One loss on every lane (R457) -/

/-- A fold over the numbers below `n`: what holds until `l` is visited, and what then holds to the end. -/
theorem foldl_range_visit {σ : Type} {g : σ → Nat → σ} {A B : σ → Prop} {l n : Nat} (hl : l < n)
    (before : ∀ s k, k < n → k ≠ l → A s → A (g s k)) (visit : ∀ s, A s → B (g s l))
    (after : ∀ s k, k < n → k ≠ l → B s → B (g s k)) {s : σ} (h : A s) : B ((List.range n).foldl g s) := by
  obtain ⟨pre, post, split⟩ := List.append_of_mem (List.mem_range.2 hl)
  have distinct : (pre ++ l :: post).Nodup := split ▸ List.nodup_range
  have low {k} (hk : k ∈ pre ++ l :: post) : k < n := List.mem_range.1 (split ▸ hk)
  have first {k} (hk : k ∈ pre) : k ≠ l := fun e => (List.nodup_append.1 distinct).2.2 k hk l (by simp) e
  have last {k} (hk : k ∈ post) : k ≠ l := fun e =>
    (List.nodup_cons.1 (List.nodup_append.1 distinct).2.1).1 (e ▸ hk)
  rw [split, List.foldl_append, List.foldl_cons]
  have reached : A (pre.foldl g s) :=
    List.foldlRecOn (motive := A) _ _ h fun t ht k hk => before t k (low (by simp [hk])) (first hk) ht
  exact List.foldlRecOn (motive := B) _ _ (visit _ reached) fun t ht k hk => after t k (low (by simp [hk])) (last hk) ht

/-- A lane that is neither OFF nor FAILED goes DOWN. -/
def refLost (s : State) (l : Nat) : State := if s.laneState l = 4 ∨ s.laneState l = 6 then s else s.setLane l 0

theorem laneState_refLost (s : State) (l : Nat) : (refLost s l).laneState l =
    if s.laneState l = 4 ∨ s.laneState l = 6 then s.laneState l else 0 := by
  unfold refLost
  split
  · rfl
  · exact laneState_setLane s (by decide)

theorem laneState_refLost_ne (s : State) {l k : Nat} (hl : l < 12) (hk : k < 12) (h : k ≠ l) :
    (refLost s l).laneState k = s.laneState k := by
  unfold refLost
  split
  · rfl
  · exact laneState_setLane_ne s hl hk h

theorem ref_refLost (s : State) (l : Nat) : (refLost s l).fget .CLK_STATUS_FABRIC_REF = s.fget .CLK_STATUS_FABRIC_REF := by
  unfold refLost
  split
  · rfl
  · exact (fget_setLane ..).trans (fget_fset_sec _ _ _ _ _ _ _ _ _ _ (by decide))

theorem fabricRefLoss_eq (s : State) {l : Nat} (hl : l < 12) :
    ∃ t, exec .fabricRefLoss s = .next t ∧ t.fget .CLK_STATUS_FABRIC_REF = 0 ∧
      t.laneState l = (if s.laneState l = 4 ∨ s.laneState l = 6 then s.laneState l else 0) := by
  refine ⟨(List.range 12).foldl refLost { s.fset .CLK_STATUS_FABRIC_REF 0 with
    startup := { s.startup with refs := s.startup.refs &&& 0x8000000 }, fab := { s.fab with retraining := [] } }, rfl, ?_, ?_⟩
  · rw [foldl_keeps (fun t : State => t.fget .CLK_STATUS_FABRIC_REF) _ ref_refLost]
    exact fget_fset _ _ _ _ _ _ (by decide)
  · refine foldl_range_visit (A := fun t : State => t.laneState l = s.laneState l)
      (B := fun t : State => t.laneState l = (if s.laneState l = 4 ∨ s.laneState l = 6 then s.laneState l else 0))
      hl ?_ ?_ ?_ ?_
    · exact fun t k hk h now => (laneState_refLost_ne t hk hl (Ne.symm h)).trans now
    · exact fun t now => by rw [laneState_refLost, now]
    · exact fun t k hk h now => (laneState_refLost_ne t hk hl (Ne.symm h)).trans now
    · exact fget_fset_sec s _ _ _ _ _ _ _ _ _ (by decide)

/-! ### A bonded pair on one lane (R310) -/

/-- The lane of a pair that has failed is DOWN and the other carries the pair alone. -/
def halved (s : State) (failed other port : Nat) : State :=
  (((((s.setLane failed 0).setLane other 3).fcount .PORT_ERR_RETRAINS 1 0 other).loseTransit fun x =>
    x.out = port && !x.f.sroute).modLane other fun x => { x with
      totals := (x.totals.1, x.totals.2.1, satAdd 0xFFFFFFFF x.totals.2.2 1) }).freshLane other

theorem laneState_halved (s : State) {failed other k : Nat} (port : Nat) (hl : other < 12) (hk : k < 12) :
    (halved s failed other port).laneState k = ((s.setLane failed 0).setLane other 3).laneState k := by
  unfold halved
  rw [laneState_freshLane, laneState_modLane, State.laneState, fget_congr (LanesOnly.loseTransit _ _).regs]
  exact laneState_fcount_err _ other hl hk (by decide) 1

theorem laneStates_halved (s : State) {failed other : Nat} (port : Nat) (hl : failed < 12) (hl' : other < 12)
    (h : failed ≠ other) : (halved s failed other port).laneState failed = 0 ∧
      (halved s failed other port).laneState other = 3 := by
  rw [laneState_halved s port hl' hl, laneState_halved s port hl' hl', laneState_setLane_ne _ hl' hl h,
    laneState_setLane s (by decide), laneState_setLane _ (by decide)]
  exact ⟨rfl, rfl⟩

theorem bondRetrain_of_up {s : State} (flows : s.flows hubClk = true) {pair failed other : Nat} (hp : pair < 5)
    (lanes : failed = 2 * pair ∧ other = 2 * pair + 1 ∨ failed = 2 * pair + 1 ∧ other = 2 * pair)
    (bonded : s.fon .PORT_STATUS_BONDED 0 (2 * pair) = true) (up : s.laneState failed = 2) (up' : s.laneState other = 2) :
    exec (.bondRetrain pair failed) s = .next (halved s failed other (2 * pair)) := by
  have chosen : (if failed = 2 * pair then 2 * pair + 1 else 2 * pair) = other := by split <;> omega
  refine exec_of_gate flows rfl ?_
  dsimp only
  rw [chosen, bonded, if_neg (by simp; omega)]
  rfl

/-! ### The lane commands -/

section
variable {s : State} {l : Nat} (hl : l < 12) (flows : s.flows hubClk = true)
include hl flows

theorem laneTrainingEnd_of_far (trains : s.laneState l = 1) (n : Neighbour) :
    ∃ t, exec (.laneTrainingEnd l (some n)) s = .next t ∧ t.fget .PORT_STATUS_NEIGHBOUR_VALID 0 l = 1 ∧
      t.fget .PORT_STATUS_NEIGHBOUR_PORT 0 l = n.lane % 16 ∧ t.fget .PORT_STATUS_NEIGHBOUR_ADDR 0 l = n.addr % 65536 ∧
      (t.lane l).far = some n ∧ (t.lane l).fails = 0 ∧
      (l < 10 → s.fon .PORT_STATUS_BONDED 0 l = false → t.laneState l = 2 ∧ (t.lane l).credits = freshCredits ∧
        ∀ k, k < 12 → k ≠ l → t.laneState k = s.laneState k) ∧
      (10 ≤ l → s.fget .PORT_STATUS_STANDS_FOR 0 l = 15 → t.laneState l = 5) ∧
      (10 ≤ l → s.fget .PORT_STATUS_STANDS_FOR 0 l < 10 →
        t.laneState l = if s.matching (s.fget .PORT_STATUS_STANDS_FOR 0 l) n then 2 else 0) ∧
      (∀ o, l < 10 → s.fon .PORT_STATUS_BONDED 0 l = true → o = (if l % 2 = 0 then l + 1 else l - 1) →
        ((s.lane o).ready = false → t.laneState l = 1 ∧ t.laneState o = s.laneState o) ∧
        (∀ m, (s.lane o).far = some m → (s.lane o).ready = true → 1 ≤ s.laneState o → s.laneState o ≤ 3 →
          (sameBond n m = true → t.laneState l = 2 ∧ t.laneState o = 2) ∧
          (sameBond n m = false → t.laneState l = 0 ∧ t.laneState o = 0 ∧ t.fget .PORT_STATUS_BOND_MISMATCH 0 l = 1 ∧
            t.fget .PORT_STATUS_BOND_MISMATCH 0 o = 1))) := by
  refine ⟨_, laneTrainingEnd_eq hl flows trains n, ?_, ?_, ?_, far_trained hl, fails_trained hl, ?_, ?_, ?_, ?_⟩
  · rw [fget_trained hl (by decide) (by decide) (by decide), valid_setNeighbour]
  · rw [fget_trained hl (by decide) (by decide) (by decide), port_setNeighbour]
  · rw [fget_trained hl (by decide) (by decide) (by decide), addr_setNeighbour]
  · intro low alone
    rw [trained_of_unbonded (s := trainingOver s l) low alone]
    refine ⟨laneState_laneComesUp .., ?_, fun k hk h => ?_⟩
    · have own : (((trainingOver s l).setNeighbour l n).setLane l 2).joined l = l := by
        refine joined_of_unbonded low ?_
        unfold State.fon
        rw [fget_setLane_row _ (by decide)]
        exact (bonded_setNeighbour (s := trainingOver s l) hl).trans alone
      have fresh := credits_freshLane (((trainingOver s l).setNeighbour l n).setLane l 2) l
      rwa [own] at fresh
    · rw [laneState_laneComesUp_ne _ _ _ hl hk h, laneState_setNeighbour _ _ _ hl hk]
      rfl
  · intro high idle
    rw [trained_of_idle_spare (s := trainingOver s l) high hl idle]
    exact laneState_setLane _ (by decide)
  · intro high port
    rw [trained_of_spare (s := trainingOver s l) high hl port]
    show _ = if (trainingOver s l).matching ((trainingOver s l).fget .PORT_STATUS_STANDS_FOR 0 l) n then 2 else 0
    split
    · exact laneState_laneComesUp ..
    · exact laneState_setLane _ (by decide)
  · rintro o low bonded rfl
    rw [← partner]
    have ne := partner_ne (l := l)
    have lt := partner_lt low
    refine ⟨fun waits => ?_, fun m far ready one three => ⟨fun same => ?_, fun differ => ?_⟩⟩
    · rw [trained_of_first (s := trainingOver s l) low bonded waits, laneState_setNeighbour _ _ _ hl hl,
        laneState_setNeighbour _ _ _ hl lt]
      exact ⟨trains, rfl⟩
    · rw [trained_of_second (s := trainingOver s l) low bonded far ready one three, if_pos same,
        laneState_laneComesUp_ne _ _ _ lt hl ne.symm, laneState_laneComesUp, laneState_laneComesUp]
      exact ⟨rfl, rfl⟩
    · rw [trained_of_second (s := trainingOver s l) low bonded far ready one three, differ, if_neg (by decide)]
      simp only [State.laneState, fget_statusRecord, mismatched]
      refine ⟨?_, ?_, ?_, fget_fset _ _ _ _ _ _ (by decide)⟩
      · rw [fget_fset_lane _ lt hl (by decide) (by decide) (by decide),
          fget_fset_lane _ hl hl (by decide) (by decide) (by decide)]
        exact (laneState_setLane_ne _ lt hl ne.symm).trans (laneState_setLane _ (by decide))
      · rw [fget_fset_lane _ lt lt (by decide) (by decide) (by decide),
          fget_fset_lane _ hl lt (by decide) (by decide) (by decide)]
        exact laneState_setLane _ (by decide)
      · rw [fget_fset_lane_ne _ lt hl (by decide) (by decide) ne.symm, fget_fset _ _ _ _ _ _ (by decide)]
        rfl

section
variable (carries : s.laneState l = 2 ∨ s.laneState l = 3 ∨ s.laneState l = 5)
include carries

theorem codewordLockLoss_of_carrying :
    ∃ t, exec (.codewordLockLoss l) s = .next t ∧ t.laneState l = 0 ∧ (t.lane (s.joined l)).rx = [] :=
  ⟨_, exec_of_gate flows rfl (if_pos ⟨hl, carries⟩), laneState_setLane _ (by decide), rx_setLane ..⟩

theorem codewordReceive_of_data (cw : Codeword) {data : List Nat} {n : Nat} (decodes : rsDecode cw.symbols = some (data, n)) :
    exec (.codewordReceive l cw) s = .next ((if n = 0 then s.rxAdvance l else (s.rxAdvance l).countCorrected l).takeLine l
      (lineDecode data (s.lane l).rxScr)) := by
  refine exec_of_gate flows rfl ((if_neg (by omega)).trans ?_)
  rw [decodes]

theorem codewordReceive_of_loss (cw : Codeword) (fails : rsDecode cw.symbols = none) :
    exec (.codewordReceive l cw) s = .next ((s.rxAdvance l).lostCodeword l) := by
  refine exec_of_gate flows rfl ((if_neg (by omega)).trans ?_)
  rw [fails]

end

end

/-- Settles O42: the lane commands complete. -/
theorem laneCommandsComplete : Obligations.LaneCommandsComplete := by
  unfold Obligations.LaneCommandsComplete
  refine fun s l hl => ⟨fun flows => ⟨laneTrainingStart_of_down hl flows,
    fun n trains => laneTrainingEnd_of_far hl flows trains n, laneTrainingEnd_of_fail hl flows,
    laneTrainingEnd_of_third_fail hl flows, fun carries => ⟨?_, ?_, ?_⟩, ?_⟩,
    fabricRefLoss_eq s hl, rfl⟩
  · exact codewordLockLoss_of_carrying hl flows carries
  · intro cw data n decodes
    have taken := codewordReceive_of_data hl flows carries cw decodes
    refine ⟨taken, ?_⟩
    rintro rfl idle between
    have started : ((s.rxAdvance l).lane (s.joined l)).started = false :=
      (rxAdvance_keeps Lane.started (fun _ _ _ => rfl) _).trans between
    obtain ⟨regs, transit, credits⟩ := takeLine_of_idle (s := s.rxAdvance l) idle started
    rw [rxAdvance_keeps Lane.credits fun _ _ _ => rfl] at credits
    exact ⟨_, taken, regs, transit, credits⟩
  · intro cw fails between few
    have advanced : ((s.rxAdvance l).lane l).unc = (s.lane l).unc := rxAdvance_keeps Lane.unc (fun _ _ _ => rfl) _
    have lost := lostCodeword_of_between (s := s.rxAdvance l) ((rxAdvance_keeps Lane.started (fun _ _ _ => rfl) _).trans between)
      (advanced.symm ▸ few)
    rw [advanced] at lost
    exact ⟨_, (codewordReceive_of_loss hl flows carries cw fails).trans (congrArg _ lost),
      laneState_lossCounted (s := s.rxAdvance l) hl, unc_lossTaken .., uncorrected_lossCounted (s := s.rxAdvance l)⟩
  · rintro pair rfl hp bonded up up'
    have states := laneStates_halved s (failed := 2 * pair) (other := 2 * pair + 1) (2 * pair) hl (by omega) (by omega)
    have states' := laneStates_halved s (failed := 2 * pair + 1) (other := 2 * pair) (2 * pair) (by omega) hl (by omega)
    exact ⟨⟨_, bondRetrain_of_up flows hp (.inl ⟨rfl, rfl⟩) bonded up up', states⟩,
      ⟨_, bondRetrain_of_up flows hp (.inr ⟨rfl, rfl⟩) bonded up' up, states'.2, states'.1⟩⟩

end Sys2Proof.Proofs
end

section
/-! PROOFS. Spares and enabled ports (R311 to R313): what a substitution, a release and FabricPortEnable do to the lanes. -/

namespace Sys2Proof.Proofs

open Sys2Proof Sys2Proof.Machine Sys2Proof.Laws

/-! ### Retraining -/

section
variable (s : State) {l k : Nat} (hl : l < 12) (hk : k < 12)

theorem spareReq_retrain (l : Nat) : (s.retrain l).fab.spareReq = s.fab.spareReq := by
  unfold State.retrain
  split
  · exact spareReq_setLane ..
  · exact spareReq_setLane ..

/-- What no state of the lane changes, its retraining keeps. -/
theorem fget_retrain {g : Fld} {c i j : Nat} (set : ∀ st, (s.setLane l st).fget g c i j = s.fget g c i j) :
    (s.retrain l).fget g c i j = s.fget g c i j := by
  unfold State.retrain
  split
  · exact set 6
  · exact set 0

theorem laneState_retrain : (s.retrain l).laneState l = if bit (s.dval 0x6001 2 0x0FFF) l then 0 else 6 := by
  unfold State.retrain
  split
  · next off => rw [laneState_setLane _ (by decide), if_neg (by simpa using off)]
  · next on => exact (laneState_setLane s (by decide)).trans (if_pos (by simpa using on)).symm

theorem laneState_retrain_ne (hl : l < 12) (hk : k < 12) (h : k ≠ l) : (s.retrain l).laneState k = s.laneState k :=
  fget_retrain s fun _ => laneState_setLane_ne s hl hk h

/-! ### The port that a spare stands in for -/

/-- The lane stands in for the port `p`; for none at 15. -/
def standingFor (s : State) (l p : Nat) : State := s.withPorts fun s => s.fset .PORT_STATUS_STANDS_FOR p 0 l

theorem lanesOnly_standingFor (l p : Nat) : LanesOnly (s.fset .PORT_STATUS_STANDS_FOR p 0 l) (standingFor s l p) :=
  LanesOnly.withPorts s fun s => s.fset .PORT_STATUS_STANDS_FOR p 0 l

theorem dval_standingFor (l p x y d : Nat) : (standingFor s l p).dval x y d = s.dval x y d := by
  unfold State.dval
  rw [(lanesOnly_standingFor ..).dict]
  rfl

theorem standsFor_standingFor {p : Nat} (hp : p < 16) : (standingFor s l p).fget .PORT_STATUS_STANDS_FOR 0 l = p := by
  rw [fget_congr (lanesOnly_standingFor ..).regs, fget_fset _ _ _ _ _ _ (by decide)]
  exact Nat.mod_eq_of_lt hp

include hl hk in
theorem laneState_standingFor (p : Nat) : (standingFor s l p).laneState k = s.laneState k := by
  rw [State.laneState, fget_congr (lanesOnly_standingFor ..).regs, fget_fset_lane s hl hk (by decide) (by decide) (by decide)]
  rfl

/-- STANDS_FOR of a lane through a state of the lane of any number that STANDS_FOR can give. -/
theorem standsFor_setLane (hl : l < 12) {p : Nat} (hp : p < 16) (st : Nat) :
    (s.setLane p st).fget .PORT_STATUS_STANDS_FOR 0 l = s.fget .PORT_STATUS_STANDS_FOR 0 l := by
  by_cases h : p = l
  · rw [h, fget_setLane_row s (by decide)]
  · rw [fget_setLane]
    refine fget_fset_off _ _ _ _ _ _ _ _ _ _ ?_
    simp only [Fld.addr, Fld.PORT_STATUS_STANDS_FOR, Fld.PORT_STATUS_STATE, Nat.mul_zero]
    omega

end

/-! ### Substitution and release (R313) -/

section
variable (s : State) {port spare : Nat}

section
variable (hp : port < 10) (hs : spare < 2)
include hp hs

omit hs in
theorem standsFor_assignSpare : (s.assignSpare port spare).fget .PORT_STATUS_STANDS_FOR 0 (10 + spare) = port := by
  refine (fget_retrain _ fun st => fget_setLane_row _ (by decide)).trans ?_
  exact standsFor_standingFor (s.setLane port 6) (by omega)

theorem laneState_assignSpare_port : (s.assignSpare port spare).laneState port = 6 := by
  refine (laneState_retrain_ne _ (by omega) (by omega) (by omega)).trans ?_
  exact (laneState_standingFor (s.setLane port 6) (by omega) (by omega) port).trans (laneState_setLane s (by decide))

end

theorem laneState_assignSpare_spare : (s.assignSpare port spare).laneState (10 + spare) =
    if bit (s.dval 0x6001 2 0x0FFF) (10 + spare) then 0 else 6 := by
  refine (laneState_retrain ..).trans ?_
  have enabled := dval_standingFor (s.setLane port 6) (10 + spare) port 0x6001 2 0x0FFF
  rw [dval_setLane] at enabled
  exact congrArg (fun v => if bit v (10 + spare) then 0 else 6) enabled

theorem spareReq_assignSpare : (s.assignSpare port spare).fab.spareReq = s.fab.spareReq :=
  (spareReq_retrain ..).trans (((lanesOnly_standingFor (s.setLane port 6) _ _).spareReq).trans (spareReq_setLane ..))

/-- The spare stands in for none: it trains again, or is OFF. -/
def spareIdle (s : State) (l : Nat) : State :=
  if bit (s.dval 0x6001 2 0x0FFF) l then standingFor (s.setLane l 0) l 15 else (standingFor (s.setLane l 0) l 15).setLane l 6

/-- A spare that stands in for none is released already. -/
theorem releaseSpare_of_idle (idle : s.fget .PORT_STATUS_STANDS_FOR 0 (10 + spare) = 15) : s.releaseSpare spare = s := if_pos idle

/-- The port's own lane takes over again where the spare had replaced it. -/
theorem releaseSpare_of_standing (stands : s.fget .PORT_STATUS_STANDS_FOR 0 (10 + spare) ≠ 15) :
    s.releaseSpare spare =
      if (spareIdle s (10 + spare)).laneState (s.fget .PORT_STATUS_STANDS_FOR 0 (10 + spare)) = 6 then
        (spareIdle s (10 + spare)).retrain (s.fget .PORT_STATUS_STANDS_FOR 0 (10 + spare)) else spareIdle s (10 + spare) := by
  have enabled : (standingFor (s.setLane (10 + spare) 0) (10 + spare) 15).dval 0x6001 2 0x0FFF = s.dval 0x6001 2 0x0FFF := by
    rw [dval_standingFor, dval_setLane]
  unfold State.releaseSpare
  dsimp only
  rw [if_neg stands, ← standingFor, enabled, ← spareIdle]

theorem standsFor_spareIdle (l : Nat) : (spareIdle s l).fget .PORT_STATUS_STANDS_FOR 0 l = 15 := by
  have idle := standsFor_standingFor (s.setLane l 0) (l := l) (p := 15) (by decide)
  unfold spareIdle
  split
  · exact idle
  · exact (fget_setLane_row _ (by decide)).trans idle

theorem laneState_spareIdle_ne {l k : Nat} (hl : l < 12) (hk : k < 12) (h : k ≠ l) :
    (spareIdle s l).laneState k = s.laneState k := by
  have kept := (laneState_standingFor (s.setLane l 0) hl hk 15).trans (laneState_setLane_ne s hl hk h)
  unfold spareIdle
  split
  · exact kept
  · exact (laneState_setLane_ne _ hl hk h).trans kept

theorem dval_spareIdle (l x y d : Nat) : (spareIdle s l).dval x y d = s.dval x y d := by
  unfold spareIdle
  split
  · rw [dval_standingFor, dval_setLane]
  · rw [dval_setLane, dval_standingFor, dval_setLane]

theorem standsFor_releaseSpare (hs : spare < 2) : (s.releaseSpare spare).fget .PORT_STATUS_STANDS_FOR 0 (10 + spare) = 15 := by
  by_cases idle : s.fget .PORT_STATUS_STANDS_FOR 0 (10 + spare) = 15
  · rw [releaseSpare_of_idle s idle, idle]
  · rw [releaseSpare_of_standing s idle]
    have number : s.fget .PORT_STATUS_STANDS_FOR 0 (10 + spare) < 16 := fget_lt ..
    split
    · exact (fget_retrain _ fun st => standsFor_setLane _ (by omega) number st).trans (standsFor_spareIdle ..)
    · exact standsFor_spareIdle ..

/-- The replaced lane of a port may train again. -/
theorem laneState_releaseSpare (hs : spare < 2) {o : Nat} (port : o = s.fget .PORT_STATUS_STANDS_FOR 0 (10 + spare))
    (ho : o < 10) (off : s.laneState o = 6) :
    (s.releaseSpare spare).laneState o = if bit (s.dval 0x6001 2 0x0FFF) o then 0 else 6 := by
  have kept : (spareIdle s (10 + spare)).laneState o = 6 :=
    (laneState_spareIdle_ne s (by omega) (by omega) (by omega)).trans off
  rw [releaseSpare_of_standing s (by omega), ← port, if_pos kept, laneState_retrain, dval_spareIdle]

/-! ### Requests (R313) -/

/-- No request is latched. -/
def unlatched (s : State) : State := { s with fab := { s.fab with spareReq := [] } }

/-- A request is latched after the others. -/
def latched (s : State) (r : Option Nat × Nat) : State := { s with fab := { s.fab with spareReq := s.fab.spareReq ++ [r] } }

variable {s}

theorem substitute_of_assign (one : s.fab.spareReq = [(some port, spare)]) :
    s.substitute = (unlatched s).assignSpare port spare := by
  rw [State.substitute, one]
  rfl

theorem substitute_of_release (one : s.fab.spareReq = [(none, spare)]) : s.substitute = (unlatched s).releaseSpare spare := by
  rw [State.substitute, one]
  rfl

theorem substitute_of_none (none : s.fab.spareReq = []) : s.substitute = s := by
  rw [State.substitute, none]
  show { s with fab := { s.fab with spareReq := [] } } = s
  rw [← none]

theorem requestSpare_eq (r : Option Nat × Nat) :
    s.requestSpare r = if s.job.current.isSome then latched s r else (latched s r).substitute := rfl

theorem spareReq_latched (none : s.fab.spareReq = []) (r : Option Nat × Nat) : (latched s r).fab.spareReq = [r] := by
  rw [latched, none]
  rfl

end

/-! ### FabricPortEnable (R311) -/

/-- FabricPortEnable acts on one lane. -/
def portEnabled (v : Nat) (s : State) (l : Nat) : State :=
  if !bit v l then s.setLane l 6
  else if (s.laneState l = 6 || (s.laneState l = 4 && !bit (s.dval 0x6001 2 0x0FFF) l)) && (10 ≤ l || s.carrier l = l) then
    (s.setLane l 0).modLane l fun x => { x with fails := 0 }
  else s

section
variable {s : State} {l k v : Nat}

/-- What no state of the lane changes is kept. -/
theorem portEnabled_keeps {g : Fld} {c i j : Nat} (set : ∀ st, (s.setLane l st).fget g c i j = s.fget g c i j) :
    (portEnabled v s l).fget g c i j = s.fget g c i j := by
  unfold portEnabled
  split
  · exact set 6
  · split
    · exact set 0
    · rfl

theorem laneState_portEnabled_ne (hl : l < 12) (hk : k < 12) (h : k ≠ l) : (portEnabled v s l).laneState k = s.laneState k :=
  portEnabled_keeps fun _ => laneState_setLane_ne s hl hk h

theorem carrier_portEnabled (hl : l < 12) (p : Nat) : (portEnabled v s l).carrier p = s.carrier p := by
  unfold State.carrier
  rw [portEnabled_keeps fun _ => fget_setLane_lane s hl (by decide) (by decide) (by decide),
    portEnabled_keeps fun _ => fget_setLane_lane s hl (by decide) (by decide) (by decide)]

theorem laneState_portEnabled_off (off : bit v l = false) : (portEnabled v s l).laneState l = 6 := by
  rw [portEnabled, off]
  exact laneState_setLane s (by decide)

theorem laneState_portEnabled_on (on : bit v l = true) (off : s.laneState l = 6) (own : 10 ≤ l ∨ s.carrier l = l) :
    (portEnabled v s l).laneState l = 0 := by
  rw [portEnabled, on, off]
  simp only [Bool.not_true, Bool.false_eq_true, if_false, decide_true, Bool.true_or, Bool.true_and, Bool.or_eq_true,
    decide_eq_true_eq, own, if_true]
  exact laneState_setLane s (by decide)

theorem portEnabled_of_running (on : bit v l = true) (on' : s.laneState l ≠ 6) (good : s.laneState l ≠ 4) :
    portEnabled v s l = s := by
  simp [portEnabled, on, on', good]

variable (hl : l < 12)
include hl

theorem laneState_applyPortEnable_off (off : bit v l = false) : (s.applyPortEnable v).laneState l = 6 :=
  foldl_range_visit (g := portEnabled v) (A := fun _ => True) (B := fun t : State => t.laneState l = 6) hl
    (fun _ _ _ _ _ => trivial)
    (fun _ _ => laneState_portEnabled_off off)
    (fun _ _ hk h now => (laneState_portEnabled_ne hk hl h.symm).trans now) trivial

theorem laneState_applyPortEnable_on (on : bit v l = true) (off : s.laneState l = 6) (own : 10 ≤ l ∨ s.carrier l = l) :
    (s.applyPortEnable v).laneState l = 0 := by
  refine foldl_range_visit (g := portEnabled v) (A := fun t : State => t.laneState l = 6 ∧ (10 ≤ l ∨ t.carrier l = l))
    (B := fun t : State => t.laneState l = 0) hl ?_ (fun _ now => laneState_portEnabled_on on now.1 now.2)
    (fun _ _ hk h now => (laneState_portEnabled_ne hk hl h.symm).trans now) ⟨off, own⟩
  intro t k hk h now
  exact ⟨(laneState_portEnabled_ne hk hl h.symm).trans now.1, by rw [carrier_portEnabled hk]; exact now.2⟩

theorem laneState_applyPortEnable_running (on : bit v l = true) (on' : s.laneState l ≠ 6) (good : s.laneState l ≠ 4) :
    (s.applyPortEnable v).laneState l = s.laneState l :=
  foldl_range_visit (g := portEnabled v) (A := fun t : State => t.laneState l = s.laneState l)
    (B := fun t : State => t.laneState l = s.laneState l) hl
    (fun _ _ hk h now => (laneState_portEnabled_ne hk hl h.symm).trans now)
    (fun _ now => (congrArg (State.laneState · l) (portEnabled_of_running on (now ▸ on') (now ▸ good))).trans now)
    (fun _ _ hk h now => (laneState_portEnabled_ne hk hl h.symm).trans now) rfl

end

end Sys2Proof.Proofs
end

section
/-! PROOFS. Discovery, the module's address, FabricPortEnable and spare requests as they are commanded (R311 to R313, R320,
R321). -/

namespace Sys2Proof.Proofs

open Sys2Proof Sys2Proof.Machine Sys2Proof.Laws

/-! ### Writes of scalar entries -/

section
variable {s : State} {p : DPath} {i : Instr} {index sub : Nat} {e : DEnt} {v : List Byte}

/-- A write that its entry refuses with STATE changes nothing. -/
theorem pathWrite_of_state (may : s.pathMay p i) (found : findEntry index sub = some e) (plain : index ∉ ownPathRule)
    (refused : s.writeEntry e v = (dState, s)) :
    s.pathWrite p index sub v = s.badReply p index sub v (if e.acc = .wo then e.typ.size else s.entrySize e) 7 := by
  obtain ⟨he, -⟩ := findEntry_names found
  simp only [ownPathRule, List.mem_cons, List.not_mem_nil, or_false, not_or] at plain
  obtain ⟨h₁, h₂, h₃, h₄⟩ := plain
  have serving : s.serving = true := may.2.1
  simp only [State.pathWrite, State.arrives, serving, if_true, State.serveOne, Bool.false_eq_true, if_false, State.serveWhole,
    found]
  rw [mayWrite_of_pathMay may (he ▸ h₄), if_pos rfl, writeFrom_plain (he ▸ h₁), refused, after_plain h₂ h₃]
  rfl

/-- A number that its entry's type and range hold is written as such. -/
theorem writeEntry_scalar {n : Nat} (plain : e.index ≠ 0x1011) (number : ¬(e.typ = .domain ∨ e.typ = .string))
    (small : n < 256 ^ e.typ.size) (fits : e.fits n = true) : s.writeEntry e (bytesOf e.typ.size n) = s.writeScalar e n := by
  have value : natOf (bytesOf e.typ.size n) = n := by rw [natOf_bytesOf, Nat.mod_eq_of_lt small]
  rw [State.writeEntry, if_neg plain, State.writeValue, if_neg number, bytesOf_length, if_neg (not_not.2 rfl), value, fits]
  rfl

end

/-! ### The module's address (R320) -/

section
variable {s : State} {p : DPath} {v : Nat}

/-- The FabricAddress entry. -/
def addressEntry : DEnt := ⟨0x6000, 1, .u16, .rw, 0xFFFF, .addr⟩

section
variable (valid : v < 16384 ∨ v = 0xFFFF)
include valid

theorem writeEntry_address : s.writeEntry addressEntry (bytesOf 2 v) =
    if s.inStep then (dState, s) else (dOk, s.setAddress v) := by
  refine (writeEntry_scalar (e := addressEntry) (by decide) (by decide) ?_ ?_).trans rfl
  · show v < 65536
    omega
  · simpa [DEnt.fits, addressEntry, Rng.ok] using valid

theorem exec_fabricAddressWrite (may : s.pathMay p (.fabricAddressWrite p v)) : exec (.fabricAddressWrite p v) s = .next
    (if s.inStep then s.badReply p 0x6000 1 (bytesOf 2 v) 2 7 else (s.setAddress v).okReply p 0x6000 1 (bytesOf 2 v) 2) := by
  have written := writeEntry_address (s := s) valid
  refine exec_of_gate may.1 rfl ?_
  split at written
  · next step => rw [if_pos step]; exact pathWrite_of_state may (e := addressEntry) (by decide) (by decide) written
  · next step => rw [if_neg step]; exact pathWrite_of_ok may (e := addressEntry) (by decide) (by decide) written

theorem address_setAddress : (s.setAddress v).dval 0x6000 1 0xFFFF = v ∧ (s.setAddress v).fget .FABRIC_STATUS_ADDRESS = v ∧
    (s.setAddress v).fget .FABRIC_STATUS_ADDRESS_VALID = b2n (v ≠ 0xFFFF) := by
  refine ⟨dval_setDval .., ?_, ?_⟩
  · rw [State.setAddress, fget_fset_row _ (by decide), fget_fset _ _ _ _ _ _ (by decide)]
    exact Nat.mod_eq_of_lt (show v < 65536 by omega)
  · rw [State.setAddress, fget_fset _ _ _ _ _ _ (by decide)]
    exact Nat.mod_eq_of_lt (by unfold b2n; split <;> decide)

end

/-! ### FabricPortEnable (R311) -/

/-- The FabricPortEnable entry. -/
def enableEntry : DEnt := ⟨0x6001, 2, .u16, .rws, 0xFFF, .le 0 4095⟩

theorem exec_fabricPortEnable (small : v < 4096) (may : s.pathMay p (.fabricPortEnable p v)) :
    exec (.fabricPortEnable p v) s = .next
      (((s.applyPortEnable v).setDval 0x6001 2 v).okReply p 0x6001 2 (bytesOf 2 v) 2) := by
  have written : s.writeEntry enableEntry (bytesOf 2 v) = (dOk, (s.applyPortEnable v).setDval 0x6001 2 v) := by
    refine (writeEntry_scalar (e := enableEntry) (by decide) (by decide) ?_ ?_).trans rfl
    · show v < 65536
      omega
    · simpa [DEnt.fits, enableEntry, Rng.ok] using Nat.le_of_lt_succ small
  exact exec_of_gate may.1 rfl (pathWrite_of_ok may (e := enableEntry) (by decide) (by decide) written)

/-! ### Spare requests (R312, R313) -/

/-- The SpareRequest entry. -/
def spareEntry : DEnt := ⟨0x6001, 3, .u8, .wo, 0, .any⟩

theorem writeEntry_spare {n : Nat} (small : n < 256) (good : bits n 5 2 = 0) (port : bit n 7 = true ∨ bits n 0 4 < 10) :
    s.writeEntry spareEntry (bytesOf 1 n) =
      if bit n 7 then (dOk, s.requestSpare (none, bits n 4 1))
      else if s.spareAllowed (bits n 0 4) (bits n 4 1) then (dOk, s.requestSpare (some (bits n 0 4), bits n 4 1))
      else (dState, s) := by
  refine (writeEntry_scalar (e := spareEntry) (by decide) (by decide) small rfl).trans ?_
  show (if bits n 5 2 ≠ 0 ∨ (!bit n 7 ∧ 10 ≤ bits n 0 4) then (dRange, s) else _) = _
  rw [if_neg]
  rintro (bad | ⟨off, high⟩)
  · exact bad good
  · obtain on | low := port
    · simp [on] at off
    · omega

section
variable {port spare : Nat} (hs : spare < 2)

theorem spareRequest_bits (hp : port < 10) (hs : spare < 2) : bits (port + 16 * spare) 5 2 = 0 ∧
    bit (port + 16 * spare) 7 = false ∧ bits (port + 16 * spare) 0 4 = port ∧ bits (port + 16 * spare) 4 1 = spare := by
  have all : ∀ p < 10, ∀ k < 2, bits (p + 16 * k) 5 2 = 0 ∧ bit (p + 16 * k) 7 = false ∧ bits (p + 16 * k) 0 4 = p ∧
      bits (p + 16 * k) 4 1 = k := by decide
  exact all port hp spare hs

include hs

theorem releaseRequest_bits : bits (128 + 16 * spare) 5 2 = 0 ∧ bit (128 + 16 * spare) 7 = true ∧
    bits (128 + 16 * spare) 4 1 = spare := by
  have all : ∀ k < 2, bits (128 + 16 * k) 5 2 = 0 ∧ bit (128 + 16 * k) 7 = true ∧ bits (128 + 16 * k) 4 1 = k := by decide
  exact all spare hs

theorem exec_spareRequestRelease (may : s.pathMay p (.spareRequestRelease p spare)) :
    exec (.spareRequestRelease p spare) s = .next
      ((s.requestSpare (none, spare)).okReply p 0x6001 3 (bytesOf 1 (128 + 16 * spare)) 1) := by
  obtain ⟨good, release, number⟩ := releaseRequest_bits hs
  have written := writeEntry_spare (s := s) (n := 128 + 16 * spare) (by omega) good (.inl release)
  rw [release, if_pos rfl, number] at written
  refine exec_of_gate may.1 rfl ?_
  rw [Nat.mod_eq_of_lt hs]
  exact pathWrite_of_ok may (e := spareEntry) (by decide) (by decide) written

theorem exec_spareRequestAssign (hp : port < 10) (may : s.pathMay p (.spareRequestAssign p port spare)) :
    exec (.spareRequestAssign p port spare) s = .next (if s.spareAllowed port spare then
      (s.requestSpare (some port, spare)).okReply p 0x6001 3 (bytesOf 1 (port + 16 * spare)) 1
      else s.badReply p 0x6001 3 (bytesOf 1 (port + 16 * spare)) 1 7) := by
  obtain ⟨good, assign, number, number'⟩ := spareRequest_bits hp hs
  have written := writeEntry_spare (s := s) (n := port + 16 * spare) (by omega) good (.inr (number.symm ▸ hp))
  rw [assign, if_neg Bool.false_ne_true, number, number'] at written
  refine exec_of_gate may.1 rfl ?_
  rw [Nat.mod_eq_of_lt hs, Nat.mod_eq_of_lt (show port < 16 by omega)]
  split at written
  · next allowed => rw [if_pos allowed]; exact pathWrite_of_ok may (e := spareEntry) (by decide) (by decide) written
  · next refused => rw [if_neg refused]; exact pathWrite_of_state may (e := spareEntry) (by decide) (by decide) written

end

end

/-- Settles O45: the commands of discovery, the address, enabled ports and spares complete. -/
theorem discoveryAndSparesComplete : Obligations.DiscoveryAndSparesComplete := by
  unfold Obligations.DiscoveryAndSparesComplete
  refine fun s p => ⟨?_, ?_, ?_, ?_, ?_, ?_, ?_⟩
  · exact fun lane reply crosses => exec_of_gate crosses rfl rfl
  · refine fun lane body crosses => exec_of_gate crosses rfl ?_
    by_cases up : s.laneUp lane = true
    · rw [if_pos up, State.takeReply]
      exact if_congr (by simp [up]) rfl rfl
    · rw [if_neg up, if_neg fun h => up h.1]
  · intro v may valid
    have written := exec_fabricAddressWrite valid may
    refine ⟨fun step => ?_, fun step => ?_⟩
    · rw [step, if_neg Bool.false_ne_true] at written
      obtain ⟨entry, address, shown⟩ := address_setAddress (s := s) valid
      exact ⟨_, written, entry, address, shown, rfl⟩
    · rw [step, if_pos rfl] at written
      exact written
  · intro v l may small hl
    exact ⟨_, exec_fabricPortEnable small may, dval_setDval .., laneState_applyPortEnable_off hl,
      laneState_applyPortEnable_on hl, laneState_applyPortEnable_running hl⟩
  · intro port spare may hp hs
    have written := exec_spareRequestAssign hs hp may
    refine ⟨fun refused => ?_, fun allowed => ?_, fun allowed idle none => ?_⟩
    · rwa [refused, if_neg Bool.false_ne_true] at written
    · rwa [allowed, if_pos rfl, requestSpare_eq] at written
    · rw [allowed, if_pos rfl, requestSpare_eq, idle, if_neg (by decide),
        substitute_of_assign (spareReq_latched none _)] at written
      exact ⟨_, written, standsFor_assignSpare _ hp, laneState_assignSpare_port _ hp hs, spareReq_assignSpare ..,
        laneState_assignSpare_spare ..⟩
  · intro spare may hs
    have written := exec_spareRequestRelease hs may
    refine ⟨written, fun idle none => ?_⟩
    rw [requestSpare_eq, idle, if_neg (by decide), substitute_of_release (spareReq_latched none _)] at written
    exact ⟨_, written, standsFor_releaseSpare _ hs, fun o port ho off => laneState_releaseSpare (unlatched _) hs port ho off⟩
  · intro crosses
    have acts : exec .spareSubstitution s = .next (if s.job.current.isSome then s else s.substitute) :=
      exec_of_gate crosses rfl rfl
    refine ⟨acts, fun idle none => ?_, fun port spare idle one hp hs => ?_⟩
    · rwa [idle, if_neg (by decide), substitute_of_none none] at acts
    · rw [idle, if_neg (by decide), substitute_of_assign one] at acts
      exact ⟨_, acts, spareReq_assignSpare .., standsFor_assignSpare _ hp, laneState_assignSpare_port _ hp hs⟩

end Sys2Proof.Proofs
end

section
/-! PROOFS. A message that waits for the PHY clocks (R458, R460): MESSAGE_DELIVER needs them beside the hub's, so that the hub's
clock alone does not complete the frame commands. -/

namespace Sys2Proof.Proofs

open Sys2Proof Sys2Proof.Machine Sys2Proof.Laws

/-- The PHY clock of stack 0 is stopped and every other clock runs; of the connection with module 9 nothing has come. -/
def phyStopped : State := { startup := { offPlls := [9] }, fab := { ctxs := [(0, { peer := 9 })] } }

/-- The delivery of a message waits in its crossing until the PHY clock runs again. -/
theorem exec_messageDeliver_phyStopped :
    exec (.messageDeliver 0 4) phyStopped = .next (phyStopped.hold (.messageDeliver 0 4)) := by
  show execMessageDeliver 0 4 phyStopped = _
  rw [execMessageDeliver, clocked_of_held phyStopped (by decide)]

/-- Refutes O43: with the hub's clock running and one PHY clock stopped, MESSAGE_DELIVER is held in its crossing, where the
statement has it leave the state as it is because the message is not complete. -/
theorem not_frameCommandsComplete : ¬ Obligations.FrameCommandsComplete := by
  unfold Obligations.FrameCommandsComplete
  intro h
  obtain ⟨-, -, -, -, -, deliver⟩ := h phyStopped (by decide)
  obtain ⟨-, incomplete, -⟩ := deliver 0 4 { peer := 9 } (by decide) rfl rfl (by decide)
  have unchanged : phyStopped.hold (.messageDeliver 0 4) = phyStopped := by
    injection exec_messageDeliver_phyStopped.symm.trans (incomplete (by decide))
  exact absurd (congrArg (fun t => t.startup.held.length) unchanged) (by decide)

end Sys2Proof.Proofs
end

section
/-! PROOFS. The general check-value units (R381 to R388): a command touches a unit's GU_CTRL, GU_STATUS, GU_COUNT or RESULT, so
the settings that form its check values are read as they were. -/

namespace Sys2Proof.Proofs

open Sys2Proof.Machine Sys2Proof.Laws

/-! ### A unit and the settings it reads (R381, R382, R386) -/

section
variable (s : State) (u : Nat)

@[simp] theorem gu_modGu (f : Gu → Gu) : (s.modGu u f).gu u = f (s.gu u) := get_put_same ..

@[simp] theorem gu_fset (g : Fld) (v c i j : Nat) : (s.fset g v c i j).gu u = s.gu u := rfl

@[simp] theorem gu_fcount (g : Fld) (n c i j : Nat) : (s.fcount g n c i j).gu u = s.gu u := by
  rw [State.gu, fcount_gus, State.gu]

theorem fget_modGu (f : Gu → Gu) (g : Fld) (c i j : Nat) : (s.modGu u f).fget g c i j = s.fget g c i j := rfl

end

/-- `t` holds the memory of `s` and every register of it at another offset than `x`. -/
structure KeepsBut (x : Nat) (s t : State) : Prop where
  mem : t.mem = s.mem
  fget : ∀ (f : Fld) (c i : Nat), f.addr i 0 % 65536 ≠ x → t.fget f c i = s.fget f c i

namespace KeepsBut

theorem regWrite (s : State) (sec : Sec) (inst v : Nat) {x : Nat} (hx : x % 65536 = x) :
    KeepsBut x s (s.regWrite sec inst x v) where
  mem := (regWrite_stores s sec inst x v).mem_eq
  fget f c i other := by
    have key : regKey f.sec c (f.addr i 0) ≠ regKey sec inst x := fun same => other ((regKey_inj same).2.2.trans hx)
    rw [State.fget, (regWrite_stores s sec inst x v).rword_ne key, State.fget]

section
variable {x u : Nat} {s t : State} (k : KeepsBut x s t)
include k

theorem fset {g : Fld} {i j : Nat} (place : g.addr i j % 65536 = x) (v c : Nat) : KeepsBut x s (t.fset g v c i j) where
  mem := k.mem
  fget f d n other := (fget_fset_off _ _ _ _ _ _ _ _ _ _ fun same => other (same.trans place)).trans (k.fget f d n other)

/-- The RANGE lies above GU_STATUS. -/
theorem guRange (low : x ≤ 0xC) : t.guRange u = s.guRange u := by
  have above : ∀ f : Fld, 0xC < f.addr 0 0 % 65536 → t.fget f u = s.fget f u :=
    fun f h => k.fget f u 0 (Nat.lt_of_le_of_lt low h).ne'
  unfold State.guRange State.gu64 State.load
  rw [k.mem, above _ (by decide), above _ (by decide), above _ (by decide), above _ (by decide)]

end

section
variable {u : Nat} {s t : State} (k : KeepsBut 0xC s t)
include k

theorem guSet : t.guSet u = s.guSet u := by
  have kept : ∀ f : Fld, f.addr 0 0 % 65536 ≠ 0xC → t.fget f u = s.fget f u := fun f h => k.fget f u 0 h
  simp (disch := decide) only [State.guSet, State.gu64, State.fon, kept]

theorem guFold (a q : Nat) : t.guFold u a q = s.guFold u a q := by
  have kept : ∀ f : Fld, f.addr 0 0 % 65536 ≠ 0xC → t.fget f u = s.fget f u := fun f h => k.fget f u 0 h
  have words : (List.range 4).foldl (fun a i => a + 2 ^ (32 * i) * t.fget .GU_FOLD_VALUE u i) 0 =
      (List.range 4).foldl (fun a i => a + 2 ^ (32 * i) * s.fget .GU_FOLD_VALUE u i) 0 :=
    List.foldl_ext _ _ _ fun a i hi => by rw [k.fget _ u i (by revert i; decide)]
  simp (disch := decide) only [State.guFold, words, kept]

end

end KeepsBut

/-- Without a fold nothing is XORed in and nothing fed ahead (R382). -/
theorem guFold_of_none {s : State} {u : Nat} (none : s.fget .GU_CTRL_FOLD_MODE u = 0) (a q : Nat) :
    s.guFold u a q = (0, []) := by
  unfold State.guFold
  simp only [none]

/-! ### START and STOP (R387, R388) -/

/-- A unit whose settings are in place has been armed. -/
def guArmed (s : State) (u : Nat) : State :=
  ((s.fset .GU_STATUS_BUSY 1 u).fset .GU_COUNT_RESULTS 0 u).modGu u fun g =>
    { g with items := 0, cur := [], due := if s.fget .GU_SNOOP_SOURCE u = 5 then [s.guRange u] else [] }

theorem fget_guArmed {s : State} {u : Nat} {g : Fld} (busy : fldsApart .GU_STATUS_BUSY 0 0 g 0 0 = true)
    (results : fldsApart .GU_COUNT_RESULTS 0 0 g 0 0 = true) : (guArmed s u).fget g u = s.fget g u := by
  rw [guArmed, fget_modGu, fget_fset_apart _ results, fget_fset_apart _ busy]

theorem busy_guArmed (s : State) (u : Nat) : (guArmed s u).fget .GU_STATUS_BUSY u = 1 := by
  rw [guArmed, fget_modGu, fget_fset_apart _ (by decide)]
  exact fget_fset _ _ _ _ _ _ (by decide)

theorem results_guArmed (s : State) (u : Nat) : (guArmed s u).fget .GU_COUNT_RESULTS u = 0 := by
  rw [guArmed, fget_modGu]
  exact fget_fset _ _ _ _ _ _ (by decide)

theorem mem_guArmed (s : State) (u : Nat) : (guArmed s u).mem = s.mem := rfl

theorem gu_guArmed (s : State) (u : Nat) : (guArmed s u).gu u =
    { s.gu u with items := 0, cur := [], due := if s.fget .GU_SNOOP_SOURCE u = 5 then [s.guRange u] else [] } := by
  rw [guArmed, gu_modGu, gu_fset, gu_fset]

section
variable {s : State} {u : Nat} (yours : guYours u = true)
include yours

theorem guArm_of_busy (busy : s.fon .GU_STATUS_BUSY u = true) (c : Nat) :
    s.guArm u c = s.fset .GU_STATUS_WRITE_IGNORED 1 u := by
  rw [State.guArm, yours, if_neg (by decide), if_pos busy]

theorem guArm_of_bad {c : Nat} (idle : s.fon .GU_STATUS_BUSY u = false) (bad : (s.regWrite .gu u 0 c).guBad u = true) :
    s.guArm u c = (s.regWrite .gu u 0 c).fset .GU_STATUS_CONFIG_BAD 1 u := by
  rw [State.guArm, yours, if_neg (by decide), idle, if_neg (by decide)]
  exact if_pos bad

theorem guArm_of_good {c : Nat} (idle : s.fon .GU_STATUS_BUSY u = false)
    (good : (s.regWrite .gu u 0 c).guBad u = false) : s.guArm u c = guArmed (s.regWrite .gu u 0 c) u := by
  rw [State.guArm, yours, if_neg (by decide), idle, if_neg (by decide)]
  exact if_neg (by rw [good]; decide)

theorem guDisarm_eq :
    s.guDisarm u = (s.fset .GU_STATUS_BUSY 0 u).modGu u fun g => { g with due := [], cur := [] } := by
  rw [State.guDisarm, yours, if_neg (by decide)]

end

/-- GU_CTRL is written before the unit is armed: an RW field of it takes its bits of the value. -/
theorem fget_guCtrl_regWrite (s : State) (u c : Nat) {f : Fld} (sec : f.sec = .gu) (off : f.addr 0 0 = 0)
    (apart : fieldApart .gu 0 f) (rw : f.acc = .rw) : (s.regWrite .gu u 0 c).fget f u = bits c f.lo f.w := by
  have ⟨_, word, _⟩ := apart
  rw [State.fget, sec, off, (regWrite_stores s .gu u 0 c).bits_eq word, bits_afterWrite_of_rw _ _ apart rw]

/-! ### The beginning of an item (R380, R387) -/

/-- The item that begins: a RANGE unit reads its range. -/
def guBegun (s : State) (u : Nat) (it : GuItem) : GuItem := if s.fget .GU_SNOOP_SOURCE u = 5 then s.guRange u else it

/-- The unit has taken the item up. -/
def guBegan (s : State) (u : Nat) (x : GuItem) (rest : List GuItem) : State :=
  (s.draw 1).2.modGu u fun g => { g with due := rest, cur := g.cur ++ [x] }

/-- The unit has left the item out. -/
def guSkipped (s : State) (u : Nat) (rest : List GuItem) : State :=
  ((s.draw 1).2.fset .GU_STATUS_SKIPPED 1 u).modGu u fun g => { g with due := rest }

section
variable {s : State} {u : Nat} (yours : guYours u = true) (crosses : s.crosses (.guItemBegin u) = true)
include crosses

/-- Nothing is due. -/
theorem exec_guItemBegin_of_nil (none : (s.gu u).due = []) : exec (.guItemBegin u) s = .next s := by
  refine exec_of_gate crosses rfl ?_
  split
  · rfl
  · dsimp only
    rw [none]

include yours

/-- An item that is due is skipped only by a unit of many sources, where the buffer cannot hold it whole. -/
theorem exec_guItemBegin_of_due (busy : s.fon .GU_STATUS_BUSY u = true) {it : GuItem} {rest : List GuItem}
    (due : (s.gu u).due = it :: rest) : exec (.guItemBegin u) s = .next
      (if s.guMany u && decide (snoopBuffer < (s.gu u).buffered + (guBegun s u it).data.length) &&
          Config.analogFlag s.fresh then guSkipped s u rest else guBegan s u (guBegun s u it) rest) := by
  refine exec_of_gate crosses rfl ?_
  rw [yours, busy, if_neg (by decide)]
  dsimp only
  rw [due]
  rfl

end

/-! ### The end of an item (R383, R387) -/

/-- The oldest item has left the unit. -/
def guDropped (s : State) (u : Nat) (rest : List GuItem) : State := s.modGu u fun g => { g with cur := rest }

/-- The oldest item has ended; a RANGE disarms the unit with it. -/
def guEnded (s : State) (u : Nat) (rest : List GuItem) : State :=
  if decide ((guDropped s u rest).fget .GU_SNOOP_SOURCE u = 5) then (guDropped s u rest).fset .GU_STATUS_BUSY 0 u
  else guDropped s u rest

section
variable (s : State) (u : Nat) (rest : List GuItem)

theorem fget_guDropped (g : Fld) (c i j : Nat) : (guDropped s u rest).fget g c i j = s.fget g c i j := rfl

theorem keepsBut_guEnded : KeepsBut 0xC s (guEnded s u rest) := by
  have dropped : KeepsBut 0xC s (guDropped s u rest) := ⟨rfl, fun _ _ _ _ => rfl⟩
  unfold guEnded
  split
  · exact dropped.fset rfl 0 u
  · exact dropped

theorem cur_guEnded : ((guEnded s u rest).gu u).cur = rest := by
  unfold guEnded
  split
  · rw [gu_fset, guDropped, gu_modGu]
  · rw [guDropped, gu_modGu]

theorem fget_guEnded {g : Fld} (busy : fldsApart .GU_STATUS_BUSY 0 0 g 0 0 = true) :
    (guEnded s u rest).fget g u = s.fget g u := by
  unfold guEnded
  split
  · rw [fget_fset_apart _ busy, fget_guDropped]
  · rfl

theorem busy_guEnded_of_range (range : s.fget .GU_SNOOP_SOURCE u = 5) :
    (guEnded s u rest).fget .GU_STATUS_BUSY u = 0 := by
  rw [guEnded, if_pos (decide_eq_true ((fget_guDropped ..).trans range))]
  exact fget_fset _ _ _ _ _ _ (by decide)

end

section
variable {s : State} {u : Nat} (crosses : s.crosses (.guItemEnd u) = true)
include crosses

/-- Nothing has begun. -/
theorem exec_guItemEnd_of_nil (none : (s.gu u).cur = []) : exec (.guItemEnd u) s = .next s := by
  refine exec_of_gate crosses rfl ?_
  rw [none]

variable {it : GuItem} {rest : List GuItem} (cur : (s.gu u).cur = it :: rest)
include cur

/-- An aborted item has no result. -/
theorem exec_guItemEnd_of_aborted (aborted : it.aborted = true) :
    exec (.guItemEnd u) s = .next ((guEnded s u rest).fset .GU_STATUS_ABORTED 1 u) := by
  refine exec_of_gate crosses rfl ?_
  rw [cur]
  exact if_pos aborted

/-- Any other item gives the check value over its bytes, a RANGE where it has not been written meanwhile. -/
theorem exec_guItemEnd_of_whole (whole : it.aborted = false)
    (same : s.fget .GU_SNOOP_SOURCE u ≠ 5 ∨ s.guRange u = it) :
    exec (.guItemEnd u) s = .next ((guEnded s u rest).guResult u (crcFold (s.guSet u)
      (s.guFold u it.addr (it.seq % 2 ^ 32)).1 (s.guFold u it.addr (it.seq % 2 ^ 32)).2 it.data)) := by
  have k := keepsBut_guEnded s u rest
  rw [← k.guSet, ← k.guFold]
  refine exec_of_gate crosses rfl ?_
  rw [cur]
  refine (if_neg (by rw [whole]; decide)).trans (if_neg ?_)
  show ¬(decide (s.fget .GU_SNOOP_SOURCE u = 5) && decide ((guEnded s u rest).guRange u ≠ it)) = true
  rw [k.guRange (by decide)]
  rcases same with other | same
  · simp [other]
  · simp [same]

end

/-! ### A result (R387) -/

/-- A result that is still DONE is lost. -/
def guLost (s : State) (u : Nat) : State := if s.fon .GU_STATUS_DONE u then s.fset .GU_STATUS_OVERRUN 1 u else s

/-- RESULT has taken the value. -/
def guStored (s : State) (u v : Nat) : State :=
  ((guLost s u).fset .GU_RESULT_LO_VALUE v u).fset .GU_RESULT_HI_VALUE (v / 2 ^ 32) u

/-- The result is DONE and counted. -/
def guDone (s : State) (u v : Nat) : State :=
  ((guStored s u v).fset .GU_STATUS_DONE 1 u).fset .GU_COUNT_RESULTS ((guStored s u v).fget .GU_COUNT_RESULTS u + 1) u

section
variable (s : State) (u v : Nat)

/-- A result is stored, DONE and counted; COMPARE may find a mismatch (R387). -/
theorem guResult_cases :
    s.guResult u v = ((guDone s u v).fset .GU_STATUS_MISMATCH 1 u).fcount .GU_COUNT_MISMATCHES 1 u ∨
      s.guResult u v = guDone s u v :=
  ite_eq_or_eq ((guDone s u v).fon .GU_CTRL_COMPARE u = true ∧
    v ≠ (guDone s u v).gu64 u .GU_EXPECT_LO_VALUE .GU_EXPECT_HI_VALUE) _ _

theorem gu_guResult : (s.guResult u v).gu u = s.gu u := by
  have done : (guDone s u v).gu u = s.gu u := by
    simp only [guDone, guStored, gu_fset]
    unfold guLost
    split <;> rfl
  rcases guResult_cases s u v with e | e
  · rw [e, gu_fcount, gu_fset, done]
  · rw [e, done]

section
variable {g : Fld}

/-- COMPARE touches no other field than its own. -/
theorem fget_guResult (flag : fldsApart .GU_STATUS_MISMATCH 0 0 g 0 0 = true)
    (count : fldsApart .GU_COUNT_MISMATCHES 0 0 g 0 0 = true) :
    (s.guResult u v).fget g u = (guDone s u v).fget g u := by
  rcases guResult_cases s u v with e | e
  · rw [e, fget_fcount_apart _ count, fget_fset_apart _ flag]
  · rw [e]

theorem fget_guDone (done : fldsApart .GU_STATUS_DONE 0 0 g 0 0 = true)
    (results : fldsApart .GU_COUNT_RESULTS 0 0 g 0 0 = true) : (guDone s u v).fget g u = (guStored s u v).fget g u := by
  rw [guDone, fget_fset_apart _ results, fget_fset_apart _ done]

theorem fget_guStored (lo : fldsApart .GU_RESULT_LO_VALUE 0 0 g 0 0 = true)
    (hi : fldsApart .GU_RESULT_HI_VALUE 0 0 g 0 0 = true) : (guStored s u v).fget g u = (guLost s u).fget g u := by
  rw [guStored, fget_fset_apart _ hi, fget_fset_apart _ lo]

theorem fget_guLost (overrun : fldsApart .GU_STATUS_OVERRUN 0 0 g 0 0 = true) : (guLost s u).fget g u = s.fget g u := by
  unfold guLost
  split
  · exact fget_fset_apart _ overrun _ _
  · rfl

end

theorem done_guResult : (s.guResult u v).fget .GU_STATUS_DONE u = 1 := by
  rw [fget_guResult _ _ _ (by decide) (by decide), guDone, fget_fset_apart _ (by decide)]
  exact fget_fset _ _ _ _ _ _ (by decide)

theorem resultLo_guResult : (s.guResult u v).fget .GU_RESULT_LO_VALUE u = v % 2 ^ 32 := by
  rw [fget_guResult _ _ _ (by decide) (by decide), fget_guDone _ _ _ (by decide) (by decide), guStored,
    fget_fset_apart _ (by decide)]
  exact fget_fset _ _ _ _ _ _ (by decide)

theorem resultHi_guResult : (s.guResult u v).fget .GU_RESULT_HI_VALUE u = v / 2 ^ 32 % 2 ^ 32 := by
  rw [fget_guResult _ _ _ (by decide) (by decide), fget_guDone _ _ _ (by decide) (by decide), guStored]
  exact fget_fset _ _ _ _ _ _ (by decide)

theorem results_guResult :
    (s.guResult u v).fget .GU_COUNT_RESULTS u = (s.fget .GU_COUNT_RESULTS u + 1) % 65536 := by
  rw [fget_guResult _ _ _ (by decide) (by decide), guDone, fget_guStored _ _ _ (by decide) (by decide),
    fget_guLost _ _ (by decide)]
  exact fget_fset _ _ _ _ _ _ (by decide)

theorem overrun_guResult (done : s.fon .GU_STATUS_DONE u = true) :
    (s.guResult u v).fget .GU_STATUS_OVERRUN u = 1 := by
  rw [fget_guResult _ _ _ (by decide) (by decide), fget_guDone _ _ _ (by decide) (by decide),
    fget_guStored _ _ _ (by decide) (by decide), guLost, if_pos done]
  exact fget_fset _ _ _ _ _ _ (by decide)

theorem busy_guResult : (s.guResult u v).fget .GU_STATUS_BUSY u = s.fget .GU_STATUS_BUSY u := by
  rw [fget_guResult _ _ _ (by decide) (by decide), fget_guDone _ _ _ (by decide) (by decide),
    fget_guStored _ _ _ (by decide) (by decide), fget_guLost _ _ (by decide)]

end

/-! ### The commands -/

/-- START arms an idle unit: its item is the RANGE as it stands, for GU_CTRL alone has been written. -/
theorem guArmed_regWrite_holds (s : State) (u c : Nat) : let t := guArmed (s.regWrite .gu u 0 c) u
    t.fget .GU_STATUS_BUSY u = 1 ∧ t.fget .GU_COUNT_RESULTS u = 0 ∧ (t.gu u).cur = [] ∧ (t.gu u).items = 0 ∧
      (s.fget .GU_SNOOP_SOURCE u ≠ 5 → (t.gu u).due = []) ∧
      (s.fget .GU_SNOOP_SOURCE u = 5 → (t.gu u).due = [s.guRange u]) ∧
      t.fget .GU_CTRL_WIDTH_M1 u = bits c Fld.GU_CTRL_WIDTH_M1.lo Fld.GU_CTRL_WIDTH_M1.w ∧ t.mem = s.mem := by
  have k : KeepsBut 0 s (s.regWrite .gu u 0 c) := .regWrite s .gu u c rfl
  dsimp only
  rw [gu_guArmed, mem_guArmed, k.mem, k.fget _ u 0 (by decide), k.guRange (by decide)]
  refine ⟨busy_guArmed .., results_guArmed .., rfl, rfl, fun other => if_neg other, fun range => if_pos range, ?_, rfl⟩
  rw [fget_guArmed (by decide) (by decide)]
  exact fget_guCtrl_regWrite s u c rfl rfl (fieldApart_iff.2 (by decide)) rfl

/-- Settles O54: each command changes its unit's GU_STATUS, GU_COUNT, RESULT and items, and what it forms a value of are the
settings as they were. -/
theorem checkUnitCommandsComplete : Obligations.CheckUnitCommandsComplete := by
  intro s u mine owned
  have yours : guYours u = true := by simp [guYours, mine, owned]
  refine ⟨fun c crosses => ⟨fun busy => ?_, fun idle bad => ?_, fun idle good => ?_⟩, fun crosses => ?_,
    fun crosses => ⟨fun it rest busy due => ⟨fun fits => ?_, ?_⟩, exec_guItemBegin_of_nil crosses⟩,
    fun crosses => ⟨fun it rest cur => ⟨fun whole same => ?_, fun aborted => ?_⟩, exec_guItemEnd_of_nil crosses⟩,
    guFold_of_none, fun crosses => ?_⟩
  · exact exec_of_gate crosses rfl (guArm_of_busy yours busy _)
  · exact exec_of_gate crosses rfl (guArm_of_bad yours idle bad)
  · exact ⟨_, exec_of_gate crosses rfl (guArm_of_good yours idle good), guArmed_regWrite_holds ..⟩
  · refine ⟨_, exec_of_gate crosses rfl (guDisarm_eq yours), fget_fset _ _ _ _ _ _ (by decide), ?_, ?_, rfl⟩
    · exact congrArg Gu.cur (gu_modGu ..)
    · exact congrArg Gu.due (gu_modGu ..)
  · have held : ¬(s.guMany u && decide (snoopBuffer < (s.gu u).buffered + (guBegun s u it).data.length) &&
        Config.analogFlag s.fresh) = true := by
      rcases fits with single | room
      · simp [single]
      · simp [guBegun, Nat.not_lt.2 room]
    refine ⟨guBegan s u (guBegun s u it) rest, ?_, ?_, ?_, rfl⟩
    · rw [exec_guItemBegin_of_due yours crosses busy due, if_neg held]
    · rw [guBegan, gu_modGu]
      rfl
    · rw [guBegan, gu_modGu]
  · refine ⟨_, exec_guItemBegin_of_due yours crosses busy due, ?_⟩
    split
    · rw [guSkipped, gu_modGu]
      exact ⟨rfl, .inr ⟨rfl, fget_fset _ _ _ _ _ _ (by decide)⟩⟩
    · rw [guBegan, gu_modGu]
      exact ⟨rfl, .inl rfl⟩
  · refine ⟨_, exec_guItemEnd_of_whole crosses cur whole same, done_guResult .., resultLo_guResult ..,
      resultHi_guResult .., ?_, ?_, fun done => overrun_guResult _ _ _ ?_, fun range => ?_⟩
    · rw [results_guResult, fget_guEnded _ _ _ (by decide)]
    · rw [gu_guResult, cur_guEnded]
    · rwa [State.fon, fget_guEnded _ _ _ (by decide)]
    · rw [busy_guResult, busy_guEnded_of_range _ _ _ range]
  · refine ⟨_, exec_guItemEnd_of_aborted crosses cur aborted, fget_fset _ _ _ _ _ _ (by decide), ?_, ?_, ?_⟩
    · rw [gu_fset, cur_guEnded]
    · rw [fget_fset_apart _ (by decide), fget_guEnded _ _ _ (by decide)]
    · rw [fget_fset_apart _ (by decide), fget_guEnded _ _ _ (by decide)]
  · refine ⟨_, exec_of_gate crosses rfl (if_neg (by omega)), rfl, ?_, rfl⟩
    exact congrArg Gu.latched (gu_modGu s u fun g => { g with latched := some (s.fget .GU_RESULT_HI_VALUE u) })

end Sys2Proof.Proofs
end

section
/-! PROOFS. A step with a command in front of its queue (the model's block form). -/

namespace Sys2Proof.Proofs

open Sys2Proof Sys2Proof.Machine Sys2Proof.Laws

-- One proof after another: elaborated side by side, the whole text comes close to the memory its compile may take.
set_option Elab.async false

/-- Settles O1: the queue's front is what `step` looks at first. -/
theorem stepRunsFrontCommand : Obligations.StepRunsFrontCommand := by
  intro c rest s front
  rw [step, front]

end Sys2Proof.Proofs
end

section
/-! PROOFS. The security block (R473, R474, R481 to R483, R393): a request that the firmware serves is answered, a request of a
session acts on that session alone, and one that meets the firmware away waits or is lost by its transport. -/

namespace Sys2Proof.Proofs

open Sys2Proof Sys2Proof.Machine Sys2Proof.Laws

-- One proof after another: elaborated side by side, the whole text comes close to the memory its compile may take.
set_option Elab.async false

section
variable {s : State} {tr : Transport}

/-- A request that crosses while the firmware serves has its meaning. -/
theorem exec_of_served {i : Instr} {f : State → State} {u : State} (crosses : s.crosses i = true)
    (serving : s.serving = true) (gate : exec i s = s.clocked i (.next (s.spdm f))) (meaning : f s = u) :
    exec i s = .next u :=
  exec_of_gate crosses gate ((if_pos serving).trans meaning)

/-- A request that crosses while the firmware is away has no effect. -/
theorem exec_of_unserved {i : Instr} {f : State → State} (crosses : s.crosses i = true) (away : s.serving = false)
    (gate : exec i s = s.clocked i (.next (s.spdm f))) : exec i s = .next s :=
  exec_of_gate crosses gate (if_neg (Bool.eq_false_iff.1 away))

/-! ### One session among those of the module (R482) -/

/-- The sessions with `x` replaced. -/
def sessionsWith (s : State) (x x' : Session) : List Session := s.secure.sessions.map fun y => if y = x then x' else y

theorem mem_sessions_of_find {x : Session} {n : Nat}
    (found : (s.sessionsOf tr).find? (fun y => y.id = n) = some x) : x ∈ s.secure.sessions :=
  List.mem_of_mem_filter (List.mem_of_find?_eq_some found)

theorem length_sessionsWith (x x' : Session) : (sessionsWith s x x').length = s.secure.sessions.length :=
  List.length_map _

theorem mem_sessionsWith {x : Session} (there : x ∈ s.secure.sessions) (x' : Session) : x' ∈ sessionsWith s x x' :=
  List.mem_map.2 ⟨x, there, if_pos rfl⟩

theorem not_mem_sessionsWith {x x' : Session} (other : x' ≠ x) : x ∉ sessionsWith s x x' := by
  rintro here
  obtain ⟨y, -, same⟩ := List.mem_map.1 here
  split at same
  · exact other same
  · next ne => exact ne same

theorem filterMap_replace (l : List Session) (x x' : Session) :
    (l.filterMap fun y => if y = x then some x' else some y) = l.map fun y => if y = x then x' else y := by
  rw [← List.filterMap_eq_map]
  congr 1
  funext y
  exact (apply_ite some ..).symm

theorem filterMap_keep (l : List Session) (x : Session) :
    (l.filterMap fun y => if y = x then some x else some y) = l := by
  rw [filterMap_replace]
  refine (List.map_congr_left fun y _ => ?_).trans (List.map_id l)
  split
  · next same => exact same.symm
  · rfl

theorem filterMap_remove (l : List Session) (x : Session) :
    (l.filterMap fun y => if y = x then none else some y) = l.filter (· ≠ x) := by
  rw [← List.filterMap_eq_filter]
  congr 1
  funext y
  by_cases same : y = x <;> simp [Option.guard, same]

section
variable {x : Session} {n : Nat} (found : (s.sessionsOf tr).find? (fun y => y.id = n) = some x)
include found

/-- A request inside a session changes that session and is answered. -/
theorem exec_inSession {i : Instr} {ready : Bool} {f : Session → Option Session} (crosses : s.crosses i = true)
    (serving : s.serving = true) (gate : exec i s = s.clocked i (.next (s.inSession tr n ready f)))
    (state : x.ready = ready) : exec i s = .next ((s.setSessions (s.secure.sessions.filterMap fun y =>
      if y = x then f x else some y)).answer (.done n)) := by
  refine exec_of_served crosses serving gate ?_
  rw [found]
  exact if_neg (not_not.2 state)

end

/-- A request of a session that is not there is an error. -/
theorem exec_inSession_of_none {n : Nat} (none : (s.sessionsOf tr).find? (fun y => y.id = n) = none) {i : Instr}
    {ready : Bool} {f : Session → Option Session} (crosses : s.crosses i = true) (serving : s.serving = true)
    (gate : exec i s = s.clocked i (.next (s.inSession tr n ready f))) : exec i s = .next (s.answer badRequest) := by
  refine exec_of_served crosses serving gate ?_
  rw [none]

/-! ### Requests and the firmware -/

/-- The requests that go over either transport. -/
def spdmRequest (tr : Transport) (i : Instr) : Prop :=
  i = .getVersion tr ∨ i = .getCapabilities tr ∨ (∃ a, i = .negotiateAlgorithms tr a) ∨ (∃ n, i = .getDigests tr n) ∨
    (∃ n o l, i = .getCertificate tr n o l) ∨ (∃ n b, i = .challenge tr n b) ∨ (∃ n b, i = .getMeasurements tr n b) ∨
    (∃ n, i = .keyExchange tr n) ∨ (∃ n, i = .finish tr n) ∨ (∃ n, i = .heartbeat tr n) ∨ (∃ n, i = .keyUpdate tr n) ∨
    (∃ n, i = .endSession tr n)

/-- A request needs its transport's clocks, and its meaning is the firmware's. -/
theorem exec_spdmRequest {i : Instr} (request : spdmRequest tr i) (s : State) :
    s.clocksOf i = spdmClk tr ∧ ∃ f, exec i s = s.clocked i (.next (s.spdm f)) := by
  obtain rfl | rfl | ⟨a, rfl⟩ | ⟨n, rfl⟩ | ⟨n, o, l, rfl⟩ | ⟨n, b, rfl⟩ | ⟨n, b, rfl⟩ | ⟨n, rfl⟩ | ⟨n, rfl⟩ | ⟨n, rfl⟩ |
    ⟨n, rfl⟩ | ⟨n, rfl⟩ := request <;> exact ⟨rfl, _, rfl⟩

/-- The firmware's part of a DOE crossing is stopped while it is away (R485). -/
theorem flows_doe_of_away (away : s.fon .WIN_STATUS_AVAILABLE = false) : s.flows (spdmClk .doe) = false := by
  simp [State.flows, State.runs, spdmClk, firmwareAway, away]

theorem serving_of_away (away : s.fon .WIN_STATUS_AVAILABLE = false) : s.serving = false := by
  rw [State.serving, away, Bool.false_and]

/-- Measurements are answered with the records of the list that the request names, signed with its nonce (R481). -/
theorem getMeasurements_meaning (crosses : s.flows (spdmClk tr) = true) (serving : s.serving = true) {k : Nat}
    (known : k ≤ 6 ∨ k = 0xFF) (nonce : List Byte) {recs : List Byte}
    (list : (if k = 0 then [] else if k = 0xFF then [1, 2, 3, 4, 5, 6] else [k]).flatMap s.measurement = recs) :
    exec (.getMeasurements tr k nonce) s = .next (s.answer (.measurements recs (sign (recs ++ nonce)))) := by
  refine exec_of_served crosses serving rfl ((if_neg (by omega)).trans ?_)
  dsimp only
  rw [list]

end

/-- IDE keys inside a secured DOE session make the stream secure. -/
def ideSecured (s : State) (stream : Nat) : State :=
  State.fset { s with host := { s.host with
    ide := if stream ∈ s.host.ide then s.host.ide else stream :: s.host.ide
    insecure := s.host.insecure.filter (· ≠ stream) } } .HOST_STATUS_IDE_ACTIVE 1

theorem mem_ide_ideSecured (s : State) (stream : Nat) : stream ∈ (ideSecured s stream).host.ide := by
  show stream ∈ if stream ∈ s.host.ide then s.host.ide else stream :: s.host.ide
  split
  · assumption
  · exact List.mem_cons_self

/-- Settles O60: each request is the firmware's answer behind its transport's clocks, among which the firmware itself
counts for DOE. -/
theorem securityRequestsComplete : Obligations.SecurityRequestsComplete := by
  refine fun s tr => ⟨fun serving crosses => ⟨?_, ?_, fun a known => ?_, fun nonce offset len => ⟨?_, ?_, ?_⟩,
    fun slot nonce offset len other => ⟨?_, ?_, ?_⟩, fun a unknown => ?_, fun k nonce high notAll => ?_, fun nonce => ?_,
    fun k nonce low high => ?_, fun nonce => ?_, fun r room => ?_, fun r full => ?_, fun x found => ⟨fun fresh => ?_,
    fun ready => ⟨?_, ?_, ?_⟩⟩, fun n none => ⟨?_, ?_, ?_, ?_⟩, ?_⟩, fun away i request => ⟨?_, ?_⟩⟩
  · exact exec_of_served crosses serving rfl rfl
  · exact exec_of_served crosses serving rfl rfl
  · exact ⟨_, exec_of_served crosses serving rfl (if_neg (by omega)), get_put_same .., rfl, rfl⟩
  · exact exec_of_served crosses serving rfl rfl
  · refine exec_of_served crosses serving rfl ?_
    simp [List.length_take, List.length_drop]
  · exact exec_of_served crosses serving rfl rfl
  · exact exec_of_served crosses serving rfl (congrArg _ (if_neg other))
  · exact exec_of_served crosses serving rfl (congrArg s.answer (if_pos (.inl other)))
  · exact exec_of_served crosses serving rfl (congrArg _ (if_neg other))
  · exact exec_of_served crosses serving rfl (if_pos (by omega))
  · exact exec_of_served crosses serving rfl (if_pos ⟨high, notAll⟩)
  · exact getMeasurements_meaning crosses serving (.inl (by decide)) nonce rfl
  · refine getMeasurements_meaning crosses serving (.inl high) nonce ?_
    rw [if_neg (by omega), if_neg (by omega), List.flatMap_singleton]
  · exact getMeasurements_meaning crosses serving (.inr rfl) nonce rfl
  · exact ⟨_, exec_of_served crosses serving rfl (if_neg (by omega)), rfl, rfl, rfl, rfl⟩
  · exact exec_of_served crosses serving rfl (if_pos full)
  · have there := mem_sessions_of_find found
    have other : { x with ready := true } ≠ x := fun same => by
      rw [← same] at fresh
      exact Bool.noConfusion fresh
    refine ⟨_, exec_inSession found crosses serving rfl fresh, ?_⟩
    rw [filterMap_replace]
    exact ⟨mem_sessionsWith there _, not_mem_sessionsWith other, length_sessionsWith ..⟩
  · refine (exec_inSession (f := some) (i := .heartbeat tr x.id) found crosses serving rfl ready).trans ?_
    rw [filterMap_keep]
    rfl
  · refine ⟨_, exec_inSession found crosses serving rfl ready, ?_⟩
    rw [filterMap_replace]
    exact ⟨mem_sessionsWith (mem_sessions_of_find found) _, length_sessionsWith ..⟩
  · exact ⟨_, exec_inSession found crosses serving rfl ready, filterMap_remove .., rfl⟩
  · exact exec_inSession_of_none none crosses serving rfl
  · exact exec_inSession_of_none none crosses serving rfl
  · exact exec_inSession_of_none none crosses serving rfl
  · exact exec_inSession_of_none none crosses serving rfl
  · rintro session stream rfl
    refine ⟨fun known secured => ?_, fun refused => ?_⟩
    · refine ⟨_, exec_of_served (u := (ideSecured s stream).answer (.ideKm stream)) crosses serving rfl
        (if_pos ⟨known, secured⟩), mem_ide_ideSecured .., ?_, fget_fset _ _ _ _ _ _ (by decide), rfl⟩
      exact fun here => absurd (List.mem_filter.1 here).2 (by simp)
    · refine exec_of_served crosses serving rfl (if_neg fun secured => ?_)
      obtain high | unsecured := refused
      · exact absurd secured.1 (Nat.not_lt.2 high)
      · exact Bool.eq_false_iff.1 unsecured secured.2
  · rintro rfl
    obtain ⟨clocks, f, gate⟩ := exec_spdmRequest request s
    exact gate.trans (clocked_of_held s (by rw [State.crosses, clocks, flows_doe_of_away away]))
  · rintro rfl crosses
    obtain ⟨clocks, f, gate⟩ := exec_spdmRequest request s
    exact exec_of_unserved (by rwa [State.crosses, clocks]) (serving_of_away away) gate

end Sys2Proof.Proofs
end

section
/-! PROOFS. Firmware images (R478 to R480, R485, R486): what the recovery area, an update, an activation and a rollback commit
leave in the security block. -/

namespace Sys2Proof.Proofs

open Sys2Proof Sys2Proof.Machine Sys2Proof.Laws

-- One proof after another: elaborated side by side, the whole text comes close to the memory its compile may take.
set_option Elab.async false

/-! ### Slots (R479, R480) -/

section
variable (s : State) (i : Nat) (m : Option Image)

theorem slotImage_setSlot : (s.setSlot i m).slotImage i = m := get_put_same ..

theorem slotImage_setSlot_ne {k : Nat} (other : k ≠ i) : (s.setSlot i m).slotImage k = s.slotImage k :=
  get_put_ne _ _ _ _ _ other

end

/-! ### The recovery area (R479) -/

/-- An image of the recovery area runs, stands in slot 0 and is activated; start-up goes on with CONFIG. -/
def recovered (s : State) (m : Image) : State :=
  { s with
    secure := { s.secure with slots := s.secure.slots.put 0 (some m), active := 0, running := 2, image := some m,
                              fallback := false }
    startup := { s.startup with recovery := false, state := 2 } }

theorem slotImage_recovered (s : State) (m : Image) : (recovered s m).slotImage 0 = some m := get_put_same ..

section
variable {s : State} (crosses : s.crosses .recoveryAreaPoll = true)
include crosses

theorem exec_recoveryAreaPoll (waits : s.startup.recovery = true) (good : s.verifies (s.imageAt 0) = true)
    (boot : s.startup.state = 1) : exec .recoveryAreaPoll s = .next (recovered s (s.imageAt 0)) :=
  exec_of_gate crosses rfl ((if_neg (by simp [waits, good])).trans (if_pos boot))

theorem exec_recoveryAreaPoll_of_none (none : s.startup.recovery = false ∨ s.verifies (s.imageAt 0) = false) :
    exec .recoveryAreaPoll s = .next s :=
  exec_of_gate crosses rfl (if_pos (by simpa using none))

end

/-! ### Updates and activation (R480, R486) -/

/-- The FirmwareUpdate and FirmwareActivate entries. -/
def updateEntry : DEnt := ⟨0x9001, 4, .u8, .wo, 0, .le 0 1⟩
def activateEntry : DEnt := ⟨0x9001, 5, .u8, .wo, 0, .le 0 1⟩

section
variable {s : State} {p : DPath} {slot : Nat} (named : slot < 2)
include named

theorem writeEntry_update : s.writeEntry updateEntry (bytesOf 1 slot) = s.firmwareUpdate slot := by
  refine (writeEntry_scalar (e := updateEntry) (by decide) (by decide) (Nat.lt_trans named (by decide)) ?_).trans rfl
  simpa [DEnt.fits, updateEntry, Rng.ok] using Nat.le_of_lt_succ named

theorem writeEntry_activate : s.writeEntry activateEntry (bytesOf 1 slot) = s.firmwareActivate slot := by
  refine (writeEntry_scalar (e := activateEntry) (by decide) (by decide) (Nat.lt_trans named (by decide)) ?_).trans rfl
  simpa [DEnt.fits, activateEntry, Rng.ok] using Nat.le_of_lt_succ named

/-- An update is taken for the slot that does not run, one at a time. -/
theorem exec_firmwareUpdate (may : s.pathMay p (.firmwareUpdate p slot)) : exec (.firmwareUpdate p slot) s = .next
    (if slot = s.secure.running ∨ s.secure.update.isSome = true then s.badReply p 0x9001 4 (bytesOf 1 slot) 1 7
      else (State.updateStatus { s with secure := { s.secure with update := some slot } } 1).okReply p 0x9001 4
        (bytesOf 1 slot) 1) := by
  have written := writeEntry_update (s := s) named
  refine exec_of_gate may.1 rfl ?_
  rw [State.firmwareUpdate] at written
  split at written
  · next refused => rw [if_pos refused]; exact pathWrite_of_state may (e := updateEntry) (by decide) (by decide) written
  · next taken => rw [if_neg taken]; exact pathWrite_of_ok may (e := updateEntry) (by decide) (by decide) written

/-- A slot that verifies is activated. -/
theorem exec_firmwareActivate (may : s.pathMay p (.firmwareActivate p slot)) : exec (.firmwareActivate p slot) s = .next
    (if s.slotVerifies slot then
        State.okReply { s with secure := { s.secure with active := slot } } p 0x9001 5 (bytesOf 1 slot) 1
      else s.badReply p 0x9001 5 (bytesOf 1 slot) 1 7) := by
  have written := writeEntry_activate (s := s) named
  refine exec_of_gate may.1 rfl ?_
  rw [State.firmwareActivate] at written
  split at written
  · next good => rw [if_pos good]; exact pathWrite_of_ok may (e := activateEntry) (by decide) (by decide) written
  · next bad => rw [if_neg bad]; exact pathWrite_of_state may (e := activateEntry) (by decide) (by decide) written

end

/-- An update has ended with image `m` in its slot, or with none. -/
def updateEnded (s : State) (slot : Nat) (m : Option Image) (status : Nat) : State :=
  (State.setSlot { s with secure := { s.secure with update := none } } slot m).updateStatus status

theorem exec_firmwareUpdateComplete {s : State} {ok : Bool} {slot : Nat}
    (crosses : s.crosses (.firmwareUpdateComplete ok) = true) (runs : s.secure.update = some slot) :
    exec (.firmwareUpdateComplete ok) s = .next (updateEnded s slot
      (if s.verifies (s.imageAt (s.dval 0x9001 3 0)) && ok then some (s.imageAt (s.dval 0x9001 3 0)) else none)
      (if !s.verifies (s.imageAt (s.dval 0x9001 3 0)) then 4 else if ok then 3 else 5)) := by
  refine exec_of_gate crosses rfl ?_
  rw [runs]
  rfl

/-! ### The rollback counter (R478, R485) -/

/-- The keys' states with those of a mask revoked. -/
def revokeKeys (mask : Nat) (l : List Nat) (keys : SMap Nat) : SMap Nat :=
  l.foldl (fun ks k => if bit mask k then ks.put k 2 else ks) keys

theorem get_revokeKeys (mask k d : Nat) : ∀ (l : List Nat) (keys : SMap Nat),
    (revokeKeys mask l keys).get k d = if k ∈ l ∧ bit mask k = true then 2 else keys.get k d
  | [], _ => rfl
  | x :: l, keys => by
    rw [revokeKeys, List.foldl_cons, ← revokeKeys, get_revokeKeys mask k d l]
    by_cases last : k ∈ l ∧ bit mask k = true
    · rw [if_pos last, if_pos ⟨List.mem_cons_of_mem _ last.1, last.2⟩]
    · rw [if_neg last]
      by_cases here : k = x
      · subst here
        split <;> simp_all
      · have ne : ¬(k ∈ x :: l ∧ bit mask k = true) := fun h => last ⟨(List.mem_cons.1 h.1).resolve_left here, h.2⟩
        rw [if_neg ne]
        split
        · exact get_put_ne _ _ _ _ _ here
        · rfl

/-- The running image's Svn and RevokeMask have been committed. -/
def committed (s : State) (m : Image) : State :=
  { s with secure := { s.secure with
    counter := some (max s.rollback m.svn), keys := revokeKeys m.revokeMask (List.range 4) s.secure.keys } }

theorem keyState_committed (s : State) (m : Image) {k : Nat} (key : k < 4) :
    (committed s m).keyState k = if bit m.revokeMask k then 2 else s.keyState k :=
  (get_revokeKeys ..).trans (if_congr (and_iff_right (List.mem_range.2 key)) rfl rfl)

section
variable {s : State} {p : DPath} (may : s.pathMay p (.rollbackCommit p))
include may

theorem exec_rollbackCommit {m : Image} (idle : s.secure.update = none) (runs : s.secure.image = some m) :
    exec (.rollbackCommit p) s = .next ((committed s m).okReply p 0x9002 2 [1] 1) := by
  refine exec_of_gate may.1 rfl (pathWrite_command may (by decide) (by decide) ?_)
  show s.rollbackCommit = _
  rw [State.rollbackCommit, idle, if_neg (by decide), runs]
  rfl

theorem exec_rollbackCommit_of_update (updates : s.secure.update.isSome = true) :
    exec (.rollbackCommit p) s = .next (s.badReply p 0x9002 2 [1] 1 7) := by
  refine exec_of_gate may.1 rfl (pathWrite_of_state may (e := commandEntry 0x9002 2) (by decide) (by decide) ?_)
  rw [writeEntry_command _ (by decide)]
  exact if_pos updates

end

/-- Settles O59: a command that its entry takes, or whose clocks run, changes the security block as named and no memory. -/
theorem firmwareCommandsComplete : Obligations.FirmwareCommandsComplete := by
  refine fun s p => ⟨fun crosses => ⟨fun waits good boot => ?_, exec_recoveryAreaPoll_of_none crosses⟩,
    fun slot named may => ⟨fun other idle => ?_, fun refused => ?_⟩, fun slot named may => ⟨fun good => ?_, fun bad => ?_⟩,
    fun ok slot crosses runs => ?_, fun may => ⟨fun m idle runs => ?_, exec_rollbackCommit_of_update may⟩⟩
  · exact ⟨_, exec_recoveryAreaPoll crosses waits good boot, rfl, rfl, rfl, rfl, slotImage_recovered .., rfl⟩
  · refine (exec_firmwareUpdate named may).trans (congrArg _ (if_neg ?_))
    simp [other, idle]
  · exact (exec_firmwareUpdate named may).trans (congrArg _ (if_pos refused))
  · exact (exec_firmwareActivate named may).trans (congrArg _ (if_pos good))
  · exact (exec_firmwareActivate named may).trans (congrArg _ (if_neg (Bool.eq_false_iff.1 bad)))
  · refine ⟨_, exec_firmwareUpdateComplete crosses runs, rfl, slotImage_setSlot .., fun k other =>
      slotImage_setSlot_ne _ _ _ other, ?_, rfl⟩
    rw [updateEnded, State.updateStatus, dval_setDval]
    cases s.verifies (s.imageAt (s.dval 0x9001 3 0)) <;> rfl
  · exact ⟨_, exec_rollbackCommit may idle runs, rfl, fun k key => keyState_committed s m key, rfl, rfl⟩

end Sys2Proof.Proofs
end

section
/-! PROOFS. Throttling (R496 to R498): PWR_STATUS shows the level of each compute die, the larger of the power level and the
die's thermal level. -/

namespace Sys2Proof.Proofs

open Sys2Proof Sys2Proof.Machine Sys2Proof.Laws

-- One proof after another: elaborated side by side, the whole text comes close to the memory its compile may take.
set_option Elab.async false

/-! ### What throttling leaves -/

/-- `t` is `s` but for the power block, its registers and the logbook. -/
structure PowerOnly (s t : State) : Prop where
  same : t = { s with regs := t.regs, log := t.log, power := t.power }
  rword : ∀ sec i o, sec ≠ .power → t.rword sec i o = s.rword sec i o

namespace PowerOnly

theorem refl (s : State) : PowerOnly s s := ⟨rfl, fun _ _ _ _ => rfl⟩

theorem trans {s t u : State} (h : PowerOnly s t) (g : PowerOnly t u) : PowerOnly s u where
  same := by rw [g.same, h.same]
  rword sec i o other := (g.rword sec i o other).trans (h.rword sec i o other)

theorem foldl {α : Type} {f : State → α → State} (step : ∀ s x, PowerOnly s (f s x)) :
    ∀ (l : List α) (s : State), PowerOnly s (l.foldl f s)
  | [], s => refl s
  | x :: l, s => (step s x).trans (foldl step l (f s x))

theorem power (s : State) (p : Power) : PowerOnly s { s with power := p } := ⟨rfl, fun _ _ _ _ => rfl⟩

theorem fset (s : State) {f : Fld} (sec : f.sec = .power) (v : Nat) : PowerOnly s (s.fset f v) := by
  refine ⟨rfl, fun sec' i o other => rword_fset_ne _ _ _ _ _ _ _ _ _ fun same => other ?_⟩
  rw [secNo_inj (regKey_inj same).1, sec]

theorem fcount (s : State) {f : Fld} (sec : f.sec = .power) (n : Nat) : PowerOnly s (s.fcount f n) := by
  unfold State.fcount
  split
  · exact refl s
  · exact fset s sec _

theorem plainStatus (s : State) (d : List Byte) : PowerOnly s (s.plainStatus d) := by
  refine ⟨?_, fun sec i o _ => rword_congr (by simp [State.plainStatus]) _ _ _⟩
  unfold State.plainStatus State.logWrite
  dsimp only
  split <;> rfl

section
variable {s t : State} (h : PowerOnly s t)
include h

theorem hks : t.hks = s.hks := by rw [h.same]

theorem hkOf (d : Nat) : t.hkOf d = s.hkOf d := by rw [State.hkOf, h.hks]; rfl

theorem fget {f : Fld} (sec : f.sec ≠ .power) (c i j : Nat) : t.fget f c i j = s.fget f c i j := by
  rw [State.fget, h.rword _ _ _ sec]; rfl

end

end PowerOnly

/-! ### PWR_STATUS (R496, R502) -/

theorem levelFlds_apart : ∀ d < 4, ∀ e < 4, e ≠ d → fldsApart (levelFld d) 0 0 (levelFld e) 0 0 = true := by decide

theorem levelFld_sec : ∀ d, (levelFld d).sec = .power
  | 0 | 1 | 2 | _ + 3 => rfl

theorem levelFld_apart : ∀ f ∈ [Fld.PWR_STATUS_STATE, .PWR_STATUS_ALERT, .PWR_STATUS_CAUSE], ∀ d < 4,
    fldsApart f 0 0 (levelFld d) 0 0 = true := by decide

theorem fget_levelFld (s : State) (v : Nat) {d : Nat} (die : d < 4) :
    (s.fset (levelFld d) v).fget (levelFld d) = v % 16 := by
  have width : ∀ d < 4, (levelFld d).lo + (levelFld d).w ≤ 32 ∧ (levelFld d).w = 4 := by decide
  obtain ⟨word, four⟩ := width d die
  exact (fget_fset _ _ _ _ _ _ word).trans (congrArg (v % 2 ^ ·) four)

/-- A plain record leaves every field. -/
theorem fget_plainStatus (s : State) (detail : List Byte) (f : Fld) (c i j : Nat) :
    (s.plainStatus detail).fget f c i j = s.fget f c i j := fget_logWrite ..

section
variable (s : State) (cause d : Nat)

/-- The field of a die follows its level, with a record where it changes from 0 or to 0 (R498). -/
def levelShown : State :=
  let t := s.fset (levelFld d) (s.dieLevel d)
  if (s.fget (levelFld d) = 0) = (s.dieLevel d = 0) then t
  else t.plainStatus (List.flatten [bytesOf 1 d, bytesOf 1 (s.dieLevel d), bytesOf 1 cause])

theorem fget_levelShown (f : Fld) (c i j : Nat) :
    (levelShown s cause d).fget f c i j = (s.fset (levelFld d) (s.dieLevel d)).fget f c i j := by
  unfold levelShown
  dsimp only
  split
  · rfl
  · exact fget_plainStatus ..

theorem powerOnly_levelShown : PowerOnly s (levelShown s cause d) := by
  have shown := PowerOnly.fset s (levelFld_sec d) (s.dieLevel d)
  unfold levelShown
  dsimp only
  split
  · exact shown
  · exact shown.trans (.plainStatus ..)

theorem power_levelShown : (levelShown s cause d).power = s.power := by
  unfold levelShown
  dsimp only
  split
  · rfl
  · simp [State.plainStatus]

/-- The levels of several dies. -/
def levelsShown (dies : List Nat) : State := dies.foldl (levelShown · cause ·) s

theorem powerOnly_levelsShown (dies : List Nat) : PowerOnly s (levelsShown s cause dies) :=
  .foldl (fun s d => powerOnly_levelShown s cause d) dies s

theorem power_levelsShown (dies : List Nat) : (levelsShown s cause dies).power = s.power :=
  foldl_keeps State.power (levelShown · cause ·) (fun s d => power_levelShown s cause d) dies s

end

theorem fget_levelsShown (cause : Nat) {e : Nat} (he : e < 4) : ∀ (dies : List Nat) (s : State), (∀ d ∈ dies, d < 4) →
    (levelsShown s cause dies).fget (levelFld e) = if e ∈ dies then s.dieLevel e % 16 else s.fget (levelFld e)
  | [], _, _ => rfl
  | d :: dies, s, four => by
    have rest := fget_levelsShown cause he dies (levelShown s cause d) fun x hx => four x (List.mem_cons_of_mem _ hx)
    have level : (levelShown s cause d).dieLevel e = s.dieLevel e := by
      simp only [State.dieLevel, State.thermalLevel, power_levelShown]
    rw [levelsShown, List.foldl_cons, ← levelsShown, rest, level, fget_levelShown]
    by_cases later : e ∈ dies
    · rw [if_pos later, if_pos (List.mem_cons_of_mem _ later)]
    · rw [if_neg later]
      by_cases here : e = d
      · subst here
        rw [if_pos List.mem_cons_self, fget_levelFld _ _ he]
      · rw [fget_fset_apart _ (levelFlds_apart d (four d List.mem_cons_self) e he here),
          if_neg fun h => (List.mem_cons.1 h).elim here later]

section
variable (s : State) (p : Nat)

theorem powerOnly_powerState : PowerOnly s (s.powerState p) := (PowerOnly.fset s rfl p).trans (.fset _ rfl _)

theorem fget_powerState_state : (s.powerState p).fget .PWR_STATUS_STATE = p % 8 := by
  rw [State.powerState, fget_fset_apart _ (by decide)]
  exact fget_fset _ _ _ _ _ _ (by decide)

theorem fget_powerState_level {d : Nat} (die : d < 4) : (s.powerState p).fget (levelFld d) = s.fget (levelFld d) := by
  rw [State.powerState, fget_fset_apart _ (levelFld_apart _ (by decide) d die),
    fget_fset_apart _ (levelFld_apart _ (by decide) d die)]

end

/-! ### The levels follow what asks for them (R496) -/

theorem powerOnly_syncLevels (s : State) (cause : Nat) : PowerOnly s (s.syncLevels cause) := by
  unfold State.syncLevels
  split
  · exact .refl s
  · exact (powerOnly_levelsShown s cause (List.range 4)).trans (powerOnly_powerState ..)

theorem power_syncLevels (s : State) (cause : Nat) : (s.syncLevels cause).power = s.power := by
  unfold State.syncLevels
  split
  · rfl
  · exact power_levelsShown s cause (List.range 4)

section
variable {s : State} (powered : s.powered = true) (cause : Nat)
include powered

theorem syncLevels_of_powered : s.syncLevels cause = (levelsShown s cause (List.range 4)).powerState
    (if (List.range 4).all fun d => s.dieLevel d = 0 then 2 else 3) := by
  have level : (levelsShown s cause (List.range 4)).dieLevel = s.dieLevel := by
    funext d
    simp only [State.dieLevel, State.thermalLevel, power_levelsShown]
  unfold State.syncLevels
  rw [powered, if_neg (by decide), ← level]
  rfl

theorem fget_syncLevels {d : Nat} (die : d < 4) : (s.syncLevels cause).fget (levelFld d) = s.dieLevel d % 16 := by
  rw [syncLevels_of_powered powered, fget_powerState_level _ _ die,
    fget_levelsShown cause die _ _ fun _ => List.mem_range.1, if_pos (List.mem_range.2 die)]

theorem state_syncLevels : (s.syncLevels cause).fget .PWR_STATUS_STATE =
    if (List.range 4).all fun d => s.dieLevel d = 0 then 2 else 3 := by
  rw [syncLevels_of_powered powered, fget_powerState_state]
  split <;> rfl

end

/-! ### Steps of the levels -/

/-- A step up is counted. -/
def stepCounted (up : Prop) [Decidable up] (f : Fld) (s : State) : State := if up then s.fcount f 1 else s

section
variable (up : Prop) [Decidable up] {f : Fld} (s : State)

theorem powerOnly_stepCounted (sec : f.sec = .power) : PowerOnly s (stepCounted up f s) := by
  unfold stepCounted
  split
  · exact .fcount s sec 1
  · exact .refl s

theorem power_stepCounted : (stepCounted up f s).power = s.power := by
  unfold stepCounted
  split
  · exact fcount_power ..
  · rfl

theorem powered_stepCounted (apart : fldsApart f 0 0 .PWR_STATUS_STATE 0 0 = true) :
    (stepCounted up f s).powered = s.powered := by
  unfold stepCounted
  split
  · rw [State.powered, fget_fcount_apart _ apart]; rfl
  · rfl

end

/-! ### The thermal levels (R498) -/

section
variable (s : State) (d v cause : Nat)

/-- Die `d` has taken thermal level `v`. -/
def thermalSet : State :=
  stepCounted (s.thermalLevel d < v) .PWR_COUNT_THERMAL_STEPS
    { s with power := { s.power with thermal := s.power.thermal.put d v } }

theorem setThermal_eq : s.setThermal d v cause = (thermalSet s d v).syncLevels cause := rfl

theorem power_thermalSet : (thermalSet s d v).power = { s.power with thermal := s.power.thermal.put d v } :=
  power_stepCounted ..

theorem power_setThermal : (s.setThermal d v cause).power = { s.power with thermal := s.power.thermal.put d v } := by
  rw [setThermal_eq, power_syncLevels, power_thermalSet]

theorem powerOnly_setThermal : PowerOnly s (s.setThermal d v cause) :=
  ((PowerOnly.power s _).trans (powerOnly_stepCounted _ _ rfl)).trans (powerOnly_syncLevels _ _)

theorem thermalLevel_setThermal : (s.setThermal d v cause).thermalLevel d = v := by
  rw [State.thermalLevel, power_setThermal]
  exact get_put_same ..

theorem thermalLevel_setThermal_ne {e : Nat} (other : e ≠ d) :
    (s.setThermal d v cause).thermalLevel e = s.thermalLevel e := by
  rw [State.thermalLevel, power_setThermal]
  exact get_put_ne _ _ _ _ _ other

theorem dieLevel_thermalSet : (thermalSet s d v).dieLevel d = max s.power.level v := by
  rw [State.dieLevel, State.thermalLevel, power_thermalSet, get_put_same]

variable {s} (powered : s.powered = true)
include powered

theorem powered_thermalSet : (thermalSet s d v).powered = true :=
  (powered_stepCounted _ _ (by decide)).trans powered

theorem fget_setThermal (die : d < 4) : (s.setThermal d v cause).fget (levelFld d) = max s.power.level v % 16 := by
  rw [setThermal_eq, fget_syncLevels (powered_thermalSet d v powered) _ die, dieLevel_thermalSet]

end

/-- Other dies are marked as held by a regulator's alarm. -/
def marked (s : State) (marks : List Nat) : State := { s with power := { s.power with byAlarm := marks } }

theorem thermalLevel_marked (s : State) (marks : List Nat) (d : Nat) : (marked s marks).thermalLevel d = s.thermalLevel d :=
  rfl

theorem fget_marked (s : State) (marks : List Nat) (f : Fld) : (marked s marks).fget f = s.fget f := rfl

section
variable {s : State} {d : Nat}

theorem thermalTick_of_hot (hot : s.hot d = true) : s.thermalTick d = s.setThermal d (min 8 (s.thermalLevel d + 1)) 2 :=
  if_pos hot

theorem thermalTick_of_alarm (cool : s.hot d = false) (alarm : (s.hkOf d).alarm = true) : s.thermalTick d = s := by
  unfold State.thermalTick
  dsimp only
  rw [if_neg (Bool.eq_false_iff.1 cool), if_pos alarm]

/-- A trigger that has cleared lets the level fall; an alarm's mark goes with the last step. -/
theorem thermalTick_of_cool (cool : s.hot d = false) (quiet : (s.hkOf d).alarm = false) : ∃ cause marks,
    s.thermalTick d = marked (s.setThermal d (s.thermalLevel d - 1) cause) marks := by
  unfold State.thermalTick
  dsimp only
  rw [if_neg (Bool.eq_false_iff.1 cool), if_neg (Bool.eq_false_iff.1 quiet)]
  refine ⟨if d ∈ s.power.byAlarm then 3 else 2, ?_⟩
  generalize s.setThermal d (s.thermalLevel d - 1) (if d ∈ s.power.byAlarm then 3 else 2) = t
  split
  · exact ⟨_, rfl⟩
  · exact ⟨t.power.byAlarm, rfl⟩

theorem exec_thermalLevelTick (powered : s.powered = true) (die : d < 4) :
    exec (.thermalLevelTick d) s = .next (s.thermalTick d) := by
  refine congrArg _ ((if_neg ?_).trans (if_pos die))
  rw [powered]
  decide

end

/-- The hub die's trigger moves the dies that tick, each once. -/
theorem thermalLevel_hubTick {e : Nat} : ∀ (dies : List Nat) (s : State), (s.hkOf 4).thermal = true → dies.Nodup →
    (dies.foldl State.thermalTick s).thermalLevel e =
      if e ∈ dies then min 8 (s.thermalLevel e + 1) else s.thermalLevel e
  | [], _, _, _ => rfl
  | d :: dies, s, trigger, distinct => by
    obtain ⟨fresh, distinct⟩ := List.nodup_cons.1 distinct
    have tick : s.thermalTick d = s.setThermal d (min 8 (s.thermalLevel d + 1)) 2 :=
      thermalTick_of_hot (by rw [State.hot, trigger, Bool.or_true])
    have still : ((s.thermalTick d).hkOf 4).thermal = true := by rw [tick, (powerOnly_setThermal ..).hkOf, trigger]
    rw [List.foldl_cons, thermalLevel_hubTick dies _ still distinct, tick]
    by_cases here : e = d
    · subst here
      rw [if_neg fresh, if_pos List.mem_cons_self, thermalLevel_setThermal]
    · rw [thermalLevel_setThermal_ne _ _ _ _ here]
      exact if_congr (by simp [here]) rfl rfl

/-! ### The power level (R497) -/

/-- The power level after an evaluation that found a mean of `w` against `limit`. -/
def nextPowerLevel (limit w level : Nat) : Nat :=
  if limit < w then min 8 (level + 1) else if w * 100 < 95 * limit then level - 1 else level

/-- Time above level 0 is counted in the power block alone. -/
theorem throttleMs_counted : ∀ (dies : List Nat) (s : State), ∃ ms,
    dies.foldl (fun (s : State) d => if s.dieLevel d = 0 then s else { s with power := { s.power with
      throttleMs := s.power.throttleMs.put d (satAdd 0xFFFFFFFF (s.power.throttleMs.get d 0) 1) } }) s =
    { s with power := { s.power with throttleMs := ms } }
  | [], _ => ⟨_, rfl⟩
  | d :: dies, s => by
    rw [List.foldl_cons]
    split
    · exact throttleMs_counted dies s
    · obtain ⟨ms, h⟩ := throttleMs_counted dies { s with power := { s.power with
        throttleMs := s.power.throttleMs.put d (satAdd 0xFFFFFFFF (s.power.throttleMs.get d 0) 1) } }
      exact ⟨ms, h⟩

/-- The power block with its mean and level after an evaluation. -/
def evaluated (s : State) (w : Nat) (ms : SMap Nat) : State :=
  stepCounted (s.power.level < nextPowerLevel (s.dval 0x5020 2 2800) w s.power.level) .PWR_COUNT_POWER_STEPS
    { s with power := { s.power with
      throttleMs := ms, watts := w, level := nextPowerLevel (s.dval 0x5020 2 2800) w s.power.level } }

section
variable (s : State) (w : Nat) (ms : SMap Nat)

theorem power_evaluated : (evaluated s w ms).power = { s.power with
    throttleMs := ms, watts := w, level := nextPowerLevel (s.dval 0x5020 2 2800) w s.power.level } := power_stepCounted ..

variable {s} (powered : s.powered = true)
include powered

theorem powered_evaluated : (evaluated s w ms).powered = true := (powered_stepCounted _ _ (by decide)).trans powered

theorem exec_powerLimitEvaluation : ∃ ms, exec (.powerLimitEvaluation w) s = .next ((evaluated s w ms).syncLevels 1) := by
  obtain ⟨ms, counted⟩ := throttleMs_counted (List.range 4) s
  refine ⟨ms, congrArg Host.Outcome.next ?_⟩
  rw [powered, if_neg (by decide)]
  dsimp only
  rw [counted]
  rfl

end

/-- Settles O56: a change of a level asked for is a change of the power block that PWR_STATUS then shows. -/
theorem throttleLevelsFollowPowerAndHeat : Obligations.ThrottleLevelsFollowPowerAndHeat := by
  refine fun s => ⟨fun w powered => ?_, fun d die powered => ⟨fun hot => ?_, fun cool quiet => ?_, fun cool alarm => ?_⟩,
    fun powered trigger => ?_⟩
  · obtain ⟨ms, runs⟩ := exec_powerLimitEvaluation w powered
    have on := powered_evaluated w ms powered
    have power := (power_syncLevels (evaluated s w ms) 1).trans (power_evaluated s w ms)
    have level : ((evaluated s w ms).syncLevels 1).dieLevel = (evaluated s w ms).dieLevel := by
      funext d
      simp only [State.dieLevel, State.thermalLevel, power_syncLevels]
    refine ⟨_, runs, by rw [power], ?_, by rw [power], fun above => ?_, fun under => ?_, fun low high => ?_, fun d die => ?_, ?_⟩
    · show bytesOf 4 (roundLane (.fin false ((evaluated s w ms).syncLevels 1).power.watts 0)).1.toNat = _
      rw [power]
    · rw [power]
      exact if_pos above
    · rw [power]
      exact (if_neg (by omega)).trans (if_pos under)
    · rw [power]
      exact (if_neg (by omega)).trans (if_neg (by omega))
    · rw [fget_syncLevels on 1 die, State.dieLevel, State.thermalLevel, power_syncLevels, power_evaluated]
      rfl
    · rw [level]
      exact state_syncLevels on 1
  · refine ⟨_, exec_thermalLevelTick powered die, ?_⟩
    rw [thermalTick_of_hot hot, thermalLevel_setThermal]
    exact ⟨rfl, fget_setThermal _ _ _ powered die⟩
  · obtain ⟨cause, marks, falls⟩ := thermalTick_of_cool cool quiet
    refine ⟨_, exec_thermalLevelTick powered die, ?_⟩
    rw [falls, thermalLevel_marked, fget_marked, thermalLevel_setThermal]
    exact ⟨rfl, fget_setThermal _ _ _ powered die⟩
  · rw [exec_thermalLevelTick powered die, thermalTick_of_alarm cool alarm]
  · refine ⟨(List.range 4).foldl State.thermalTick s, ?_, fun d die => ?_⟩
    · refine congrArg _ ((if_neg ?_).trans rfl)
      rw [powered]
      decide
    · rw [thermalLevel_hubTick _ _ trigger List.nodup_range, if_pos (List.mem_range.2 die)]

end Sys2Proof.Proofs
end

section
/-! PROOFS. Clocks (R456 to R462): every command that needs a clock meets the gate, a PLL that is lost or back changes the
clocks' registers and the start-up block, and events in flight cross when their clock is back. -/

namespace Sys2Proof.Proofs

open Sys2Proof Sys2Proof.Machine Sys2Proof.Laws

-- One proof after another: elaborated side by side, the whole text comes close to the memory its compile may take.
set_option Elab.async false

/-! ### The gate (R458, R460) -/

/-- A command needs no clock, or its meaning stands behind the gate. -/
theorem clocksOf_nil_or_clocked (i : Instr) (s : State) : s.clocksOf i = [] ∨ ∃ o, exec i s = s.clocked i o := by
  cases i
  -- Timetable entries are issued by a sequencer whose clock runs.
  case load | store | stash | unstash | arrayMvm | arrayWriteFull | arrayWriteDelta | matmul | fwadd | drainNarrow |
      drainWide | drainVector | drainFull | vstream | send | recv | route | ret | waitToken | signal | fence | anchorSet |
      anchorScales | anchorDescs | nop | commitPoint => exact .inl rfl
  -- Pins, rails, PLLs, converters and what tests its clocks itself run on HCLK.
  case trimBoundary | fabricRefLoss | mctpDictionaryMessage | logbookI3cRead | mgmtRstPin | surveyEntryEnd | regAlarm |
      thermal | burstSw | burstEntryEnd | selfcalReq | selfcalPeriod | selfcalStart | selfcalEnd | perstAssert | hotReset |
      linkDown | modRstPin | powerInputInRange | undervoltage | overvoltage | criticalTemperature | railOutOfRegulation |
      powerLimitEvaluation | thermalLevelTick | pllLockLoss | pllRelock | clockFail | startupTimeout | powerLoss |
      fabricRefReturn | perstRelease | thermalClear | regAlarmClear | dynamicAddressAssignment | endpointIdAssignment =>
    exact .inl rfl
  all_goals exact .inr ⟨_, rfl⟩

/-- A command that does not cross waits. -/
theorem exec_of_held {s : State} {i : Instr} (needs : s.clocksOf i ≠ []) (held : s.crosses i = false) :
    exec i s = .next (s.hold i) := by
  obtain free | ⟨o, gate⟩ := clocksOf_nil_or_clocked i s
  · exact absurd free needs
  · exact gate.trans (clocked_of_held s held)

/-! ### Bits of CLK_STATUS (R471) -/

theorem bit_setBits_same (x p : Nat) (b : Bool) : bit (setBits x p 1 (b2n b)) p = b := by
  rw [bit, bits_setBits_same]
  cases b <;> decide

theorem bit_setBits_ne (x p v : Nat) {k : Nat} (other : k ≠ p) : bit (setBits x p 1 v) k = bit x k := by
  rw [bit, bits_setBits_other _ _ _ _ _ _ (by omega), bit]

theorem bit_mod32 (x : Nat) {k : Nat} (word : k < 32) : bit (x % 2 ^ 32) k = bit x k := by
  rw [bit, bits_mod32 _ _ _ word, bit]

theorem rword_clkStatus_lt (s : State) : s.rword .clock 0 0 < 2 ^ 32 := by
  unfold State.rword
  split
  · exact BitVec.isLt _
  · decide

/-- One bit of a word of 32 bits is written: the others stay. -/
theorem bit_setBits_mod32_ne {x : Nat} (word : x < 2 ^ 32) (p v : Nat) {k : Nat} (other : k ≠ p) :
    bit (setBits x p 1 v % 2 ^ 32) k = bit x k := by
  by_cases low : k < 32
  · rw [bit_mod32 _ low, bit_setBits_ne _ _ _ other]
  · have high : ∀ y < 2 ^ 32, bit y k = false := fun y hy => by
      rw [bit_eq_testBit]
      exact Nat.testBit_lt_two_pow (Nat.lt_of_lt_of_le hy (Nat.pow_le_pow_right (by decide) (Nat.le_of_not_lt low)))
    rw [high _ (Nat.mod_lt _ (Nat.two_pow_pos 32)), high _ word]

section
variable (s : State) (p : Nat) (b : Bool)

theorem bit_setLock (pll : p < 32) : bit ((s.setLock p b).rword .clock 0 0) p = b := by
  rw [State.setLock, rword_setRword, bit_mod32 _ pll, bit_setBits_same]

theorem bit_setLock_ne {k : Nat} (other : k ≠ p) :
    bit ((s.setLock p b).rword .clock 0 0) k = bit (s.rword .clock 0 0) k := by
  rw [State.setLock, rword_setRword, bit_setBits_mod32_ne (rword_clkStatus_lt s) _ _ other]

theorem rword_setLock {sec : Sec} {i o : Nat} (other : regKey sec i o ≠ regKey .clock 0 0) :
    (s.setLock p b).rword sec i o = s.rword sec i o := rword_setRword_ne _ _ _ _ _ _ _ _ other

end

/-! ### A PLL that loses lock (R458, R459, R467) -/

/-- The clock of a PLL has stopped. -/
def clockStopped (s : State) (p : Nat) : State :=
  State.setLock { s with startup := { s.startup with offPlls := p :: s.startup.offPlls } } p false

/-- The host reference may have gone with PCLK. -/
def refMayStop (s : State) : State :=
  (s.draw 1).2.fset .CLK_STATUS_HOST_REF (b2n (s.fon .CLK_STATUS_HOST_REF && Config.analogFlag s.fresh))

theorem bit_refMayStop (s : State) {k : Nat} (other : k ≠ 27) :
    bit ((refMayStop s).rword .clock 0 0) k = bit (s.rword .clock 0 0) k :=
  (congrArg (bit · k) (rword_fset _ .CLK_STATUS_HOST_REF _ 0 0 0)).trans
    (bit_setBits_mod32_ne (rword_clkStatus_lt s) 27 _ other)

theorem rword_refMayStop (s : State) {sec : Sec} {i o : Nat} (other : regKey sec i o ≠ regKey .clock 0 0) :
    (refMayStop s).rword sec i o = s.rword sec i o := rword_fset_ne _ _ _ _ _ _ _ _ _ other

section
variable {s : State} {p : Nat} (pll : p < 27) (runs : p ∉ s.startup.offPlls)
  (locked : bit (s.rword .clock 0 0) p = true ∨ (s.startup.state = 0 ∧ s.fget .PWR_STATUS_STATE = 1))
include pll runs locked

theorem exec_pllLockLoss : exec (.pllLockLoss p) s =
    .next (if p = 25 then refMayStop (clockStopped s p) else clockStopped s p) := by
  refine congrArg Host.Outcome.next (if_neg ?_)
  rintro (high | off | ⟨unlocked, running⟩)
  · exact Nat.not_le.2 pll high
  · exact runs off
  · obtain on | power := locked
    · simp [on] at unlocked
    · exact running power

end

/-! ### A PLL that locks again (R458, R462) -/

/-- A PLL has locked again: relocks are counted, and no event is in flight into its clock any more. -/
def clockBack (s : State) (p : Nat) : State := ((s.relocked p).arrived p).2

/-- PCLK brings the host reference. -/
def refBack (s : State) (p : Nat) : State := if p = 25 then s.fset .CLK_STATUS_HOST_REF 1 else s

theorem fget_clockBack (s : State) (p : Nat) {f : Fld} (sec : f.sec ≠ .clock) (c i j : Nat) :
    (clockBack s p).fget f c i j = s.fget f c i j := by
  show (State.fcount (State.setLock _ p true) .CLK_COUNT_RELOCKS 1).fget f c i j = _
  rw [State.fcount, if_neg (by decide), fget_fset_sec _ _ _ _ _ _ _ _ _ _ sec, State.fget, rword_setLock]
  · rfl
  · exact fun same => sec (secNo_inj (regKey_inj same).1)

theorem runs_of_back (s : State) {p : Nat} (pll : p < 27) : (refBack (clockBack s p) p).runs [p] = true := by
  have off : (refBack (clockBack s p) p).startup.offPlls = s.startup.offPlls.filter (· ≠ p) := by
    unfold refBack
    split
    · simp [clockBack, State.arrived, State.relocked, State.setLock]
    · simp [clockBack, State.arrived, State.relocked, State.setLock]
  simp [State.runs, off, firmwareAway, Nat.ne_of_lt pll]

/-- While MCLK runs the firmware's interrupts arrive. -/
theorem foldl_fwIrq : ∀ (es : List Nat) (s : State), s.runs [26] = true →
    ∃ irqs, es.foldl State.fwIrq s = { s with mgmt := { s.mgmt with irqs := irqs } }
  | [], _, _ => ⟨_, rfl⟩
  | e :: es, s, on => by
    have now : s.fwIrq e = { s with mgmt := { s.mgmt with irqs := s.mgmt.irqs.modify e 0 (· + 1) } } := if_pos on
    rw [List.foldl_cons, now]
    obtain ⟨irqs, rest⟩ := foldl_fwIrq es { s with mgmt := { s.mgmt with irqs := s.mgmt.irqs.modify e 0 (· + 1) } } on
    exact ⟨irqs, rest⟩

/-- While PCLK runs the host's vectors arrive. -/
theorem foldl_raiseVector : ∀ (es : List Nat) (s : State), s.runs [25] = true →
    ∃ host, es.foldl State.raiseVector s = { s with host := host }
  | [], _, _ => ⟨_, rfl⟩
  | e :: es, s, on => by
    have now : ∃ host, s.raiseVector e = { s with host := host } := by
      rw [State.raiseVector, State.event, if_pos on]
      dsimp only
      split <;> exact ⟨_, rfl⟩
    obtain ⟨host, now⟩ := now
    rw [List.foldl_cons, now]
    obtain ⟨host', rest⟩ := foldl_raiseVector es { s with host := host } on
    exact ⟨host', rest⟩

/-- The firmware that finds no request waiting goes on. -/
theorem serveWaiting_of_none {s : State} (none : s.mgmt.waiting = []) (idle : s.fon .WIN_STATUS_BUSY = false) :
    s.serveWaiting = s := by
  have same : { s with mgmt := { s.mgmt with waiting := [] } } = s := by rw [← none]
  unfold State.serveWaiting
  rw [none, List.foldl_nil, same]
  exact if_neg (by rw [idle, Bool.and_false]; decide)

section
variable {s : State} {p : Nat} (off : p ∈ s.startup.offPlls) (able : p ∉ s.startup.failedPlls)
include off able

/-- A relock is the clock's return, and what was in flight into it. -/
theorem exec_pllRelock (pll : p < 27) (quiet : p = 26 → s.fon .WIN_STATUS_BUSY = false ∧ s.mgmt.waiting = []) :
    ∃ mgmt host, exec (.pllRelock p) s = .next { refBack (clockBack s p) p with mgmt := mgmt, host := host } := by
  have on := runs_of_back s pll
  have acts : exec (.pllRelock p) s = .next
      (if p = 26 then (((s.relocked p).arrived p).1.foldl State.fwIrq (clockBack s p)).serveWaiting
        else if p = 25 then ((s.relocked p).arrived p).1.foldl State.raiseVector
          ((clockBack s p).fset .CLK_STATUS_HOST_REF 1)
        else clockBack s p) :=
    congrArg Host.Outcome.next (if_neg (not_or.2 ⟨not_not.2 off, able⟩))
  rw [acts]
  by_cases mclk : p = 26
  · have other : p ≠ 25 := by omega
    obtain ⟨idle, none⟩ := quiet mclk
    rw [refBack, if_neg other] at on ⊢
    rw [if_pos mclk]
    subst mclk
    obtain ⟨irqs, arrived⟩ := foldl_fwIrq ((s.relocked 26).arrived 26).1 (clockBack s 26) on
    refine ⟨_, _, congrArg Host.Outcome.next ((congrArg State.serveWaiting arrived).trans (serveWaiting_of_none none ?_))⟩
    exact (congrArg (decide <| · ≠ 0) (fget_clockBack s 26 (by decide) 0 0 0)).trans idle
  · rw [if_neg mclk]
    by_cases pclk : p = 25
    · rw [refBack, if_pos pclk] at on ⊢
      rw [if_pos pclk]
      subst pclk
      obtain ⟨host, arrived⟩ := foldl_raiseVector ((s.relocked 25).arrived 25).1 _ on
      rw [arrived]
      exact ⟨_, _, rfl⟩
    · rw [refBack, if_neg pclk, if_neg pclk]
      exact ⟨_, _, rfl⟩

end

section
variable (s : State) (p : Nat)

theorem startup_back : (refBack (clockBack s p) p).startup = { s.startup with
    offPlls := s.startup.offPlls.filter (· ≠ p), relocks := satAdd 0xFFFFFFFF s.startup.relocks 1,
    inFlight := s.startup.inFlight.filter (·.1 ≠ p) } := by
  unfold refBack
  split <;> rfl

theorem mem_back : (refBack (clockBack s p) p).mem = s.mem := by
  unfold refBack
  split <;> rfl

theorem cores_back : (refBack (clockBack s p) p).cores = s.cores := by
  unfold refBack
  split <;> rfl

theorem job_back : (refBack (clockBack s p) p).job = s.job := by
  unfold refBack
  split <;> rfl

theorem relocks_back : (refBack (clockBack s p) p).fget .CLK_COUNT_RELOCKS =
    min 65535 (s.fget .CLK_COUNT_RELOCKS + 1) := by
  have back : (clockBack s p).fget .CLK_COUNT_RELOCKS = min 65535 (s.fget .CLK_COUNT_RELOCKS + 1) := by
    refine (fget_fcount _ _ _ _ _ _ (by decide)).trans ?_
    rw [State.fget, rword_setLock _ _ _ (by decide)]
    rfl
  unfold refBack
  split
  · rw [fget_fset_apart _ (by decide), back]
  · exact back

theorem bit_back (pll : p < 27) : bit ((refBack (clockBack s p) p).rword .clock 0 0) p = true := by
  have back : bit ((clockBack s p).rword .clock 0 0) p = true := by
    refine (congrArg (bit · p) (rword_fset_ne _ _ _ _ _ _ _ _ _ (by decide))).trans ?_
    exact bit_setLock _ _ _ (by omega)
  unfold refBack
  split
  · refine (congrArg (bit · p) (rword_fset _ .CLK_STATUS_HOST_REF 1 0 0 0)).trans ?_
    exact (bit_setBits_mod32_ne (rword_clkStatus_lt _) 27 1 (by omega)).trans back
  · exact back

end

/-- A PLL that has failed stays stopped (R459). -/
theorem exec_pllRelock_of_failed {s : State} {p : Nat} (failed : p ∈ s.startup.failedPlls) :
    exec (.pllRelock p) s = .next s := congrArg Host.Outcome.next (if_pos (.inr failed))

/-! ### A PLL that does not lock again (R459) -/

/-- CLOCK_FAIL is set, and its record written. -/
def clockFailed (s : State) (p : Nat) : State :=
  let t := State.fset { s with startup := { s.startup with failedPlls := p :: s.startup.failedPlls } } .CLK_STATUS_CLOCK_FAIL 1
  t.statusRecord .clockFail (locHub p) (t.rword .clock 0 0)

theorem exec_clockFail {s : State} {p : Nat} (off : p ∈ s.startup.offPlls) (able : p ∉ s.startup.failedPlls) :
    exec (.clockFail p) s = .next (clockFailed s p) :=
  congrArg Host.Outcome.next (if_neg (not_or.2 ⟨not_not.2 off, able⟩))

section
variable (s : State) (p : Nat)

theorem startup_clockFailed : (clockFailed s p).startup = { s.startup with failedPlls := p :: s.startup.failedPlls } := by
  rw [clockFailed, State.statusRecord, logWrite_startup]
  rfl

theorem clockFail_clockFailed : (clockFailed s p).fget .CLK_STATUS_CLOCK_FAIL = 1 := by
  rw [clockFailed, State.statusRecord, fget_logWrite]
  exact fget_fset _ _ _ _ _ _ (by decide)

end

/-! ### Events into a stopped clock (R462) -/

section
variable {s : State} {src : Nat} (stopped : s.runs [26] = false)
include stopped

/-- The first event of a source stays in flight. -/
theorem fwIrq_of_first (first : (26, src) ∉ s.startup.inFlight) :
    s.fwIrq src = { s with startup := { s.startup with inFlight := s.startup.inFlight ++ [(26, src)] } } :=
  (if_neg (Bool.eq_false_iff.1 stopped)).trans (if_neg first)

/-- A further one is merged into it by X12. -/
theorem fwIrq_of_inFlight (there : (26, src) ∈ s.startup.inFlight) : s.fwIrq src = s.merge 2 1 :=
  (if_neg (Bool.eq_false_iff.1 stopped)).trans (if_pos there)

end

section
variable (s : State)

/-- XING_OVERRUN with the bit of X12. -/
def x12Set : State := s.setRword .clock 0 8 (s.rword .clock 0 8 ||| 2 ^ 2)

theorem fget_merge (f : Fld) : (s.merge 2 1).fget f = ((x12Set s).fcount .XING_OVERRUN_OVERRUN_COUNT 1).fget f := rfl

theorem fget_x12Set {f : Fld} (reg : f.sec = .clock ∧ f.addr 0 0 = 8) (word : f.lo + f.w ≤ 32) :
    (x12Set s).fget f = bits (s.rword .clock 0 8 ||| 2 ^ 2) f.lo f.w := by
  obtain ⟨sec, off⟩ := reg
  rw [State.fget, sec, off, x12Set, rword_setRword, bits_mod32 _ _ _ word]

theorem x12_merge : (s.merge 2 1).fget .XING_OVERRUN_X12 = 1 := by
  rw [fget_merge, fget_fcount_apart _ (by decide), fget_x12Set _ (by decide) (by decide)]
  have set : bit (s.rword .clock 0 8 ||| 2 ^ 2) 2 = true := by
    rw [bit_eq_testBit, Nat.testBit_or, Nat.testBit_two_pow_self, Bool.or_true]
  exact of_decide_eq_true set

theorem count_merge : (s.merge 2 1).fget .XING_OVERRUN_OVERRUN_COUNT =
    min 65535 (s.fget .XING_OVERRUN_OVERRUN_COUNT + 1) := by
  rw [fget_merge, fget_fcount _ _ _ _ _ _ (by decide), fget_x12Set _ (by decide) (by decide)]
  refine congrArg (min 65535 <| · + 1) (bits_congr fun b low _ => ?_)
  have other : (2 ^ 2).testBit b = false := by
    rw [Nat.testBit_two_pow_of_ne]
    exact fun same => absurd (same ▸ low) (by decide)
  rw [Nat.testBit_or, other, Bool.or_false]
  rfl

end

/-- Settles O57: the gate holds what does not cross, and the clocks' own commands change the start-up block and the clocks'
registers, with what was in flight. -/
theorem clockCommandsComplete : Obligations.ClockCommandsComplete := by
  refine ⟨fun s i needs held => exec_of_held needs held, fun s src stopped => ⟨fwIrq_of_first stopped, fun there => ?_⟩,
    fun s p pll => ⟨fun runs locked => ?_, fun off able => ⟨fun quiet => ?_, ?_⟩, exec_pllRelock_of_failed⟩⟩
  · rw [fwIrq_of_inFlight stopped there]
    exact ⟨by simp [State.merge], x12_merge s, count_merge s⟩
  · have acts := exec_pllLockLoss pll runs locked
    have stops := bit_setLock { s with startup := { s.startup with offPlls := p :: s.startup.offPlls } } p false (by omega)
    have others {k : Nat} (other : k ≠ p) := bit_setLock_ne
      { s with startup := { s.startup with offPlls := p :: s.startup.offPlls } } p false other
    by_cases pclk : p = 25
    · rw [if_pos pclk] at acts
      refine ⟨_, acts, List.mem_cons_self, fun q => List.mem_cons.1, ?_, fun k hk href => ?_, fun h => absurd pclk h,
        fun sec i o other => ?_, rfl, rfl, rfl, rfl⟩
      · exact (bit_refMayStop _ (by omega)).trans stops
      · exact (bit_refMayStop _ href).trans (others hk)
      · exact (rword_refMayStop _ other).trans (rword_setLock _ _ _ other)
    · rw [if_neg pclk] at acts
      exact ⟨_, acts, List.mem_cons_self, fun q => List.mem_cons.1, stops, fun k hk _ => others hk,
        fun _ => others (by omega), fun sec i o other => rword_setLock _ _ _ other, rfl, rfl, rfl, rfl⟩
  · obtain ⟨mgmt, host, acts⟩ := exec_pllRelock off able pll quiet
    have startup := startup_back s p
    refine ⟨_, acts, ?_, fun q other => ?_, bit_back s p pll, relocks_back s p, ?_, ?_, fun e he => ?_, mem_back s p,
      cores_back s p, job_back s p⟩
    · simp [startup]
    · simp [startup, other]
    · simp [startup, satAdd]
    · simp [startup]
    · have there : e ∈ s.startup.inFlight.filter (·.1 ≠ p) := by simpa [startup] using he
      simpa using (List.mem_filter.1 there).2
  · have startup := startup_clockFailed s p
    refine ⟨_, exec_clockFail off able, clockFail_clockFailed s p, ?_, ?_, exec_pllRelock_of_failed ?_, ?_, ?_, ?_,
      sequence_statusRecord ..⟩
    · simp [startup]
    · simpa [startup] using off
    · simp [startup]
    · simp [clockFailed, State.statusRecord]
    · simp [clockFailed, State.statusRecord]
    · simp [clockFailed, State.statusRecord]

end Sys2Proof.Proofs
end

section
/-! PROOFS. Power and resets (R463 to R467, R494, R495, R499): a reset keeps the converters' registers and RESET_CAUSE and
clears the rest, and a protective shutdown leaves its cause in what is then dark. -/

namespace Sys2Proof.Proofs

open Sys2Proof Sys2Proof.Machine Sys2Proof.Laws

-- One proof after another: elaborated side by side, the whole text comes close to the memory its compile may take.
set_option Elab.async false

/-! ### Maps and folds over registers -/

/-- A map of the keys that pass a test. -/
theorem find?_filter_keys {α : Type} (q : Nat → Bool) (a : Nat) :
    ∀ m : SMap α, SMap.find? (m.filter fun r => q r.1) a = if q a then m.find? a else none
  | [] => (ite_self _).symm
  | (k, v) :: r => by
    have rest := find?_filter_keys q a r
    by_cases here : k = a
    · subst here
      cases kept : q k
      · simpa [List.filter_cons, kept] using rest
      · simp [kept, SMap.find?]
    · cases kept : q k
      · simpa [List.filter_cons, kept, SMap.find?, here] using rest
      · simpa [List.filter_cons, kept, SMap.find?, here] using rest

section
variable {α : Type} (f : α → Fld) (i : α → Nat) (v a : Nat)

/-- One field of several registers is set. -/
def fieldsSet (l : List α) (s : State) : State := l.foldl (fun s x => s.fset (f x) v a (i x)) s

theorem fieldsSet_same : ∀ (l : List α) (s : State), fieldsSet f i v a l s = { s with regs := (fieldsSet f i v a l s).regs }
  | [], _ => rfl
  | x :: l, s => by
    have rest := fieldsSet_same l (s.fset (f x) v a (i x))
    exact rest

theorem fget_fieldsSet [DecidableEq α] (y : α) (word : (f y).lo + (f y).w ≤ 32) : ∀ (l : List α) (s : State),
    (∀ x ∈ l, x ≠ y → fldsApart (f x) (i x) 0 (f y) (i y) 0 = true) →
    (fieldsSet f i v a l s).fget (f y) a (i y) = if y ∈ l then v % 2 ^ (f y).w else s.fget (f y) a (i y)
  | [], _, _ => rfl
  | x :: l, s, apart => by
    have rest := fget_fieldsSet y word l (s.fset (f x) v a (i x)) fun z hz => apart z (List.mem_cons_of_mem _ hz)
    rw [fieldsSet, List.foldl_cons, ← fieldsSet, rest]
    by_cases later : y ∈ l
    · rw [if_pos later, if_pos (List.mem_cons_of_mem _ later)]
    · rw [if_neg later]
      by_cases here : x = y
      · subst here
        rw [if_pos List.mem_cons_self, fget_fset _ _ _ _ _ _ word]
      · rw [fget_fset_apart _ (apart x List.mem_cons_self here), if_neg fun h => (List.mem_cons.1 h).elim (Ne.symm here) later]

end

/-! ### What a power-down of the firmware abandons (R434, R436, R485) -/

/-- A store and an update in progress are abandoned. -/
def abandoned (s : State) : State := s.abandonStore.abandonUpdate

section
variable (s : State)

theorem abandoned_same : abandoned s = { s with
    mgmt := (abandoned s).mgmt, secure := (abandoned s).secure, dict := (abandoned s).dict } := by
  have store : s.abandonStore = { s with
      mgmt := s.abandonStore.mgmt, secure := s.abandonStore.secure, dict := s.abandonStore.dict } := by
    unfold State.abandonStore
    split <;> rfl
  unfold abandoned State.abandonUpdate
  split
  · exact store
  · rw [store]
    rfl

theorem abandoned_pending : (abandoned s).pending = s.pending := by rw [abandoned_same]
theorem abandoned_regs : (abandoned s).regs = s.regs := by rw [abandoned_same]
theorem abandoned_hks : (abandoned s).hks = s.hks := by rw [abandoned_same]
theorem abandoned_log : (abandoned s).log = s.log := by rw [abandoned_same]
theorem abandoned_powerOns : (abandoned s).phys.powerOns = s.phys.powerOns := by rw [abandoned_same]

/-- The dictionary shows the store and the update, and nothing else of it changes. -/
theorem dval_abandoned {x y : Nat} (store : dkey x y ≠ dkey 0x1010 2) (update : dkey x y ≠ dkey 0x9001 6) (d : Nat) :
    (abandoned s).dval x y d = s.dval x y d := by
  have first : s.abandonStore.dval x y d = s.dval x y d := by
    unfold State.abandonStore
    split
    · rfl
    · exact dval_setDval_ne _ _ _ _ _ _ _ store
  unfold abandoned State.abandonUpdate
  split
  · exact first
  · exact (dval_setDval_ne _ _ _ _ _ _ _ update).trans first

theorem copies_abandoned (none : s.mgmt.storing = none) : (abandoned s).mgmt.copies = s.mgmt.copies := by
  have first : s.abandonStore = s := by
    unfold State.abandonStore
    rw [none]
  unfold abandoned State.abandonUpdate
  rw [first]
  split <;> rfl

end

/-! ### What a reset keeps (R463, R464) -/

theorem regKey_section (sec : Sec) (i o : Nat) : regKey sec i o / 65536 / 4096 = secNo sec := by
  unfold regKey
  omega

section
variable (s : State)

/-- A register of HCLK's domain is kept, and every other takes its reset value. -/
theorem rword_cleared (sec : Sec) (i o : Nat) :
    s.cleared.rword sec i o = if hclkReg (regKey sec i o) then s.rword sec i o else resetReg sec i o := by
  unfold State.rword
  rw [show s.cleared.regs = s.regs.filter (fun r => hclkReg r.1) from rfl, find?_filter_keys hclkReg]
  cases hclkReg (regKey sec i o) <;> rfl

theorem rword_cleared_hk (i o : Nat) : s.cleared.rword .hk i o = s.rword .hk i o := by
  rw [rword_cleared, if_pos]
  simp [hclkReg, regKey_section]

theorem rword_cleared_other {sec : Sec} {i o : Nat} (hk : sec ≠ .hk) (cause : regKey sec i o ≠ regKey .clock 0 0xC) :
    s.cleared.rword sec i o = resetReg sec i o := by
  have number : secNo sec ≠ secNo .hk := fun same => hk (secNo_inj same)
  rw [rword_cleared, if_neg]
  simp [hclkReg, regKey_section, number, cause]

theorem fget_cleared_cause {f : Fld} (reg : f.sec = .clock ∧ f.addr 0 0 = 0xC) : s.cleared.fget f = s.fget f := by
  obtain ⟨sec, off⟩ := reg
  rw [State.fget, sec, off, rword_cleared, if_pos (by decide), State.fget, sec, off]

/-- A count since power-up is kept. -/
theorem dval_cleared {x y : Nat} (kept : dkey x y ∈ sincePowerUp) (d : Nat) : s.cleared.dval x y d = s.dval x y d := by
  unfold State.dval SMap.get
  rw [show s.cleared.dict = s.dict.filter (fun r => decide (r.1 ∈ sincePowerUp)) from rfl,
    find?_filter_keys (fun k => decide (k ∈ sincePowerUp)), if_pos (decide_eq_true kept)]

end

/-! ### A module reset (R463, R465, R472) -/

/-- The module after a reset, before its cause is shown. -/
def resetDone (s : State) : State :=
  { (abandoned s).cleared with startup := { (abandoned s).cleared.startup with
    state := b2n s.powered, refs := (s.rword .clock 0 0 &&& refBits) ||| s.startup.refs } }

/-- RESET_CAUSE shows the cause and the count. -/
def resetShown (s : State) (cause : Nat) : State :=
  (((resetDone s).fset .PWR_STATUS_STATE (if s.powered then 2 else 1)).fset .RESET_CAUSE_LAST cause).fcount
    .RESET_CAUSE_MODULE_RESETS 1

theorem moduleReset_of_on {s : State} (on : s.fget .PWR_STATUS_STATE ≠ 0) (cause : Nat) :
    s.moduleReset cause = resetShown s cause := if_neg on

theorem moduleReset_of_off {s : State} (off : s.fget .PWR_STATUS_STATE = 0) (cause : Nat) :
    s.moduleReset cause = s := if_pos off

section
variable (s : State) (cause : Nat)

theorem last_resetShown : (resetShown s cause).fget .RESET_CAUSE_LAST = cause % 8 := by
  rw [resetShown, fget_fcount_apart _ (by decide)]
  exact fget_fset _ _ _ _ _ _ (by decide)

theorem resets_resetShown : (resetShown s cause).fget .RESET_CAUSE_MODULE_RESETS =
    min 65535 (s.fget .RESET_CAUSE_MODULE_RESETS + 1) := by
  have kept : (resetDone s).fget .RESET_CAUSE_MODULE_RESETS = s.fget .RESET_CAUSE_MODULE_RESETS :=
    (fget_cleared_cause (abandoned s) (by decide)).trans (fget_congr (abandoned_regs s) _ _ _ _)
  rw [resetShown, fget_fcount _ _ _ _ _ _ (by decide), fget_fset_apart _ (by decide), fget_fset_apart _ (by decide), kept]
  rfl

theorem state_resetShown : (resetShown s cause).fget .PWR_STATUS_STATE = if s.powered then 2 else 1 := by
  rw [resetShown, fget_fcount_apart _ (by decide), fget_fset_apart _ (by decide), fget_fset _ _ _ _ _ _ (by decide)]
  split <;> rfl

/-- What a module reset clears without its registers. -/
theorem resetShown_same : resetShown s cause = { resetDone s with regs := (resetShown s cause).regs } := by
  rw [resetShown, State.fcount, if_neg (by decide)]
  rfl

theorem rword_resetShown {sec : Sec} {i o : Nat} (clock : regKey sec i o ≠ regKey .clock 0 0xC)
    (power : regKey sec i o ≠ regKey .power 0 0) : (resetShown s cause).rword sec i o = (abandoned s).cleared.rword sec i o := by
  rw [resetShown, State.fcount, if_neg (by decide)]
  exact (rword_fset_ne _ .RESET_CAUSE_MODULE_RESETS _ 0 0 0 _ _ _ clock).trans
    ((rword_fset_ne _ .RESET_CAUSE_LAST _ 0 0 0 _ _ _ clock).trans (rword_fset_ne _ .PWR_STATUS_STATE _ 0 0 0 _ _ _ power))

end

/-- ModuleReset is answered before it resets the module (R472). -/
theorem exec_moduleReset {s : State} {p : DPath} (may : s.pathMay p (.moduleReset p)) :
    exec (.moduleReset p) s = .next ((s.okReply p 0x1600 3 [1] 1).moduleReset 2) := by
  have found : findEntry 0x1600 3 = some (commandEntry 0x1600 3) := by decide
  have written : s.writeEntry (commandEntry 0x1600 3) [1] = (dOk, s) := writeEntry_command s (by decide)
  have serving : s.serving = true := may.2.1
  refine exec_of_gate may.1 rfl ?_
  simp only [State.pathWrite, State.arrives, serving, if_true, State.serveOne, Bool.false_eq_true, if_false, State.serveWhole,
    found]
  rw [mayWrite_of_pathMay may (by decide), if_pos rfl, writeFrom_plain (by decide), written]
  rfl

/-! ### A protective shutdown (R499) -/

/-- The shutdown is recorded, with its cause. -/
def shutRecorded (s : State) (cause : Nat) : State :=
  (s.plainStatus [BitVec.ofNat 8 cause]).setDval 0x5020 6 cause

/-- The rails that the cause turns off are off: the dies', or all but the always-on one. -/
def railsOff (s : State) (cause : Nat) : State :=
  if cause ≤ 2 then (shutRecorded s cause).diesOff else (abandoned (shutRecorded s cause)).cleared

/-- Memory is gone, and no level is asked for. -/
def dark (s : State) (cause : Nat) : State :=
  { railsOff s cause with mem := [], memBad := [], power := { throttleMs := (railsOff s cause).power.throttleMs } }

/-- No die is throttled. -/
def levelsOff (s : State) : State := fieldsSet levelFld (fun _ => 0) 0 0 (List.range 4) s

theorem powerOnly_levelsOff (s : State) : PowerOnly s (levelsOff s) :=
  .foldl (fun s d => .fset s (levelFld_sec d) 0) (List.range 4) s

theorem fget_levelsOff (s : State) {d : Nat} (die : d < 4) : (levelsOff s).fget (levelFld d) = 0 := by
  have word : ∀ d < 4, (levelFld d).lo + (levelFld d).w ≤ 32 := by decide
  refine (fget_fieldsSet levelFld (fun _ => 0) 0 0 d (word d die) _ _ fun e he other => ?_).trans
    ((if_pos (List.mem_range.2 die)).trans (Nat.zero_mod _))
  exact levelFlds_apart e (List.mem_range.1 he) d die (Ne.symm other)

/-- The shutdown as PWR_STATUS shows it. -/
def shutDown (s : State) (cause : Nat) : State := ((levelsOff (dark s cause)).powerState 4).fset .PWR_STATUS_CAUSE cause

theorem protect_of_on {s : State} (on : s.fget .PWR_STATUS_STATE ≠ 0) (live : s.fget .PWR_STATUS_STATE ≠ 4) (cause : Nat) :
    s.protect cause = shutDown s cause := if_neg (not_or.2 ⟨on, live⟩)

section
variable (s : State) (cause : Nat)

theorem shutDown_same : shutDown s cause = { dark s cause with regs := (shutDown s cause).regs } := by
  have levels : levelsOff (dark s cause) = _ := fieldsSet_same ..
  rw [shutDown, levels]
  rfl

theorem powerOnly_shutDown : PowerOnly (dark s cause) (shutDown s cause) :=
  ((powerOnly_levelsOff _).trans (powerOnly_powerState ..)).trans (.fset _ rfl _)

theorem state_shutDown : (shutDown s cause).fget .PWR_STATUS_STATE = 4 := by
  rw [shutDown, fget_fset_apart _ (by decide), fget_powerState_state]

theorem alert_shutDown : (shutDown s cause).fget .PWR_STATUS_ALERT = 1 := by
  rw [shutDown, fget_fset_apart _ (by decide)]
  exact fget_fset _ _ _ _ _ _ (by decide)

theorem cause_shutDown (known : cause < 8) : (shutDown s cause).fget .PWR_STATUS_CAUSE = cause :=
  (fget_fset _ _ _ _ _ _ (by decide)).trans (Nat.mod_eq_of_lt known)

theorem level_shutDown {d : Nat} (die : d < 4) : (shutDown s cause).fget (levelFld d) = 0 := by
  rw [shutDown, fget_fset_apart _ (levelFld_apart _ (by decide) d die), fget_powerState_level _ _ die,
    fget_levelsOff _ die]

/-- The cause stands in the dictionary, which no rail holds. -/
theorem dval_railsOff : (railsOff s cause).dval 0x5020 6 0 = cause := by
  unfold railsOff
  split
  · exact dval_setDval ..
  · rw [dval_cleared _ (by decide), dval_abandoned _ (by decide) (by decide)]
    exact dval_setDval ..

theorem log_railsOff : (railsOff s cause).log = (s.plainStatus [BitVec.ofNat 8 cause]).log := by
  unfold railsOff
  split
  · rfl
  · exact abandoned_log _

theorem cores_railsOff : (railsOff s cause).cores = [] := by
  unfold railsOff
  split <;> rfl

theorem current_railsOff : (railsOff s cause).job.current = none := by
  unfold railsOff
  split <;> rfl

theorem ready_railsOff : (railsOff s cause).fget .HOST_STATUS_READY = 0 := by
  unfold railsOff
  split
  · exact fget_fset _ _ _ _ _ _ (by decide)
  · rw [State.fget, rword_cleared_other _ (by decide) (by decide)]
    rfl

end

/-- What a protective shutdown leaves. -/
theorem protect_leaves {s : State} {cause : Nat} (known : cause < 8) (on : s.fget .PWR_STATUS_STATE ≠ 0)
    (live : s.fget .PWR_STATUS_STATE ≠ 4) : let t := s.protect cause
    t.fget .PWR_STATUS_STATE = 4 ∧ t.fget .PWR_STATUS_CAUSE = cause ∧ t.fget .PWR_STATUS_ALERT = 1 ∧
      t.dval 0x5020 6 0 = cause ∧ (∀ d, d < 4 → t.fget (levelFld d) = 0) ∧
      t.log = (s.plainStatus [BitVec.ofNat 8 cause]).log ∧ t.cores = [] ∧ t.mem = [] ∧ t.job.current = none ∧
      t.fget .HOST_STATUS_READY = 0 := by
  have same := shutDown_same s cause
  have ready : (shutDown s cause).fget .HOST_STATUS_READY = 0 :=
    ((powerOnly_shutDown s cause).fget (by decide) 0 0 0).trans (ready_railsOff s cause)
  rw [protect_of_on on live]
  refine ⟨state_shutDown .., cause_shutDown _ _ known, alert_shutDown .., ?_, fun d die => level_shutDown _ _ die,
    ?_, ?_, ?_, ?_, ready⟩
  · exact (congrArg (State.dval · 0x5020 6 0) same).trans (dval_railsOff s cause)
  · exact (congrArg State.log same).trans (log_railsOff s cause)
  · exact (congrArg State.cores same).trans (cores_railsOff s cause)
  · exact congrArg State.mem same
  · exact (congrArg (·.job.current) same).trans (current_railsOff s cause)

/-! ### A rail in the power sequence (R467, R469) -/

/-- The logbook and the stage of start-up. -/
def stageParts (s : State) : Log × Nat := (s.log, s.startup.state)

theorem stageParts_raiseVector (s : State) (v : Nat) : stageParts (s.raiseVector v) = stageParts s := by
  unfold State.raiseVector State.event
  split
  · dsimp only
    split <;> rfl
  · split
    · simp [stageParts, State.merge]
    · rfl

theorem stageParts_hostEvent (s : State) (f : Fld) : stageParts (s.hostEvent f) = stageParts s := by
  unfold State.hostEvent State.withEvents
  dsimp only
  split
  · exact stageParts_raiseVector ..
  · rfl

/-- Start-up that has failed writes its record and shows it to the host; memory stays. -/
theorem startFailed_leaves (s : State) (loc : Nat) (detail : List Byte) :
    (s.startFailed loc detail).startup.state = 6 ∧ (s.startFailed loc detail).mem = s.mem ∧ (s.startFailed loc detail).log =
      (s.logWrite recFault 4 Code.selftestFail.number loc (s.rword .power 0 0) 0xFFFFFFFF detail).log := by
  have parts := stageParts_hostEvent { (s.countCode .selftestFail).logWrite recFault 4 Code.selftestFail.number loc
      (s.rword .power 0 0) 0xFFFFFFFF detail with
    startup := { ((s.countCode .selftestFail).logWrite recFault 4 Code.selftestFail.number loc (s.rword .power 0 0)
      0xFFFFFFFF detail).startup with state := 6, recovery := false } } .HOST_EVENT_SELFTEST_FAIL
  obtain ⟨log, state⟩ := Prod.mk.inj parts
  refine ⟨state, ?_, log.trans ?_⟩
  · refine (StepKept.hostEvent _ .HOST_EVENT_SELFTEST_FAIL).mem.trans ?_
    simp
  · unfold State.logWrite
    dsimp only
    rw [apply_ite State.log, apply_ite State.log]
    rfl

/-- Settles O55: what a reset clears and keeps, register by register, and what each way into the dark leaves. -/
theorem powerAndResetsComplete : Obligations.PowerAndResetsComplete := by
  refine fun s p => ⟨fun on => ?_, fun off => ?_, exec_moduleReset, fun off => ?_, fun on => ?_, fun i gone => ?_,
    fun i cause shuts on live => ?_, fun r power sequence => ?_⟩
  · refine ⟨resetShown s 1, congrArg Host.Outcome.next (moduleReset_of_on on 1), last_resetShown .., resets_resetShown ..,
      fun powered => ⟨?_, ?_⟩, fun sec i o hk clock power => ?_, fun i o => ?_, ?_⟩
    · show b2n s.powered = 1
      rw [powered]
      rfl
    · rw [state_resetShown, if_pos powered]
    · rw [rword_resetShown _ _ clock power, rword_cleared_other _ hk clock]
    · have other {sec : Sec} {j x : Nat} (h : sec ≠ .hk) : regKey .hk i o ≠ regKey sec j x :=
        fun same => h (secNo_inj (regKey_inj same).1).symm
      rw [rword_resetShown _ _ (other (by decide)) (other (by decide)), rword_cleared_hk, rword_congr (abandoned_regs s)]
    · rw [resetShown_same]
      exact ⟨abandoned_hks s, abandoned_log s, rfl, rfl, rfl, abandoned_powerOns s, abandoned_pending s⟩
  · exact congrArg Host.Outcome.next (moduleReset_of_off off 1)
  · exact ⟨_, congrArg Host.Outcome.next (if_neg (not_not.2 off)), rfl, fun _ _ _ => rfl, rfl, rfl⟩
  · exact congrArg Host.Outcome.next (if_pos on)
  · have acts : exec i s = .next s.powerOff := by obtain rfl | rfl := gone <;> rfl
    exact ⟨_, acts, fget_fset _ _ _ _ _ _ (by decide), abandoned_log s, rfl, rfl, abandoned_powerOns s,
      copies_abandoned s⟩
  · have acts : exec i s = .next (s.protect cause) ∧ cause < 8 := by
      obtain ⟨rfl, rfl⟩ | ⟨d, die, rfl, rfl⟩ | ⟨rfl, rfl⟩ | ⟨r, later, rfl, rfl⟩ := shuts
      · exact ⟨rfl, by decide⟩
      · exact ⟨congrArg Host.Outcome.next (if_pos die), by decide⟩
      · exact ⟨rfl, by decide⟩
      · exact ⟨congrArg Host.Outcome.next (if_neg fun h => later.elim (absurd h.1) (absurd h.2)), by decide⟩
    exact ⟨_, acts.1, protect_leaves acts.2 on live⟩
  · exact ⟨_, congrArg Host.Outcome.next (if_pos ⟨power, sequence⟩), startFailed_leaves s (locHub r) [0]⟩

end Sys2Proof.Proofs
end

section
/-! PROOFS. Housekeeping converters (R441 to R453, R498): a command changes its converter, the row of one result and the low
registers of its section, HK_CTRL to HK_LIST_CFG, and rows and low registers lie apart. -/

namespace Sys2Proof.Proofs

open Sys2Proof Sys2Proof.Machine Sys2Proof.Laws

-- One proof after another: elaborated side by side, the whole text comes close to the memory its compile may take.
set_option Elab.async false

/-! ### A converter beside its registers -/

section
variable (s : State) (h : Nat) (f : Hk → Hk)

@[simp] theorem hkOf_modHk : (s.modHk h f).hkOf h = f (s.hkOf h) := get_put_same ..

theorem hkOf_modHk_ne {d : Nat} (other : d ≠ h) : (s.modHk h f).hkOf d = s.hkOf d := get_put_ne _ _ _ _ _ other

@[simp] theorem hkOf_fset (g : Fld) (v a i j d : Nat) : (s.fset g v a i j).hkOf d = s.hkOf d := rfl

@[simp] theorem hkOf_fcount (g : Fld) (n a i j d : Nat) : (s.fcount g n a i j).hkOf d = s.hkOf d := by
  rw [State.hkOf, fcount_hks]
  rfl

theorem fget_modHk (g : Fld) (a i j : Nat) : (s.modHk h f).fget g a i j = s.fget g a i j := rfl

end

/-! ### Rows of results and the low registers (R453) -/

/-- A field of the rows HK_RESULT and HK_RINFO. -/
def rowFld (f : Fld) : Bool := decide (0x100 ≤ f.off) && decide (f.off < 0x200) && decide (f.stride = 8)

/-- A field of HK_CTRL to HK_LIST_CFG. -/
def lowFld (f : Fld) : Bool := decide (f.addr 0 0 < 0x100)

section
variable {f g : Fld} {i : Nat} (row : rowFld g = true) (small : i < 64)
include row small

theorem addr_row : 0x100 ≤ g.addr i 0 ∧ g.addr i 0 < 65536 := by
  simp only [rowFld, Bool.and_eq_true, decide_eq_true_eq] at row
  obtain ⟨⟨base, top⟩, stride⟩ := row
  simp only [Fld.addr, stride, Nat.mul_zero]
  omega

variable (low : lowFld f = true)
include low

theorem low_apart_row : fldsApart f 0 0 g i 0 = true ∧ fldsApart g i 0 f 0 0 = true := by
  obtain ⟨base, top⟩ := addr_row row small
  have under : f.addr 0 0 < 0x100 := of_decide_eq_true low
  have other : g.addr i 0 % 65536 ≠ f.addr 0 0 % 65536 := by omega
  simp [fldsApart, other, other.symm]

end

theorem fldsApart_rows {g : Fld} (row : rowFld g = true) {i j : Nat} (hi : i < 64) (hj : j < 64) (other : i ≠ j) :
    fldsApart g i 0 g j 0 = true := by
  have atI := addr_row row hi
  have atJ := addr_row row hj
  simp only [rowFld, Bool.and_eq_true, decide_eq_true_eq] at row
  have apart : g.addr j 0 % 65536 ≠ g.addr i 0 % 65536 := by
    rw [Nat.mod_eq_of_lt atI.2, Nat.mod_eq_of_lt atJ.2]
    simp only [Fld.addr, row.2]
    omega
  simp [fldsApart, apart]

/-- `t` is `s` but for converters and low registers of converter `h`. -/
structure RowsKept (h : Nat) (s t : State) : Prop where
  mem : t.mem = s.mem
  faults : t.faults = s.faults
  row : ∀ g, rowFld g = true → ∀ i < 64, t.fget g h i = s.fget g h i

namespace RowsKept

variable {h : Nat} {s t u : State}

theorem refl (h : Nat) (s : State) : RowsKept h s s := ⟨rfl, rfl, fun _ _ _ _ => rfl⟩

theorem trans (k : RowsKept h s t) (l : RowsKept h t u) : RowsKept h s u :=
  ⟨l.mem.trans k.mem, l.faults.trans k.faults, fun g row i small => (l.row g row i small).trans (k.row g row i small)⟩

theorem modHk (s : State) (h : Nat) (f : Hk → Hk) : RowsKept h s (s.modHk h f) := ⟨rfl, rfl, fun _ _ _ _ => rfl⟩

theorem fset (s : State) (h : Nat) {f : Fld} (low : lowFld f = true) (v : Nat) : RowsKept h s (s.fset f v h) :=
  ⟨rfl, rfl, fun _ row _ small => fget_fset_apart s (low_apart_row row small low).1 h v⟩

theorem hkRest (s : State) (h : Nat) : RowsKept h s (s.hkRest h) := fset s h (by decide) _

theorem beginRound (s : State) (h : Nat) : RowsKept h s (s.beginRound h) := by
  unfold State.beginRound
  dsimp only
  split
  · exact refl h s
  · split
    · exact modHk ..
    · split
      · exact refl h s
      · exact (modHk ..).trans (hkRest ..)

end RowsKept

/-! ### The survey and what a converter goes back to (R447, R450) -/

section
variable (s : State) (h : Nat)

@[simp] theorem hkOf_hkRest (d : Nat) : (s.hkRest h).hkOf d = s.hkOf d := rfl

theorem state_hkRest : (s.hkRest h).fget .HK_STATUS_STATE h =
    if (s.hkOf h).calibrating then 3 else if (s.hkOf h).started then 1 else 0 := by
  refine (fget_fset _ _ _ _ _ _ (by decide)).trans ?_
  split
  · rfl
  · split <;> rfl

section
variable {g : Fld} (apart : fldsApart .HK_STATUS_STATE 0 0 g 0 0 = true)
include apart

theorem fget_hkRest : (s.hkRest h).fget g h = s.fget g h := fget_fset_apart s apart h _

theorem fget_beginRound : (s.beginRound h).fget g h = s.fget g h := by
  unfold State.beginRound
  dsimp only
  split
  · rfl
  · split
    · rfl
    · split
      · rfl
      · rw [fget_hkRest _ _ apart, fget_modHk]

end

/-- A round that begins is the survey's own. -/
theorem hkOf_beginRound : ∃ round place started done, (s.beginRound h).hkOf h =
    { s.hkOf h with round := round, place := place, started := started, roundDone := done } := by
  unfold State.beginRound
  dsimp only
  split
  · exact ⟨_, _, _, _, rfl⟩
  · split
    · exact ⟨_, _, _, _, hkOf_modHk ..⟩
    · split
      · exact ⟨_, _, _, _, rfl⟩
      · exact ⟨_, _, _, _, (hkOf_hkRest _ _ h).trans (hkOf_modHk ..)⟩

end

/-! ### The end of a conversion (R442, R443, R451, R452) -/

/-- `t` is `s` with the result `x` of input `i` written. -/
structure ResultWritten (s t : State) (h i : Nat) (x : Int) (burst : Bool) : Prop where
  mem : t.mem = s.mem
  hk : ∃ oob, t.hkOf h = { s.hkOf h with codes := (s.hkOf h).codes.put i x, burstNew := false, oob := oob }
  code : t.fget .HK_RESULT_CODE h i = packCode i (s.fon .HK_CTRL_PACK h) x % 2 ^ 32
  new : t.fget .HK_RINFO_NEW h i = 1
  burst : t.fget .HK_RINFO_BURST h i = b2n burst
  count : t.fget .HK_RINFO_COUNT h i = (s.fget .HK_RINFO_COUNT h i + 1) % 65536
  low : ∀ g, lowFld g = true → fldsApart .HK_STATUS_STALE_ANY 0 0 g 0 0 = true → t.fget g h = s.fget g h

/-- The row of a result as a conversion leaves it. -/
def rowWritten (s : State) (h i v : Nat) (beyond burst : Bool) : State :=
  let t := ((((s.fset .HK_RESULT_CODE v h i).fset .HK_RINFO_OVER_RANGE (b2n beyond) h i).fset .HK_RINFO_STALE 0 h i).fset
    .HK_RINFO_FAILED 0 h i).fset .HK_RINFO_NEW 1 h i
  (t.fset .HK_RINFO_BURST (b2n burst) h i).fset .HK_RINFO_COUNT (t.fget .HK_RINFO_COUNT h i + 1) h i

section
variable (s : State) (h i v : Nat) (beyond burst : Bool)

theorem code_rowWritten : (rowWritten s h i v beyond burst).fget .HK_RESULT_CODE h i = v % 2 ^ 32 := by
  simp only [rowWritten]
  repeat rw [fget_fset_row _ (by decide)]
  exact fget_fset _ _ _ _ _ _ (by decide)

theorem new_rowWritten : (rowWritten s h i v beyond burst).fget .HK_RINFO_NEW h i = 1 := by
  simp only [rowWritten]
  rw [fget_fset_row _ (by decide), fget_fset_row _ (by decide)]
  exact fget_fset _ _ _ _ _ _ (by decide)

theorem burst_rowWritten : (rowWritten s h i v beyond burst).fget .HK_RINFO_BURST h i = b2n burst := by
  simp only [rowWritten]
  rw [fget_fset_row _ (by decide), fget_fset _ _ _ _ _ _ (by decide)]
  cases burst <;> rfl

theorem count_rowWritten : (rowWritten s h i v beyond burst).fget .HK_RINFO_COUNT h i =
    (s.fget .HK_RINFO_COUNT h i + 1) % 65536 := by
  simp only [rowWritten]
  rw [fget_fset _ _ _ _ _ _ (by decide)]
  repeat rw [fget_fset_row _ (by decide)]
  rfl

theorem low_rowWritten (small : i < 64) {g : Fld} (low : lowFld g = true) :
    (rowWritten s h i v beyond burst).fget g h = s.fget g h := by
  have apart {f : Fld} (row : rowFld f = true) : fldsApart f i 0 g 0 0 = true := (low_apart_row row small low).2
  simp only [rowWritten]
  rw [fget_fset_apart _ (apart (by decide)), fget_fset_apart _ (apart (by decide)), fget_fset_apart _ (apart (by decide)),
    fget_fset_apart _ (apart (by decide)), fget_fset_apart _ (apart (by decide)), fget_fset_apart _ (apart (by decide)),
    fget_fset_apart _ (apart (by decide))]

end

/-- TEMP_OOB follows a temperature. -/
def oobFollowed (s : State) (h i : Nat) : State := if i < (if h < 4 then 16 else 8) then s.syncOob h else s

section
variable (s : State) (h i : Nat)

theorem syncOob_cases : ∃ oob : Bool, s.syncOob h = (s.modHk h fun k => { k with oob := oob }).countCode .tempOob ∨
    s.syncOob h = s.modHk h fun k => { k with oob := oob } := ⟨_, ite_eq_or_eq ..⟩

theorem oobFollowed_keeps : (oobFollowed s h i).mem = s.mem ∧ (oobFollowed s h i).regs = s.regs ∧
    ∃ oob, (oobFollowed s h i).hkOf h = { s.hkOf h with oob := oob } := by
  obtain e | e : oobFollowed s h i = s.syncOob h ∨ oobFollowed s h i = s := ite_eq_or_eq ..
  · obtain ⟨oob, e' | e'⟩ := syncOob_cases s h
    · rw [e, e']
      exact ⟨rfl, rfl, oob, hkOf_modHk s h fun k => { k with oob := oob }⟩
    · rw [e, e']
      exact ⟨rfl, rfl, oob, hkOf_modHk ..⟩
  · rw [e]
    exact ⟨rfl, rfl, _, rfl⟩

end

/-- The converter holds a code before its registers show it. -/
def codeHeld (s : State) (h i : Nat) (x : Int) : State :=
  (s.draw 1).2.modHk h fun k => { k with codes := k.codes.put i x, burstNew := false }

section
variable {s : State} {h i : Nat} {x : Int} (works : i ∉ (s.hkOf h).failed) (above : (hkRange i).1 ≤ x)
  (below : x ≤ (hkRange i).2)
include works above below

/-- A code in range of an input that works is written as it is. -/
theorem hkWrite_of_good (burst : Bool) : ∃ beyond, s.hkWrite h i x burst = oobFollowed
    ((rowWritten (codeHeld s h i x) h i (packCode i (s.fon .HK_CTRL_PACK h) x) beyond burst).syncStale h) h i := by
  have failed : decide (i ∈ (s.hkOf h).failed) = false := decide_eq_false works
  have code : max (hkRange i).1 (min (hkRange i).2 x) = x := by omega
  refine ⟨hkOver i x (Config.analogFlag s.fresh), ?_⟩
  unfold State.hkWrite
  dsimp only
  rw [failed, if_neg Bool.false_ne_true, code]
  rfl

theorem resultWritten_hkWrite (small : i < 64) (burst : Bool) : ResultWritten s (s.hkWrite h i x burst) h i x burst := by
  obtain ⟨beyond, written⟩ := hkWrite_of_good works above below burst
  rw [written]
  have held : (codeHeld s h i x).hkOf h = { s.hkOf h with codes := (s.hkOf h).codes.put i x, burstNew := false } := hkOf_modHk ..
  obtain ⟨mem, regs, oob, hk⟩ := oobFollowed_keeps
    ((rowWritten (codeHeld s h i x) h i (packCode i (s.fon .HK_CTRL_PACK h) x) beyond burst).syncStale h) h i
  have row {g : Fld} (hg : rowFld g = true) := (fget_congr regs g h i 0).trans
    (fget_fset_apart (rowWritten (codeHeld s h i x) h i (packCode i (s.fon .HK_CTRL_PACK h) x) beyond burst)
      (low_apart_row hg small (f := .HK_STATUS_STALE_ANY) (by decide)).1 h _)
  refine ⟨mem, ⟨oob, hk.trans ?_⟩, (row (by decide)).trans (code_rowWritten ..), (row (by decide)).trans (new_rowWritten ..),
    (row (by decide)).trans (burst_rowWritten ..), (row (by decide)).trans (count_rowWritten ..), fun g low apart => ?_⟩
  · exact congrArg (fun k : Hk => { k with oob := oob }) held
  · exact (fget_congr regs g h 0 0).trans ((fget_fset_apart _ apart h _).trans (low_rowWritten _ _ _ _ _ _ small low))

end

/-! ### The end of an entry (R447, R448) -/

section
variable {s : State} {h e : Nat} {x : Int} (conv : h < 5) (on : s.fon .HK_CTRL_ENABLE h = true)
  (works : e % 64 ∉ (s.hkOf h).failed) (above : (hkRange (e % 64)).1 ≤ x) (below : x ≤ (hkRange (e % 64)).2)
include conv on works above below

/-- An entry that is not its round's last ends. -/
theorem exec_surveyEntryEnd (free : (s.hkOf h).burst = none) (idle : (s.hkOf h).calibrating = false)
    (runs : (s.hkOf h).started = true) (entry : (s.hkOf h).round[(s.hkOf h).place]? = some e)
    (more : (s.hkOf h).place + 1 < (s.hkOf h).round.length) (list : s.fget .HK_LIST_CFG_SURVEY_LEN h ≠ 0) :
    exec (.surveyEntryEnd h x) s = .next
      (((s.hkWrite h (e % 64) x false).modHk h fun k => { k with place := k.place + 1 }).hkRest h) := by
  have written := resultWritten_hkWrite works above below (Nat.mod_lt e (by decide)) false
  have goes : decide ((s.hkOf h).round.length ≤ (s.hkOf h).place + 1) = false := decide_eq_false (by omega)
  have stays : decide (((s.hkWrite h (e % 64) x false).modHk h fun k => { k with place := k.place + 1 }).fget
      .HK_LIST_CFG_SURVEY_LEN h = 0) = false := by
    rw [fget_modHk, written.low _ (by decide) (by decide)]
    exact decide_eq_false list
  refine congrArg Host.Outcome.next ((if_neg ?_).trans ?_)
  · simp [on, free, idle, conv]
  · dsimp only
    rw [runs, if_pos rfl, entry]
    dsimp only
    rw [goes, if_neg Bool.false_ne_true, stays]
    rfl

omit works above below in
/-- An entry of a burst ends: the next one is converted, or the survey goes on. -/
theorem exec_burstEntryEnd {list : List Nat} (burst : (s.hkOf h).burst = some list)
    (entry : list[(s.hkOf h).burstPlace]? = some e) : exec (.burstEntryEnd h x) s = .next
      (if (s.hkOf h).burstPlace + 1 < list.length then
        (s.hkWrite h (e % 64) x true).modHk h fun k => { k with burstPlace := k.burstPlace + 1 }
      else ((((s.hkWrite h (e % 64) x true).modHk h fun k =>
        { k with burst := none, burstPlace := 0, burstNew := false }).fset .HK_STATUS_BURST_DONE 1 h).beginRound h).hkRest h) := by
  refine congrArg Host.Outcome.next ((if_neg ?_).trans ?_)
  · simp [on, conv]
  · dsimp only
    rw [burst]
    dsimp only
    rw [entry]

end

/-! ### Triggers (R448, R449) -/

/-- A burst has begun. -/
def burstBegun (s : State) (h b : Nat) : State :=
  ((s.modHk h fun k => { k with burst := some (s.burstList h), burstPlace := 0, burstNew := true }).fset .HK_STATUS_TRIG_CAUSE
    (2 ^ b) h).fset .HK_STATUS_STATE 2 h

section
variable (s : State) (h b : Nat)

@[simp] theorem hkOf_burstBegun : (burstBegun s h b).hkOf h =
    { s.hkOf h with burst := some (s.burstList h), burstPlace := 0, burstNew := true } := by
  rw [burstBegun, hkOf_fset, hkOf_fset, hkOf_modHk]

theorem cause_burstBegun : (burstBegun s h b).fget .HK_STATUS_TRIG_CAUSE h = 2 ^ b % 8 := by
  rw [burstBegun, fget_fset_apart _ (by decide)]
  exact fget_fset _ _ _ _ _ _ (by decide)

theorem state_burstBegun : (burstBegun s h b).fget .HK_STATUS_STATE h = 2 := fget_fset _ _ _ _ _ _ (by decide)

end

/-- A trigger that may have come in the HCLK of the burst's own. -/
def triggerMet (s : State) (h b : Nat) : State :=
  if !(s.hkOf h).burstNew ∨ !Config.analogFlag s.fresh then (s.draw 1).2.dropTrigger h
  else if !bit (s.fget .HK_STATUS_TRIG_CAUSE h) b then
    (s.draw 1).2.fset .HK_STATUS_TRIG_CAUSE (s.fget .HK_STATUS_TRIG_CAUSE h + 2 ^ b) h
  else if b < 2 then (s.draw 1).2.merge 0 1 else (s.draw 1).2

/-- What a trigger can do, said once. -/
theorem hkTrigger_cases (s : State) (h b : Nat) :
    s.hkTrigger h b = s ∨ s.hkTrigger h b = burstBegun s h b ∨ s.hkTrigger h b = triggerMet s h b := by
  unfold State.hkTrigger
  split
  · exact .inl rfl
  · split
    · exact .inr (.inl rfl)
    · exact .inr (.inr rfl)

section
variable (s : State) (h : Nat)

@[simp] theorem hkOf_dropTrigger : (s.dropTrigger h).hkOf h =
    { s.hkOf h with dropped := min 0xFFFFFFFF ((s.hkOf h).dropped + 1) } := by
  rw [State.dropTrigger, hkOf_modHk, hkOf_fcount]
  rfl

@[simp] theorem hkOf_merge (x n : Nat) : (s.merge x n).hkOf h = s.hkOf h := by
  rw [State.hkOf, State.hkOf, show (s.merge x n).hks = s.hks from by simp [State.merge]]

/-- A trigger changes a converter's burst and its count of dropped triggers alone. -/
theorem hkOf_hkTrigger (b : Nat) : ∃ burst place new dropped, (s.hkTrigger h b).hkOf h =
    { s.hkOf h with burst := burst, burstPlace := place, burstNew := new, dropped := dropped } := by
  obtain e | e | e := hkTrigger_cases s h b
  · rw [e]
    exact ⟨_, _, _, _, rfl⟩
  · rw [e]
    exact ⟨_, _, _, _, hkOf_burstBegun ..⟩
  · rw [e]
    unfold triggerMet
    split
    · exact ⟨_, _, _, _, hkOf_dropTrigger ..⟩
    · split
      · exact ⟨_, _, _, _, rfl⟩
      · split
        · exact ⟨_, _, _, _, hkOf_merge ..⟩
        · exact ⟨_, _, _, _, rfl⟩

/-- A trigger leaves the power registers. -/
theorem fget_hkTrigger (b : Nat) {g : Fld} (sec : g.sec = .power) : (s.hkTrigger h b).fget g = s.fget g := by
  have other {f : Fld} (hf : f.sec ≠ .power) (u : State) (v a : Nat) : (u.fset f v a).fget g = u.fget g :=
    fget_fset_sec _ _ _ _ _ _ _ _ _ _ (by rw [sec]; exact hf.symm)
  obtain e | e | e := hkTrigger_cases s h b
  · rw [e]
  · rw [e, burstBegun, other (by decide), other (by decide), fget_modHk]
  · rw [e]
    unfold triggerMet
    split
    · rw [State.dropTrigger, fget_modHk, State.fcount, if_neg (by decide), other (by decide), fget_draw]
    · split
      · rw [other (by decide), fget_draw]
      · split
        · exact (IrqOnly.merge _ 0 1).fget g 0 0 0 (by rw [sec]; decide)
        · rfl

end

section
variable {s : State} {h b : Nat} (conv : h < 5) (on : s.fon .HK_CTRL_ENABLE h = true)
  (enabled : bit (s.fget .HK_CTRL_TRIG_EN h) b = true) (list : s.burstList h ≠ [])
include conv on enabled list

theorem hkTrigger_of_idle (idle : (s.hkOf h).burst = none) : s.hkTrigger h b = burstBegun s h b := by
  unfold State.hkTrigger
  rw [if_neg (by simp [on, enabled, list, conv]), idle]
  rfl

theorem hkTrigger_of_running (running : (s.hkOf h).burst.isSome = true) : s.hkTrigger h b = triggerMet s h b := by
  unfold State.hkTrigger
  rw [if_neg (by simp [on, enabled, list, conv]), running]
  rfl

end

/-- A software trigger that meets a burst is dropped and counted, or stands in TRIG_CAUSE. -/
theorem triggerMet_sw (s : State) (h : Nat) : ((triggerMet s h 2).hkOf h).burst = (s.hkOf h).burst ∧
    ((s.hkOf h).burstNew = false → ((triggerMet s h 2).hkOf h).dropped = min 0xFFFFFFFF ((s.hkOf h).dropped + 1)) ∧
    ((s.hkOf h).burstNew = true → ((triggerMet s h 2).hkOf h).dropped = min 0xFFFFFFFF ((s.hkOf h).dropped + 1) ∨
      bit ((triggerMet s h 2).fget .HK_STATUS_TRIG_CAUSE h) 2 = true) := by
  have dropped : ((s.draw 1).2.dropTrigger h).hkOf h =
      { s.hkOf h with dropped := min 0xFFFFFFFF ((s.hkOf h).dropped + 1) } := hkOf_dropTrigger ..
  unfold triggerMet
  split
  · rw [dropped]
    exact ⟨rfl, fun _ => rfl, fun _ => .inl rfl⟩
  · next met =>
    have new : (s.hkOf h).burstNew = true := by
      cases kept : (s.hkOf h).burstNew
      · exact absurd (.inl (by rw [kept]; rfl)) met
      · rfl
    have late : (s.hkOf h).burstNew ≠ false := by rw [new]; decide
    split
    · next fresh =>
      refine ⟨rfl, fun old => absurd old late, fun _ => .inr ?_⟩
      have small : s.fget .HK_STATUS_TRIG_CAUSE h < 8 := fget_lt ..
      have taken : ∀ c < 8, (!bit c 2) = true → bit ((c + 2 ^ 2) % 2 ^ 3) 2 = true := by decide
      rw [fget_fset _ _ _ _ _ _ (by decide)]
      exact taken _ small fresh
    · next taken =>
      refine ⟨rfl, fun old => absurd old late, fun _ => .inr ?_⟩
      simpa using taken

/-! ### THERMAL and the regulator alarm (R498) -/

section
variable {s : State} {h : Nat}

/-- The alarm of a die on a module with power holds it at level 8. -/
theorem alarmOn_of_powered (die : h < 4) (powered : s.powered = true) : ∃ u : State, s.alarmOn h = u.setThermal h 8 3 ∧
    u.powered = true ∧ u.power.level = s.power.level := by
  have on : (s.modHk h fun k => { k with alarm := true }).powered = true := powered
  unfold State.alarmOn
  dsimp only
  rw [on, if_neg (by simp [die])]
  exact ⟨_, rfl, powered, rfl⟩

theorem alarm_alarmOn : ((s.alarmOn h).hkOf h).alarm = true := by
  have set : ((s.modHk h fun k => { k with alarm := true }).hkOf h).alarm = true := by rw [hkOf_modHk]
  unfold State.alarmOn
  dsimp only
  split
  · exact set
  · rw [(powerOnly_setThermal _ _ _ _).hkOf]
    exact set

theorem level_alarmOn (die : h < 4) (powered : s.powered = true) (limit : s.power.level ≤ 8) :
    (s.alarmOn h).fget (levelFld h) = 8 ∧ (s.alarmOn h).fget .PWR_STATUS_STATE = 3 := by
  obtain ⟨u, alarmed, on, same⟩ := alarmOn_of_powered die powered
  rw [alarmed]
  refine ⟨(fget_setThermal h 8 3 on die).trans ?_, ?_⟩
  · rw [same, Nat.max_eq_right limit]
  · rw [setThermal_eq, state_syncLevels (powered_thermalSet h 8 on), if_neg]
    intro cool
    have level := of_decide_eq_true (List.all_eq_true.1 cool h (List.mem_range.2 die))
    rw [dieLevel_thermalSet] at level
    omega

end

/-! ### Self-calibration (R450) -/

/-- A converter asked for a calibration. -/
def asked (k : Hk) : Hk := if k.calibrating then k else { k with calReq := true }

theorem asked_asked (k : Hk) : asked (asked k) = asked k := by
  by_cases running : k.calibrating = true
  · simp [asked, running]
  · simp [asked, running]

theorem hkOf_selfcalRequest (s : State) {h : Nat} (conv : h < 5) : (s.selfcalRequest h).hkOf h = asked (s.hkOf h) := by
  unfold State.selfcalRequest asked
  by_cases running : (s.hkOf h).calibrating = true
  · rw [if_pos (.inr running), if_pos running]
  · rw [if_neg (by simp [running, conv]), if_neg running, hkOf_modHk]

theorem hkOf_selfcalRequest_ne (s : State) {h d : Nat} (other : d ≠ h) : (s.selfcalRequest h).hkOf d = s.hkOf d := by
  unfold State.selfcalRequest
  split
  · rfl
  · exact hkOf_modHk_ne _ _ _ other

theorem hkOf_selfcalRequests {h : Nat} (conv : h < 5) : ∀ (l : List Nat) (s : State),
    (l.foldl State.selfcalRequest s).hkOf h = if h ∈ l then asked (s.hkOf h) else s.hkOf h
  | [], _ => rfl
  | d :: l, s => by
    rw [List.foldl_cons, hkOf_selfcalRequests conv l]
    by_cases here : h = d
    · subst here
      rw [hkOf_selfcalRequest s conv, asked_asked, ite_self, if_pos List.mem_cons_self]
    · rw [hkOf_selfcalRequest_ne s here]
      exact if_congr (by simp [here]) rfl rfl

theorem hkOf_fieldsSet {α : Type} (f : α → Fld) (i : α → Nat) (v a : Nat) (l : List α) (s : State) (d : Nat) :
    (fieldsSet f i v a l s).hkOf d = s.hkOf d := by
  rw [fieldsSet_same f i v a l s]
  rfl

/-- Calibration runs, and every result is STALE. -/
def calStarted (s : State) (h : Nat) : State :=
  (((fieldsSet (fun _ => Fld.HK_RINFO_STALE) id 1 h (List.range 64) s).modHk h fun k =>
    { k with calReq := false, calibrating := true }).fset .HK_STATUS_STALE_ANY 1 h).hkRest h

section
variable (s : State) (h : Nat)

theorem hkOf_calStarted : (calStarted s h).hkOf h = { s.hkOf h with calReq := false, calibrating := true } := by
  rw [calStarted, hkOf_hkRest, hkOf_fset, hkOf_modHk, hkOf_fieldsSet]

theorem state_calStarted : (calStarted s h).fget .HK_STATUS_STATE h = 3 := by
  rw [calStarted, state_hkRest, hkOf_fset, hkOf_modHk, if_pos rfl]

theorem staleAny_calStarted : (calStarted s h).fget .HK_STATUS_STALE_ANY h = 1 := by
  rw [calStarted, fget_hkRest _ _ (by decide)]
  exact fget_fset _ _ _ _ _ _ (by decide)

theorem stale_calStarted {i : Nat} (small : i < 64) : (calStarted s h).fget .HK_RINFO_STALE h i = 1 := by
  have rest : RowsKept h _ (calStarted s h) := ((RowsKept.modHk _ h _).trans (.fset _ h (by decide) 1)).trans (.hkRest _ h)
  refine (rest.row _ (by decide) i small).trans ?_
  refine (fget_fieldsSet (fun _ => Fld.HK_RINFO_STALE) id 1 h i (by decide) _ _ fun j hj other => ?_).trans ?_
  · exact fldsApart_rows (by decide) (List.mem_range.1 hj) small other
  · exact (if_pos (List.mem_range.2 small)).trans rfl

end

/-- Calibration has ended on coefficients that were taken into `s` or rejected there. -/
def calEnded (s : State) (h : Nat) : State := ((s.modHk h fun k => { k with calibrating := false }).beginRound h).hkRest h

/-- Coefficients out of range are rejected. -/
def calRejected (s : State) (h : Nat) : State := (s.fset .HK_STATUS_HK_CAL_REJECT 1 h).countCode .hkCalReject

section
variable (s : State) (h : Nat)

theorem hkOf_calEnded : ∃ round place started done, (calEnded s h).hkOf h =
    { s.hkOf h with round := round, place := place, started := started, roundDone := done, calibrating := false } := by
  obtain ⟨round, place, started, done, begun⟩ := hkOf_beginRound (s.modHk h fun k => { k with calibrating := false }) h
  refine ⟨round, place, started, done, begun.trans ?_⟩
  rw [hkOf_modHk]

theorem faults_calEnded : (calEnded s h).faults = s.faults :=
  (((RowsKept.modHk s h _).trans (.beginRound _ h)).trans (.hkRest _ h)).faults

theorem fget_calEnded {g : Fld} (apart : fldsApart .HK_STATUS_STATE 0 0 g 0 0 = true) :
    (calEnded s h).fget g h = s.fget g h := by
  rw [calEnded, fget_hkRest _ _ apart, fget_beginRound _ _ apart, fget_modHk]

variable {s h} (conv : h < 5) (running : (s.hkOf h).calibrating = true) (free : (s.hkOf h).burst = none)
include conv running free

theorem exec_selfcalEnd (o g : Int) : exec (.selfcalEnd h o g) s = .next (calEnded
    (if 2 ^ 14 < o.natAbs ∨ 20000 < g.natAbs then calRejected s h
      else s.modHk h fun k => { k with offset := o, gain := g }) h) := by
  refine congrArg Host.Outcome.next (if_neg ?_)
  simp [conv, running, free]

end

/-! ### Reads (R452) -/

/-- A result has been read. -/
def resultRead (s : State) (h i : Nat) : State :=
  State.fset (State.modHk { s with reply := bytesOf 4 (s.fget .HK_RESULT_CODE h i) } h fun k =>
    { k with latched := k.latched.put i (s.rword .hk h (0x104 + 8 * i)) }) .HK_RINFO_NEW 0 h i

theorem exec_hkResultRead {s : State} {h i : Nat} (crosses : s.crosses (.hkResultRead h i) = true) (conv : h < 5)
    (small : i < 64) : exec (.hkResultRead h i) s = .next (resultRead s h i) :=
  exec_of_gate crosses rfl (if_neg (by omega))

/-- Settles O53: a conversion writes one row, a trigger a burst, a calibration its converter, and the low registers follow. -/
theorem converterCommandsComplete : Obligations.ConverterCommandsComplete := by
  refine fun s h conv => ⟨?_, ?_, fun on list => ⟨fun enabled idle => ?_, fun enabled running => ?_, fun enabled idle => ?_⟩,
    ?_, ?_, ?_, ?_, fun idle => ?_, ?_, fun due free idle => ?_, fun o g running free => ⟨fun offset gain => ?_, fun bad => ?_⟩,
    fun i crosses small => ?_⟩
  · intro e x on free idle runs entry more list works above below
    have small := Nat.mod_lt e (show 0 < 64 by decide)
    have written := resultWritten_hkWrite works above below small false
    have kept : RowsKept h (s.hkWrite h (e % 64) x false) _ :=
      (RowsKept.modHk _ h fun k => { k with place := k.place + 1 }).trans (.hkRest _ h)
    obtain ⟨oob, hk⟩ := written.hk
    refine ⟨_, exec_surveyEntryEnd conv on works above below free idle runs entry more list, ?_, ?_,
      (kept.row _ (by decide) _ small).trans written.code, (kept.row _ (by decide) _ small).trans written.new,
      (kept.row _ (by decide) _ small).trans written.burst, (kept.row _ (by decide) _ small).trans written.count,
      kept.mem.trans written.mem⟩
    · rw [hkOf_hkRest, hkOf_modHk, hk]
    · rw [hkOf_hkRest, hkOf_modHk, hk]
      exact get_put_same ..
  · intro list e x on burst entry works above below
    have small := Nat.mod_lt e (show 0 < 64 by decide)
    have written := resultWritten_hkWrite works above below small true
    have acts := exec_burstEntryEnd (x := x) conv on burst entry
    obtain ⟨oob, hk⟩ := written.hk
    by_cases more : (s.hkOf h).burstPlace + 1 < list.length
    · rw [if_pos more] at acts
      refine ⟨_, acts, ?_, written.burst, fun _ => ⟨?_, ?_⟩, fun last => absurd more (Nat.not_lt.2 last)⟩
      · rw [hkOf_modHk, hk]
        exact get_put_same ..
      · rw [hkOf_modHk, hk]
        exact burst
      · rw [hkOf_modHk, hk]
    · rw [if_neg more] at acts
      have kept : RowsKept h (s.hkWrite h (e % 64) x true) _ :=
        (((RowsKept.modHk _ h fun k => { k with burst := none, burstPlace := 0, burstNew := false }).trans
          (.fset _ h (f := .HK_STATUS_BURST_DONE) (by decide) 1)).trans (.beginRound _ h)).trans (.hkRest _ h)
      obtain ⟨round, place, started, done, begun⟩ := hkOf_beginRound (((s.hkWrite h (e % 64) x true).modHk h fun k =>
        { k with burst := none, burstPlace := 0, burstNew := false }).fset .HK_STATUS_BURST_DONE 1 h) h
      rw [hkOf_fset, hkOf_modHk, hk] at begun
      refine ⟨_, acts, ?_, (kept.row _ (by decide) _ small).trans written.burst, fun next => absurd next more,
        fun _ => ⟨?_, ?_⟩⟩
      · rw [hkOf_hkRest, begun]
        exact get_put_same ..
      · rw [hkOf_hkRest, begun]
      · rw [fget_hkRest _ _ (by decide), fget_beginRound _ _ (by decide)]
        exact fget_fset _ _ _ _ _ _ (by decide)
  · refine ⟨_, congrArg Host.Outcome.next (hkTrigger_of_idle conv on enabled list idle), ?_, ?_, cause_burstBegun ..,
      state_burstBegun ..⟩
    · rw [hkOf_burstBegun]
    · rw [hkOf_burstBegun]
  · exact ⟨_, congrArg Host.Outcome.next (hkTrigger_of_running conv on enabled list running), triggerMet_sw s h⟩
  · have idle' : ((s.modHk h fun k => { k with thermal := true }).hkOf h).burst = none := by rw [hkOf_modHk]; exact idle
    refine ⟨_, congrArg Host.Outcome.next ((if_neg (Nat.not_le.2 conv)).trans
      (hkTrigger_of_idle conv on enabled list idle')), ?_, cause_burstBegun .., ?_⟩
    · rw [hkOf_burstBegun, hkOf_modHk]
    · rw [hkOf_burstBegun]
      rfl
  · obtain ⟨burst, place, new, dropped, hk⟩ := hkOf_hkTrigger (s.alarmOn h) h 0
    refine ⟨_, congrArg Host.Outcome.next (if_neg (Nat.not_le.2 conv)), ?_, fun die powered limit => ?_⟩
    · rw [hk]
      exact alarm_alarmOn
    · rw [fget_hkTrigger _ _ _ (levelFld_sec h), fget_hkTrigger _ _ _ rfl]
      exact level_alarmOn die powered limit
  · obtain ⟨burst, place, new, dropped, hk⟩ := hkOf_hkTrigger (s.modHk h fun k => { k with thermal := true }) h 1
    refine ⟨_, congrArg Host.Outcome.next (if_neg (Nat.not_le.2 conv)), ?_⟩
    rw [hk, hkOf_modHk]
  · exact congrArg Host.Outcome.next (if_neg (Nat.not_le.2 conv))
  · exact congrArg Host.Outcome.next (if_neg (Nat.not_le.2 conv))
  · exact congrArg Host.Outcome.next (if_neg (by simp [conv, idle]))
  · refine ⟨_, rfl, fun idle => ?_, fun running => ?_⟩
    · rw [hkOf_selfcalRequests conv, if_pos (List.mem_range.2 conv), asked, if_neg (by rw [idle]; decide)]
    · rw [hkOf_selfcalRequests conv, if_pos (List.mem_range.2 conv), asked, if_pos running]
  · refine ⟨calStarted s h, congrArg Host.Outcome.next (if_neg (by simp [conv, due, free, idle])), ?_, ?_,
      state_calStarted s h, staleAny_calStarted s h, fun i => stale_calStarted s h⟩
    · rw [hkOf_calStarted]
    · rw [hkOf_calStarted]
  · have acts := exec_selfcalEnd conv running free o g
    rw [if_neg (by omega)] at acts
    obtain ⟨round, place, started, done, hk⟩ := hkOf_calEnded (s.modHk h fun k => { k with offset := o, gain := g }) h
    rw [hkOf_modHk] at hk
    refine ⟨_, acts, ?_, ?_, ?_, faults_calEnded ..⟩
    · rw [hk]
    · rw [hk]
    · rw [hk]
  · have acts := exec_selfcalEnd conv running free o g
    rw [if_pos bad] at acts
    obtain ⟨round, place, started, done, hk⟩ := hkOf_calEnded (calRejected s h) h
    refine ⟨_, acts, ?_, ?_, ?_, ?_⟩
    · rw [hk]
      rfl
    · rw [hk]
      rfl
    · rw [fget_calEnded _ _ (by decide)]
      exact fget_fset _ _ _ _ _ _ (by decide)
    · rw [hk]
  · refine ⟨_, exec_hkResultRead crosses conv small, rfl, fget_fset _ _ _ _ _ _ (by decide), ?_,
      fget_fset_row _ (by decide) _ _ _⟩
    rw [resultRead, hkOf_fset, hkOf_modHk]
    exact find?_put_same ..

end Sys2Proof.Proofs
end
